-- ==== Sys2Proof/Word.lean ====
section
/-! DEFINITION. Word types of the AZ724: the bit fields that cross its pins and the index ranges of its collections
(spec/00_scope.md, Conventions: Numbering; spec/11: R180). Arithmetic on them stands in Machine/Ops.lean. -/

namespace Sys2Proof

/-- One byte of a frame or record. -/
abbrev Byte := BitVec 8

/-- A two-byte field as it crosses the pins, most significant byte first (R180). -/
abbrev Half := BitVec 16

/-- A time-base value in deciseconds; it wraps at 2^32 (spec/00_scope.md, Time). -/
abbrev Time := BitVec 32

/-- A vehicle id, 0 to 65535. -/
abbrev Vehicle := BitVec 16

/-- A route id, 0 to 1023. -/
abbrev Route := BitVec 10

/-- An approach, 0 to 3. -/
abbrev Approach := Fin 4

/-- An index of the priority request table, 0 to 15. -/
abbrev EntryIx := Fin 16

/-- An execution channel, EC0 to EC3. -/
abbrev ChannelIx := Fin 4

/-- A slot of the plan's ring; slot 0 is the coordinated phase. -/
abbrev SlotIx := Fin 6

end Sys2Proof
end

