-- ==== Sys2Proof/Syntax.lean ====
section
/-! DEFINITION. The commands of the AZ724: one constructor per row of spec/opcode_table.json. A controller command
carries its argument bytes as the layout of R184 groups them (a two-byte field is one `Half`, not yet checked);
an event carries what identifies it at the pins or inside the part. -/

namespace Sys2Proof

/-- Phases 1 to 6, matching PG1 to PG6 and PC1 to PC6 (spec/00_scope.md, Numbering). -/
inductive Phase where
  | p1 | p2 | p3 | p4 | p5 | p6
deriving DecidableEq, Repr, Inhabited

/-- The approach receive links (spec/01). -/
inductive RxId where
  | rx0 | rx1
deriving DecidableEq, Repr

/-- The corridor ports: LINK-A toward the lower side, LINK-B toward the higher side (spec/08). -/
inductive PortId where
  | linkA | linkB
deriving DecidableEq, Repr

/-- The blocks that take a reset handed to them by RESET_CORE (R174; the blocks of spec/00_scope.md). The controller
port resets itself at the acceptance. The loops are request intake's; the plan store is the tracker's; the cycle
account is the engine's. -/
inductive Block where
  | rx (r : RxId)
  | intake
  | table
  | tracker
  | engine
  | channels
  | overrideMonitor
  | link (p : PortId)
  | faults
deriving DecidableEq, Repr

/-- One slot record of a STAGE_PLAN command, as carried (R44, R184). -/
structure RawSlot where
  phase : Byte
  g : Half
  gmin : Half
  y : Half
  e : Half
deriving DecidableEq, Repr, Inhabited

/-- The commands: every row of spec/opcode_table.json, in the table's order. -/
inductive Instr where
  /-- POWER_ON_RESET (R135): RST released with the two position straps as sampled. -/
  | powerOnReset (cpos1 cpos0 : Bool)
  /-- START_UP_INTERVAL_END (R170). -/
  | startUpIntervalEnd
  /-- TRANSACTION_START (R169): the falling edge of SCS. -/
  | transactionStart
  /-- BAD_COMMAND (R168): a frame refused as unreadable, with the code byte received, if one was completed. -/
  | badCommand (code : Option Byte)
  /-- NULL (R179). -/
  | null
  /-- READ_STATUS (R175). -/
  | readStatus
  /-- READ_ENTRY (R41). -/
  | readEntry (index : Byte)
  /-- READ_CHANNEL (R121). -/
  | readChannel (index : Byte)
  /-- READ_PHASE (R62, R101). -/
  | readPhase
  /-- READ_LINK (R153). -/
  | readLink (link : Byte)
  /-- READ_FAULT (R166). -/
  | readFault
  /-- POP_OUTCOMES (R176). -/
  | popOutcomes (count : Byte)
  /-- CLEAR_FAULTS (R155). -/
  | clearFaults (map : BitVec 24)
  /-- SET_FAULT_CONTROL (R156). -/
  | setFaultControl (mask severity : BitVec 24) (enable : Byte) (settle : Half)
  /-- CONTAIN (R162). -/
  | contain
  /-- RELEASE (R165). -/
  | release
  /-- STAGE_PLAN (R44). -/
  | stagePlan (cycle : Half) (count : Byte) (slots : Vector RawSlot 6)
  /-- SET_APPROACH (R18). -/
  | setApproach (approach flags phase : Byte) (vFree vFloor margin : Half)
  /-- SET_ROUTE (R11). -/
  | setRoute (index : Byte) (route : Half) (flags mode : Byte)
  /-- SET_CLASS (R14). -/
  | setClass (thresholds : Vector Half 7)
  /-- SET_POLICY (R100). -/
  | setPolicy (budget debtCap repay aMin advTol horizon tStale : Half) (preemption : Byte)
  /-- SET_LINK (R1, R134). -/
  | setLink (link role rate : Byte) (pollInterval replyWindow : Half) (missLimit : Byte)
      (silence ackTimeout nominal tolerance : Half)
  /-- SET_IDENT (R152). -/
  | setIdent (identity : Byte)
  /-- SET_PINS (R16, R120, R123). -/
  | setPins (drive edge : Byte) (filter suspend stuck : Half)
  /-- SET_EVENTS (R178). -/
  | setEvents (enables : Byte)
  /-- LINK_BREAK (R150). -/
  | linkBreak (link : Byte)
  /-- FORCE_GRANT (R95). -/
  | forceGrant (entry action : Byte) (amount : Half)
  /-- CANCEL_CHANNEL (R118). -/
  | cancelChannel (index : Byte)
  /-- OVERRIDE_HOLD with an argument other than CLEAR (R124): 1 is SET, every other value is refused. -/
  | overrideHoldSet (arg : Byte)
  /-- OVERRIDE_HOLD with argument CLEAR (R124). -/
  | overrideHoldClear
  /-- FLUSH_TABLE (R39). -/
  | flushTable
  /-- FLUSH_VISIT (R39). -/
  | flushVisit
  /-- RESET_CORE (R174). -/
  | resetCore
  /-- BLOCK_RESET (R174): one block takes the reset handed to it. -/
  | blockReset (block : Block)
  /-- PLAN_VALIDATION_COMPLETE (R45). -/
  | planValidationComplete
  /-- CHARACTER_RECEIVED (R2, R3): a complete character with its eight data bits and its stop bit. -/
  | characterReceived (rx : RxId) (data : Byte) (stop : Bool)
  /-- RX_BREAK (R2). -/
  | rxBreak (rx : RxId)
  /-- INTER_CHARACTER_GAP (R3). -/
  | interCharacterGap (rx : RxId)
  /-- INTAKE_TAKE (R8). -/
  | intakeTake
  /-- RADIO_FRAME_APPLICATION (R9). -/
  | radioFrameApplication
  /-- HANDOFF_JUDGEMENT (R149). -/
  | handoffJudgement
  /-- LOOP_ITEM (R17). -/
  | loopItem
  /-- STALE_EXPIRY (R34). -/
  | staleExpiry (entry : EntryIx)
  /-- STALE_CHECK (R37). -/
  | staleCheck
  /-- UNCONFIRMED_EXPIRY (R35). -/
  | unconfirmedExpiry (entry : EntryIx)
  /-- EXPIRY_CHECK (R37). -/
  | expiryCheck
  /-- LOOP_ACTIVATION (R15). -/
  | loopActivation (approach : Approach)
  /-- LOOP_CLEAR (R15). -/
  | loopClear (approach : Approach)
  /-- CHECKOUT_STUCK (R16). -/
  | checkoutStuck (approach : Approach)
  /-- GREEN_ONSET (R46, R47 to R56). -/
  | greenOnset (phase : Phase)
  /-- GREEN_DROP (R46, R51). -/
  | greenDrop (phase : Phase)
  /-- CANDIDATE_TURN (R83). -/
  | candidateTurn
  /-- RUN_FROM_TIME_REACHED (R105). -/
  | runFromTimeReached (channel : ChannelIx)
  /-- REMAINING_REACHES_ZERO (R107). -/
  | remainingReachesZero (channel : ChannelIx)
  /-- DEADLINE_REACHED (R111). -/
  | deadlineReached (channel : ChannelIx)
  /-- OVR_RECOGNISED_CHANGE (R122). -/
  | ovrRecognisedChange
  /-- SUSPEND_LIMIT_EXPIRY (R127). -/
  | suspendLimitExpiry
  /-- RESUME_VISIT (R128). -/
  | resumeVisit
  /-- POLL (R139). -/
  | poll (port : PortId)
  /-- REPLY (R141). -/
  | reply (port : PortId)
  /-- TRANSMISSION_END (R144): the last character of the frame a port is sending ends. -/
  | transmissionEnd (port : PortId)
  /-- REPLY_WINDOW_CLOSE (R140). -/
  | replyWindowClose (port : PortId)
  /-- CORRIDOR_FRAME_RECEIVED (R137, R138): the bytes after the sync byte, the two CRC bytes last. -/
  | corridorFrameReceived (port : PortId) (bytes : List Byte)
  /-- CORRIDOR_FRAME_CUT (R137). -/
  | corridorFrameCut (port : PortId)
  /-- SILENCE_TIMEOUT (R141). -/
  | silenceTimeout (port : PortId)
  /-- ACK_DEADLINE (R146): the awaiting item with this message id. -/
  | ackDeadline (port : PortId) (id : Byte)
  /-- BREAK (R151). -/
  | corridorBreak (port : PortId)
  /-- BREAK_SEND_END (R150). -/
  | breakSendEnd (port : PortId)
  /-- SETTLE_TIMEOUT (R163). -/
  | settleTimeout
  /-- UNDECIDED_CHARACTER_LINE_HIGH (R2). -/
  | undecidedCharacterLineHigh (rx : RxId)
  /-- TIME_BASE_DECISECOND (R46, R15, R122, R107): the levels the part samples at the new decisecond. Bit n-1 of
  `pg` is the level of PGn, bit n of `chk` the level of CHKn. -/
  | timeBaseDecisecond (pg : BitVec 6) (chk : BitVec 4) (ovr : Bool)
  /-- RST_LOW (R135). -/
  | rstLow
deriving DecidableEq, Repr

end Sys2Proof
end

