-- ==== Sys2Proof/Decode.lean ====
section
/-! DEFINITION. Reading commands from bits. No row of spec/opcode_table.json gives bits, so a table word spells no
command. The command frames of the controller port have a byte layout of their own (R168, R184): `decodeFrame` reads
one, and `encodeFrame` writes the frame of a command. -/

namespace Sys2Proof

/-- The command a word spells by the bits of spec/opcode_table.json: none, since no row gives bits. -/
def decodeTableWord (_nbits _w : Nat) : Option Instr := none

/-! ## Command frames (R184) -/

/-- Two bytes as a field, most significant first (R180). -/
def joinHalf (hi lo : Byte) : Half := hi ++ lo

/-- A field as two bytes, most significant first (R180). -/
def splitHalf (h : Half) : List Byte := [h.extractLsb' 8 8, h.extractLsb' 0 8]

/-- Three bytes as a fault-kind map, most significant first (R180). -/
def joinMap (b2 b1 b0 : Byte) : BitVec 24 := (b2 ++ b1) ++ b0

/-- A fault-kind map as three bytes, most significant first (R180). -/
def splitMap (m : BitVec 24) : List Byte := [m.extractLsb' 16 8, m.extractLsb' 8 8, m.extractLsb' 0 8]

/-- The length of the arguments a command code takes; none for a code the part does not know (R184). -/
def argumentLength (code : Byte) : Option Nat :=
  match code.toNat with
  | 0x00 => some 0
  | 0x01 => some 0
  | 0x02 => some 1
  | 0x03 => some 1
  | 0x04 => some 0
  | 0x05 => some 1
  | 0x06 => some 0
  | 0x07 => some 1
  | 0x10 => some 3
  | 0x11 => some 9
  | 0x12 => some 0
  | 0x13 => some 0
  | 0x20 => some 57
  | 0x21 => some 9
  | 0x22 => some 5
  | 0x23 => some 14
  | 0x24 => some 15
  | 0x25 => some 16
  | 0x26 => some 1
  | 0x27 => some 8
  | 0x28 => some 1
  | 0x30 => some 1
  | 0x31 => some 4
  | 0x32 => some 1
  | 0x33 => some 1
  | 0x34 => some 0
  | 0x3F => some 0
  | _ => none

/-- The nine bytes of a slot record. -/
def splitSlot (r : RawSlot) : List Byte :=
  r.phase :: (splitHalf r.g ++ splitHalf r.gmin ++ splitHalf r.y ++ splitHalf r.e)

/-- A slot record read from its nine bytes. -/
def joinSlot : List Byte → RawSlot
  | [p, g1, g0, m1, m0, y1, y0, e1, e0] =>
    { phase := p, g := joinHalf g1 g0, gmin := joinHalf m1 m0, y := joinHalf y1 y0, e := joinHalf e1 e0 }
  | _ => default

/-- The slot record that stands at place k of a list of slot records. -/
def slotRecordAt (bs : List Byte) (k : Nat) : RawSlot := joinSlot ((bs.drop (9 * k)).take 9)

/-- Six slot records read from their bytes. -/
def joinSlots (bs : List Byte) : Vector RawSlot 6 :=
  #v[slotRecordAt bs 0, slotRecordAt bs 1, slotRecordAt bs 2, slotRecordAt bs 3, slotRecordAt bs 4, slotRecordAt bs 5]

/-- OVERRIDE_HOLD by its argument: 0 is CLEAR; every other value goes to the row that judges it (R124, R184). -/
def holdCommand (arg : Byte) : Instr := if arg = 0 then .overrideHoldClear else .overrideHoldSet arg

/-- The command of a code with arguments of the right length (R184). -/
def commandOf (code : Byte) (args : List Byte) : Option Instr :=
  match code.toNat, args with
  | 0x00, [] => some .null
  | 0x01, [] => some .readStatus
  | 0x02, [i] => some (.readEntry i)
  | 0x03, [i] => some (.readChannel i)
  | 0x04, [] => some .readPhase
  | 0x05, [l] => some (.readLink l)
  | 0x06, [] => some .readFault
  | 0x07, [n] => some (.popOutcomes n)
  | 0x10, [m2, m1, m0] => some (.clearFaults (joinMap m2 m1 m0))
  | 0x11, [m2, m1, m0, v2, v1, v0, e, t1, t0] =>
    some (.setFaultControl (joinMap m2 m1 m0) (joinMap v2 v1 v0) e (joinHalf t1 t0))
  | 0x12, [] => some .contain
  | 0x13, [] => some .release
  | 0x20, c1 :: c0 :: n :: slots => some (.stagePlan (joinHalf c1 c0) n (joinSlots slots))
  | 0x21, [a, f, p, v1, v0, w1, w0, m1, m0] =>
    some (.setApproach a f p (joinHalf v1 v0) (joinHalf w1 w0) (joinHalf m1 m0))
  | 0x22, [i, r1, r0, f, m] => some (.setRoute i (joinHalf r1 r0) f m)
  | 0x23, [a1, a0, b1, b0, c1, c0, d1, d0, e1, e0, f1, f0, g1, g0] =>
    some (.setClass #v[joinHalf a1 a0, joinHalf b1 b0, joinHalf c1 c0, joinHalf d1 d0, joinHalf e1 e0, joinHalf f1 f0,
      joinHalf g1 g0])
  | 0x24, [a1, a0, b1, b0, c1, c0, d1, d0, e1, e0, f1, f0, g1, g0, p] =>
    some (.setPolicy (joinHalf a1 a0) (joinHalf b1 b0) (joinHalf c1 c0) (joinHalf d1 d0) (joinHalf e1 e0)
      (joinHalf f1 f0) (joinHalf g1 g0) p)
  | 0x25, [l, r, b, p1, p0, w1, w0, m, s1, s0, a1, a0, n1, n0, t1, t0] =>
    some (.setLink l r b (joinHalf p1 p0) (joinHalf w1 w0) m (joinHalf s1 s0) (joinHalf a1 a0) (joinHalf n1 n0)
      (joinHalf t1 t0))
  | 0x26, [i] => some (.setIdent i)
  | 0x27, [d, e, f1, f0, s1, s0, t1, t0] =>
    some (.setPins d e (joinHalf f1 f0) (joinHalf s1 s0) (joinHalf t1 t0))
  | 0x28, [e] => some (.setEvents e)
  | 0x30, [l] => some (.linkBreak l)
  | 0x31, [i, a, n1, n0] => some (.forceGrant i a (joinHalf n1 n0))
  | 0x32, [i] => some (.cancelChannel i)
  | 0x33, [a] => some (holdCommand a)
  | 0x34, [] => some .flushTable
  | 0x3F, [] => some .resetCore
  | _, _ => none

/-- What the port makes of the bytes received between the edges of SCS (R168): no byte is a NULL; an unknown code, a
frame cut short and a wrong length are BAD_COMMAND with the code received; bytes after the frame are ignored. -/
def decodeFrame : List Byte → Instr
  | [] => .null
  | [code] => .badCommand (some code)
  | code :: len :: rest =>
    if argumentLength code = some len.toNat ∧ len.toNat ≤ rest.length then
      (commandOf code (rest.take len.toNat)).getD (.badCommand (some code))
    else .badCommand (some code)

/-! ## Bits on SDI (R168) -/

/-- The bytes completed by the bits sampled on SDI between the edges of SCS, most significant bit first; a byte that the
rising edge cuts short is discarded (R168). -/
def wholeBytes : List Bool → List Byte
  | b7 :: b6 :: b5 :: b4 :: b3 :: b2 :: b1 :: b0 :: rest =>
    BitVec.ofBoolListBE [b7, b6, b5, b4, b3, b2, b1, b0] :: wholeBytes rest
  | _ => []

/-- What the port makes of the bits sampled on SDI in one transaction (R168). One of 1 to 7 bits, whose only byte is cut
short and discarded, has received no byte and is a NULL (assumption 38). -/
def decodeBits (bits : List Bool) : Instr := decodeFrame (wholeBytes bits)

/-! ## Frames of commands (R184) -/

/-- A command frame: code, argument length, arguments (R184). -/
def commandFrame (code : Byte) (args : List Byte) : List Byte := code :: BitVec.ofNat 8 args.length :: args

/-- The frame of a controller command; none for an event and for a frame that could not be read (R184). -/
def encodeFrame : Instr → Option (List Byte)
  | .null => some (commandFrame 0x00 [])
  | .readStatus => some (commandFrame 0x01 [])
  | .readEntry i => some (commandFrame 0x02 [i])
  | .readChannel i => some (commandFrame 0x03 [i])
  | .readPhase => some (commandFrame 0x04 [])
  | .readLink l => some (commandFrame 0x05 [l])
  | .readFault => some (commandFrame 0x06 [])
  | .popOutcomes n => some (commandFrame 0x07 [n])
  | .clearFaults m => some (commandFrame 0x10 (splitMap m))
  | .setFaultControl m v e t => some (commandFrame 0x11 (splitMap m ++ splitMap v ++ e :: splitHalf t))
  | .contain => some (commandFrame 0x12 [])
  | .release => some (commandFrame 0x13 [])
  | .stagePlan c n slots =>
    some (commandFrame 0x20 (splitHalf c ++ n :: (splitSlot slots[0] ++ splitSlot slots[1] ++ splitSlot slots[2]
      ++ splitSlot slots[3] ++ splitSlot slots[4] ++ splitSlot slots[5])))
  | .setApproach a f p v w m => some (commandFrame 0x21 (a :: f :: p :: (splitHalf v ++ splitHalf w ++ splitHalf m)))
  | .setRoute i r f m => some (commandFrame 0x22 (i :: (splitHalf r ++ [f, m])))
  | .setClass t =>
    some (commandFrame 0x23 (splitHalf t[0] ++ splitHalf t[1] ++ splitHalf t[2] ++ splitHalf t[3] ++ splitHalf t[4]
      ++ splitHalf t[5] ++ splitHalf t[6]))
  | .setPolicy a b c d e f g p =>
    some (commandFrame 0x24 (splitHalf a ++ splitHalf b ++ splitHalf c ++ splitHalf d ++ splitHalf e ++ splitHalf f
      ++ splitHalf g ++ [p]))
  | .setLink l r b p w m s a n t =>
    some (commandFrame 0x25 (l :: r :: b :: (splitHalf p ++ splitHalf w ++ m :: (splitHalf s ++ splitHalf a
      ++ splitHalf n ++ splitHalf t))))
  | .setIdent i => some (commandFrame 0x26 [i])
  | .setPins d e f s t => some (commandFrame 0x27 (d :: e :: (splitHalf f ++ splitHalf s ++ splitHalf t)))
  | .setEvents e => some (commandFrame 0x28 [e])
  | .linkBreak l => some (commandFrame 0x30 [l])
  | .forceGrant i a n => some (commandFrame 0x31 (i :: a :: splitHalf n))
  | .cancelChannel i => some (commandFrame 0x32 [i])
  | .overrideHoldSet a => some (commandFrame 0x33 [a])
  | .overrideHoldClear => some (commandFrame 0x33 [0])
  | .flushTable => some (commandFrame 0x34 [])
  | .resetCore => some (commandFrame 0x3F [])
  | .powerOnReset _ _ | .startUpIntervalEnd | .transactionStart | .badCommand _ | .flushVisit | .blockReset _
  | .planValidationComplete | .characterReceived _ _ _ | .rxBreak _ | .interCharacterGap _ | .intakeTake
  | .radioFrameApplication | .handoffJudgement | .loopItem | .staleExpiry _ | .staleCheck | .unconfirmedExpiry _
  | .expiryCheck | .loopActivation _ | .loopClear _ | .checkoutStuck _ | .greenOnset _ | .greenDrop _ | .candidateTurn
  | .runFromTimeReached _ | .remainingReachesZero _ | .deadlineReached _ | .ovrRecognisedChange | .suspendLimitExpiry
  | .resumeVisit | .poll _ | .reply _ | .transmissionEnd _ | .replyWindowClose _ | .corridorFrameReceived _ _
  | .corridorFrameCut _ | .silenceTimeout _ | .ackDeadline _ _ | .corridorBreak _ | .breakSendEnd _ | .settleTimeout
  | .undecidedCharacterLineHigh _ | .timeBaseDecisecond _ _ _ | .rstLow => none

end Sys2Proof
end

