-- ==== Sys2Proof/Config.lean ====
section
/-! DEFINITION. What the spec leaves open and no rule decides: constants with no body, so that nothing can be proved of
their values. Each is read at the next index of the state's counter `freeIndex`. -/

namespace Sys2Proof

/-- Whether containment's trigger reaches a channel before the tracker's notice of leaving IN_STEP, when one fault
brings both (R53, R161: the channel ends with the reason of whichever reaches it first). Assumption 5. -/
opaque Config.containedFirst : Nat → Bool

/-- Whether the count that takes an extension's remaining time to 0 is taken before the drop, the departure from
IN_STEP, the adoption or the suspension recognised at the same decisecond (R107, R126: either outcome). Assumption 10. -/
opaque Config.countFirst : Nat → Bool

/-- Whether the settings of a SET_LINK that waits for a transmission to end come into force when RESET_CORE cuts that
transmission off; R134 and R152 do not say. Assumption 6. -/
opaque Config.cutWriteTakesEffect : Nat → Bool

/-- Whether a receive link still holds an undecided all-zero character after a SET_LINK changes its line rate; R1 states
what becomes of the assembler and the buffer only. Assumption 7. -/
opaque Config.undecidedSurvivesWrite : Nat → Bool

end Sys2Proof
end

