-- ==== Sys2Proof/Machine/Blocks.lean ====
section
/-! DEFINITION. The state of each block of the AZ724 as plain data (spec/00_scope.md, Functional overview). Each record
cites the rule that names its fields. -/

namespace Sys2Proof.Machine

/-! ## Receive links and request intake (spec/01) -/

/-- Line rates of SET_LINK, in their coding order (R184). -/
inductive LineRate where
  | r9600 | r19200 | r38400 | r115200
deriving DecidableEq, Repr

/-- What a request frame asks for (R7). -/
inductive FrameKind where
  | checkIn | update | checkOut | cancel
deriving DecidableEq, Repr

/-- A good request frame as a link holds it: every field as carried (R4, R182). -/
structure RequestFrame where
  approach : Approach
  kind : FrameKind
  seq : BitVec 4
  vehicle : Vehicle
  route : Route
  stopFlag : Bool
  lateness : BitVec 13
  distance : BitVec 11
  speed : BitVec 9
  dwell : BitVec 11
deriving DecidableEq, Repr

/-- A request frame after the reductions of R7. -/
structure Report where
  approach : Approach
  kind : FrameKind
  seq : BitVec 4
  vehicle : Vehicle
  route : Route
  stopFlag : Bool
  lateness : Int
  distance : Nat
  speed : Nat
  dwell : Nat
deriving DecidableEq, Repr

/-- The assembler of a receive link (R3): HUNT, or COLLECT with the bytes stored after the start of frame. -/
inductive Assembler where
  | hunt
  | collect (stored : List Byte)
deriving DecidableEq, Repr

/-- The line state of a receive link (R2): between characters, holding an all-zero character undecided, or inside a
recognised break until the line returns high. -/
inductive LineState where
  | idle | undecided | inBreak
deriving DecidableEq, Repr

/-- One receive link (R1, R2, R3, R5). -/
structure RxLink where
  enabled : Bool
  rate : LineRate
  line : LineState
  assembler : Assembler
  holding : Option RequestFrame
deriving DecidableEq, Repr

/-- Entry side of an approach (R18). -/
inductive EntrySide where
  | none | fromA | fromB
deriving DecidableEq, Repr

/-- Exit side of an approach (R18). -/
inductive ExitSide where
  | none | toA | toB
deriving DecidableEq, Repr

/-- One approach configuration record (R18). -/
structure ApproachConfig where
  enabled : Bool
  link : RxId
  phase : Phase
  entrySide : EntrySide
  exitSide : ExitSide
  vFree : Nat
  vFloor : Nat
  margin : Nat
  loopUse : Bool
deriving DecidableEq, Repr

/-- Route mode (R11). -/
inductive RouteMode where
  | openMode | strict
deriving DecidableEq, Repr

/-- One route table entry (R11); bit n of the mask is the flag of approach n. -/
structure RouteEntry where
  route : Route
  mask : BitVec 4
  cap : Nat
  enabled : Bool
deriving DecidableEq, Repr

/-- The route table and its mode (R11). -/
structure RouteTable where
  entries : Vector RouteEntry 32
  mode : RouteMode
deriving DecidableEq, Repr

/-- A HANDOFF message (R137, R183), its fields as carried. -/
structure HandoffMsg where
  id : Byte
  vehicle : Vehicle
  route : Route
  lateness : Int
  nominal : Nat
  tolerance : Nat
deriving DecidableEq, Repr

/-- The five sources of request intake in their ring order (R8). -/
inductive Source where
  | rx (r : RxId)
  | link (p : PortId)
  | loop
deriving DecidableEq, Repr

/-- The item intake has in progress (R8, R9). A radio item keeps the configuration in force at the take, which R9, R10
and R64 read; a handoff item remembers whether its port has recognised a break since the take (R149). -/
inductive Item where
  | radio (from_ : RxId) (report : Report) (cfg : ApproachConfig) (routes : RouteTable) (classes : Vector Int 7)
  | handoff (from_ : PortId) (msg : HandoffMsg) (sender : Byte) (broken : Bool)
  | loop (approach : Approach)
deriving DecidableEq, Repr

/-- Request intake (R8, R37): round-robin pointer, the item while BUSY, and the checks that have fallen due. -/
structure Intake where
  pointer : Source
  item : Option Item
  staleDue : Vector Bool 16
  expiryDue : Vector Bool 16
deriving DecidableEq, Repr

/-- The recognition state of one check-out loop (R15, R16). `changeAt` is the model's own: the time of the second of
two equal samples that ask for a change LOOP_ACTIVATION or LOOP_CLEAR has not yet taken. -/
structure LoopState where
  lastSample : Bool
  active : Bool
  activation : Time
  stuckReported : Bool
  pending : Bool
  changeAt : Option Time
deriving DecidableEq, Repr

/-! ## The priority request table (spec/02) -/

/-- State of a live entry (R19); GRANTED carries the channel index. -/
inductive EntryState where
  | tracking
  | pending
  | granted (channel : ChannelIx)
deriving DecidableEq, Repr

/-- How an entry was created, with the sender's identity for HANDOFF (R21, R27). -/
inductive Origin where
  | radio
  | handoff (id : Byte)
deriving DecidableEq, Repr

/-- Wanted action and last action of an entry (R28). -/
inductive ActionMark where
  | none | extend | advance
deriving DecidableEq, Repr

/-- The denials of R87, in its table's order. -/
inductive Denial where
  | noneNeeded | far | noPhase | nextCycle | extLimit | advShort | budget | capacity | conflict | noChannel | ridersFull
deriving DecidableEq, Repr

/-- The end reasons of a channel, in the order of the table of R113. -/
inductive EndReason where
  | complete | greenEnded | missed | released | cancelled | preempted | unsynced | planChange | contained | overridden
  | overrideLong
deriving DecidableEq, Repr

/-- An entry's note: a denial or a channel end reason (spec/02, the entry record). -/
inductive Note where
  | denied (d : Denial)
  | ended (r : EndReason)
deriving DecidableEq, Repr

/-- A live entry (spec/02, The entry record). A FREE entry is the absence of one. -/
structure Entry where
  state : EntryState
  vehicle : Vehicle
  route : Route
  approach : Approach
  level : Nat
  lateness : Int
  seq : BitVec 4
  distance : Nat
  speed : Nat
  stopFlag : Bool
  dwell : Nat
  lastUpdate : Time
  windowE : Time
  windowL : Time
  origin : Origin
  confirmed : Bool
  wanted : ActionMark
  note : Option Note
  lastAction : ActionMark
  grantedTotal : Nat
  created : Time
deriving DecidableEq, Repr

/-! ## Plan store and phase tracker (spec/03) -/

/-- One slot of a plan (spec/03, The plan record). -/
structure Slot where
  phase : Phase
  g : Nat
  gmin : Nat
  y : Nat
  e : Nat
deriving DecidableEq, Repr, Inhabited

/-- A plan: cycle length and ring of slots (spec/03, The plan record). -/
structure Plan where
  cycle : Nat
  slots : List Slot
deriving DecidableEq, Repr

/-- The plan store (R43). -/
structure PlanStore where
  active : Option Plan
  staged : Option Plan
deriving DecidableEq, Repr

/-- A STAGE_PLAN's arguments while its validation is in progress (R44). -/
structure RawPlan where
  cycle : Half
  count : Byte
  slots : Vector RawSlot 6
deriving DecidableEq, Repr

/-- The period of the current slot; CLEARANCE carries the drop time (R48). -/
inductive Period where
  | green
  | clearance (drop : Time)
deriving DecidableEq, Repr

/-- The tracker's record while IN_STEP (R48). The last boundary time is always present there. -/
structure StepRecord where
  cur : SlotIx
  period : Period
  onset : Time
  lastBoundary : Time
deriving DecidableEq, Repr

/-- The tracker's state with its record (R48). -/
inductive Tracker where
  | noPlan
  | unsynced
  | inStep (r : StepRecord)
deriving DecidableEq, Repr

/-- One phase green input (R46). `changeAt` is the model's own: the time of the second of two equal samples that ask
for a change GREEN_ONSET or GREEN_DROP has not yet taken. -/
structure PhaseInput where
  lastSample : Bool
  recognised : Bool
  changeAt : Option Time
deriving DecidableEq, Repr

/-! ## Decision engine (spec/05) -/

/-- The cycle account (R97). -/
structure Account where
  charge : Vector Nat 6
  xcur : Nat
  debt : Vector Nat 6
  budgetInForce : Nat
  budgetLeft : Nat
deriving DecidableEq, Repr

/-- The settings of SET_POLICY (R100). -/
structure Policy where
  budget : Nat
  debtCap : Nat
  repay : Nat
  aMin : Nat
  advTol : Nat
  horizon : Nat
  tStale : Nat
  preemption : Bool
deriving DecidableEq, Repr

/-- The pass state (R78, R82): while PASSING, the candidates whose turns are still to come, in order; and the
again-flag. -/
structure Engine where
  pass : Option (List (EntryIx × Vehicle))
  again : Bool
deriving DecidableEq, Repr

/-! ## Execution channels (spec/06) -/

/-- Start cause of a grant (R93, R96). -/
inductive StartCause where
  | decision | forced
deriving DecidableEq, Repr

/-- The action of a channel with the fields only it has (spec/06, The channel record). -/
inductive ChannelAction where
  | extend (remaining : Nat) (runFrom : Time)
  | advance (deadline : Time)
deriving DecidableEq, Repr

/-- The state held before suspension (R117). -/
inductive PriorState where
  | armed | running
deriving DecidableEq, Repr

/-- The state of a non-IDLE channel (R103). -/
inductive RunState where
  | armed
  | running
  | suspended (prior : PriorState)
deriving DecidableEq, Repr

/-- The record of a non-IDLE channel (spec/06, The channel record). -/
structure LiveChannel where
  run : RunState
  action : ChannelAction
  slot : SlotIx
  phase : Phase
  cause : StartCause
  amount : Nat
  riders : List EntryIx
  charges : List (SlotIx × Nat)
  level : Nat
  grantTime : Time
deriving DecidableEq, Repr

/-- An execution channel: its live record, absent while IDLE, and its last end (R102). -/
structure Channel where
  live : Option LiveChannel
  lastEnd : Option (EndReason × Time)
deriving DecidableEq, Repr

/-- Call drive of the call outputs (R120). -/
inductive CallDrive where
  | pushPull | openDrain
deriving DecidableEq, Repr

/-- Override edge (R123). -/
inductive OvrEdge where
  | rising | falling
deriving DecidableEq, Repr

/-- The five settings of SET_PINS (R16, R120, R123). -/
structure PinSettings where
  drive : CallDrive
  edge : OvrEdge
  filter : Nat
  suspendLimit : Nat
  stuckLimit : Nat
deriving DecidableEq, Repr

/-! ## Override monitor (spec/07) -/

/-- Override state; RESUMING carries the channel its check visits next (R125, R128). -/
inductive OverrideState where
  | inactive
  | active
  | resuming (next : ChannelIx)
deriving DecidableEq, Repr

/-- The override monitor (R122, R124, R125, R126). `changeAt` is the model's own: the time of the sample that brought
the run count to the filter time, while OVR_RECOGNISED_CHANGE has not yet taken the change. -/
structure OverrideMonitor where
  recognised : Bool
  runCount : Nat
  changeAt : Option Time
  hold : Bool
  state : OverrideState
  suspendExpiry : Option Time
deriving DecidableEq, Repr

/-! ## Corridor ports (spec/08) -/

/-- Role of a corridor port (R134). -/
inductive Role where
  | off | poller | responder
deriving DecidableEq, Repr

/-- Link state of a corridor port (R136). -/
inductive LinkState where
  | off | syncing | up | down | roleFault
deriving DecidableEq, Repr

/-- The nine settings of a corridor port (R134). -/
structure PortSettings where
  role : Role
  rate : LineRate
  pollInterval : Nat
  replyWindow : Nat
  missLimit : Nat
  silence : Nat
  ackTimeout : Nat
  nominal : Nat
  tolerance : Nat
deriving DecidableEq, Repr

/-- Result of an ACK (R149, R183). -/
inductive AckResult where
  | accepted | duplicate | full | noApproach | route
deriving DecidableEq, Repr

/-- A message of the outgoing queue (R144, R145). A HANDOFF keeps the closed entry's approach and level, and the ack
timeout in force when it was enqueued. -/
inductive OutMsg where
  | handoff (m : HandoffMsg) (approach : Approach) (level : Nat) (ackTimeout : Nat)
  | ack (id : Byte) (result : AckResult)
deriving DecidableEq, Repr

/-- An item of the awaiting-ack list (R146). -/
structure AwaitItem where
  id : Byte
  deadline : Time
  vehicle : Vehicle
  route : Route
  approach : Approach
  level : Nat
deriving DecidableEq, Repr

/-- A corridor frame being sent (R137, R139, R141): POLL or REPLY, as it began. -/
structure OutFrame where
  isReply : Bool
  sender : Byte
  contained : Bool
  msg : Option OutMsg
deriving DecidableEq, Repr

/-- What the port does with its line (R134, R150): listening, sending a frame, or sending a break. -/
inductive LineUse where
  | listening
  | frame (f : OutFrame)
  | sendingBreak
deriving DecidableEq, Repr

/-- A corridor port (spec/08). `replyDue` and `breakWaiting` are the model's own: a valid POLL whose REPLY has not begun
(R141), and an accepted break that waits for the frame being sent (R150). `deferredWrites` holds the settings of the
SET_LINKs that wait for a transmission to end (R134), oldest first (assumption 21). -/
structure CorridorPort where
  settings : PortSettings
  state : LinkState
  outgoing : List OutMsg
  awaiting : List AwaitItem
  received : List (HandoffMsg × Byte)
  nextId : Byte
  missCount : Nat
  peerContained : Bool
  lastPeer : Byte
  acknowledged : Bool
  line : LineUse
  deferredWrites : List PortSettings
  breakWaiting : Bool
  replyDue : Bool
  pollDue : Option Time
  pollStart : Time
  windowClose : Option Time
  silenceExpiry : Option Time
deriving DecidableEq, Repr

/-! ## Faults and containment (spec/09) -/

/-- The nineteen fault kinds, in index order (spec/09, Fault kinds). -/
inductive FaultKind where
  | rx0Framing | rx0Overrun | rx0Check | rx1Framing | rx1Overrun | rx1Check | rxSource
  | linkADown | linkARole | linkACrc | linkBDown | linkBRole | linkBCrc
  | phaseConflict | sequenceBreak | planMissing | cycleLength | advMissed | checkoutStuck
deriving DecidableEq, Repr

/-- The source of a fault occurrence (R154, R157). -/
inductive FaultSource where
  | none
  | rx (r : RxId)
  | link (p : PortId)
  | approach (a : Approach)
deriving DecidableEq, Repr

/-- The fault record (R157). -/
structure FaultRecord where
  valid : Bool
  kind : FaultKind
  time : Time
  source : FaultSource
  vehicle : Option Vehicle
deriving DecidableEq, Repr

/-- The fault recorder (R154): a bit of each map stands for the kind of that index (R180). -/
structure FaultRecorder where
  status : BitVec 19
  mask : BitVec 19
  severity : BitVec 19
  pointer : Option FaultKind
  record : FaultRecord
deriving DecidableEq, Repr

/-- Reason of a containment (R160). -/
inductive ContainReason where
  | fault (k : FaultKind)
  | software
deriving DecidableEq, Repr

/-- Containment state (spec/09, Containment states): SETTLING carries its reason and settle expiry, HELD its reason. -/
inductive ContainState where
  | normal
  | settling (reason : ContainReason) (expiry : Time)
  | held (reason : ContainReason)
deriving DecidableEq, Repr

/-- Containment control with its two settings (R156, R160). -/
structure Containment where
  state : ContainState
  enable : Bool
  settleTimeout : Nat
deriving DecidableEq, Repr

/-! ## Controller port (spec/10) -/

/-- Result codes, in coding order (R171, R184). -/
inductive ResultCode where
  | ok | pending | collided | badCommand | badArg | badState | notFound | notReady
deriving DecidableEq, Repr

/-- A response: echo code, result and data (R168). -/
structure Response where
  echo : Byte
  result : ResultCode
  data : List Byte
deriving DecidableEq, Repr

/-- A transaction in progress (R168, R169, R170): the response it returns on SDO, and whether its command is discarded
because its falling edge lay in the start-up interval. -/
structure Transaction where
  response : Response
  discard : Bool
deriving DecidableEq, Repr

/-- The command state (R172) with the running command's progress: the plan under validation (R44), the flush's next
index and the number it has closed (R39), or the blocks still to take their reset (R174). -/
inductive CommandState where
  | idle
  | stagePlan (raw : RawPlan)
  | flushTable (next : EntryIx) (closed : Nat)
  | resetCore (left : List Block)
deriving DecidableEq, Repr

/-- The six sticky event flags (R177); OUT follows the outcome queue and is not stored. -/
structure StickyEvents where
  ovf : Bool
  flt : Bool
  cnt : Bool
  done : Bool
  plan : Bool
  ovr : Bool
deriving DecidableEq, Repr

/-- Close reasons, in coding order (R29, R185). -/
inductive CloseReason where
  | servedRadio | servedLoop | cancelled | stale | unconfirmedExpired | evicted | flushed
deriving DecidableEq, Repr

/-- Reasons of a REJECTED record, in coding order (R12, R23, R185). -/
inductive RejectReason where
  | route | approach | full
deriving DecidableEq, Repr

/-- Sub-reasons of NOT_SENT, coded 1 to 4 (R145, R185). -/
inductive NotSent where
  | noExit | linkNotUp | peerContained | queueFull
deriving DecidableEq, Repr

/-- Result of a HANDOFF record (R147). -/
inductive HandoffResult where
  | acked (r : AckResult)
  | unconfirmed
  | notSent (why : NotSent)
deriving DecidableEq, Repr

/-- What distinguishes the three kinds of outcome record (R30, R12, R147). -/
inductive OutcomeBody where
  | closed (reason : CloseReason) (lastAction : ActionMark) (grantedTotal : Nat) (origin : Origin)
  | rejected (reason : RejectReason)
  | handoff (result : HandoffResult)
deriving DecidableEq, Repr

/-- An outcome record (R176, R185). -/
structure OutcomeRecord where
  time : Time
  vehicle : Vehicle
  route : Route
  approach : Approach
  level : Nat
  body : OutcomeBody
deriving DecidableEq, Repr

/-- The controller port (R169, R172, R173, R176, R177, R178). -/
structure ControllerPort where
  transaction : Option Transaction
  shortSlot : Option Response
  longSlot : Option Response
  command : CommandState
  collision : Bool
  outcomes : List OutcomeRecord
  events : StickyEvents
  enables : BitVec 7
deriving DecidableEq, Repr

end Sys2Proof.Machine
end

