-- ==== Sys2Proof/Machine/PowerOn.lean ====
section
/-! DEFINITION. The value every block takes at power-on reset, each from the rule it cites. -/

namespace Sys2Proof.Machine

/-- A receive link after power-on reset: enabled at 19200 bit/s (R1), receiver idle, HUNT, buffer empty (R6). -/
def rxPowerOn : RxLink :=
  { enabled := true, rate := .r19200, line := .idle, assembler := .hunt, holding := none }

/-- Intake after power-on reset: IDLE with its pointer at LOOP (R8), no check waiting (R41). -/
def intakePowerOn : Intake :=
  { pointer := .loop, item := none, staleDue := Vector.replicate 16 false, expiryDue := Vector.replicate 16 false }

/-- A loop after power-on reset (R15). The activation time has no reset value in the spec; assumption 2. -/
def loopPowerOn : LoopState :=
  { lastSample := false, active := false, activation := 0, stuckReported := false, pending := false, changeAt := none }

/-- The default approach record for a phase (R18). -/
def approachPowerOn (phase : Phase) : ApproachConfig :=
  { enabled := false, link := .rx0, phase, entrySide := .none, exitSide := .none, vFree := 120, vFloor := 30,
    margin := 20, loopUse := false }

/-- The four approach records after power-on reset: approach n serves phase n + 1 (R18). -/
def approachesPowerOn : Vector ApproachConfig 4 :=
  #v[approachPowerOn .p1, approachPowerOn .p2, approachPowerOn .p3, approachPowerOn .p4]

/-- The route table after power-on reset (R11). -/
def routesPowerOn : RouteTable :=
  { entries := Vector.replicate 32 { route := 0, mask := 0, cap := 0, enabled := false }, mode := .openMode }

/-- The class thresholds after power-on reset (R14). -/
def classesPowerOn : Vector Int 7 := #v[0, 60, 120, 180, 300, 450, 600]

/-- A phase green input after power-on reset (R46). -/
def phaseInputPowerOn : PhaseInput := { lastSample := false, recognised := false, changeAt := none }

/-- The settings of the decision engine after power-on reset (R100). -/
def policyPowerOn : Policy :=
  { budget := 200, debtCap := 600, repay := 100, aMin := 30, advTol := 50, horizon := 900, tStale := 150,
    preemption := true }

/-- The cycle account with every charge, extension and debt 0 and a whole budget (R97). -/
def accountCleared (budget : Nat) : Account :=
  { charge := Vector.replicate 6 0, xcur := 0, debt := Vector.replicate 6 0, budgetInForce := budget,
    budgetLeft := budget }

/-- The engine after power-on reset and RESET_CORE (R78). -/
def engineIdle : Engine := { pass := none, again := false }

/-- A channel after power-on reset and RESET_CORE (R102). -/
def channelIdle : Channel := { live := none, lastEnd := none }

/-- The pin settings after power-on reset (R16, R120, R123). -/
def pinsPowerOn : PinSettings :=
  { drive := .pushPull, edge := .rising, filter := 5, suspendLimit := 600, stuckLimit := 300 }

/-- The stuck limit that the samples use after power-on reset: the setting's power-on value (R16). -/
def stuckLimitPowerOn : Nat := 300

/-- The override monitor after power-on reset and RESET_CORE (R122, R124, R133). -/
def overrideCleared : OverrideMonitor :=
  { recognised := false, runCount := 0, changeAt := none, hold := false, state := .inactive, suspendExpiry := none }

/-- The settings of a corridor port after power-on reset, with the role its strap gives (R134, R135). -/
def portSettingsPowerOn (role : Role) : PortSettings :=
  { role, rate := .r38400, pollInterval := 5, replyWindow := 2, missLimit := 3, silence := 30, ackTimeout := 30,
    nominal := 0, tolerance := 100 }

/-- The link state a role gives (R136). -/
def linkStateOfRole : Role → LinkState
  | .off => .off
  | .poller => .syncing
  | .responder => .syncing

/-- A corridor port with empty queues and cleared fields, before its timers start (R152). The start time of the last
POLL has no reset value in the spec; assumption 2. -/
def portCleared (settings : PortSettings) : CorridorPort :=
  { settings, state := linkStateOfRole settings.role, outgoing := [], awaiting := [], received := [], nextId := 0,
    missCount := 0, peerContained := false, lastPeer := 0, acknowledged := false, line := .listening,
    deferredWrites := [], breakWaiting := false, replyDue := false, pollDue := none, pollStart := 0,
    windowClose := none, silenceExpiry := none }

/-- The role of LINK-A the straps CPOS1 and CPOS0 give (R135): RESPONDER in MIDDLE and TAIL, else OFF. -/
def strapRoleA (cpos1 _cpos0 : Bool) : Role := if cpos1 then .responder else .off

/-- The role of LINK-B the straps CPOS1 and CPOS0 give (R135): POLLER in HEAD and MIDDLE, else OFF. -/
def strapRoleB (cpos1 cpos0 : Bool) : Role := if cpos1 != cpos0 then .poller else .off

/-- The fault record when it is not valid after a reset: every other field 0, the vehicle absent (R167). -/
def faultRecordCleared : FaultRecord :=
  { valid := false, kind := .rx0Framing, time := 0, source := .none, vehicle := none }

/-- The default severity map (spec/09, Fault kinds): CONTAIN for PHASE_CONFLICT, SEQUENCE_BREAK and PLAN_MISSING. -/
def severityPowerOn : BitVec 19 := 0xE000

/-- The fault recorder after power-on reset (R156, R167). -/
def faultsPowerOn : FaultRecorder :=
  { status := 0, mask := 0, severity := severityPowerOn, pointer := none, record := faultRecordCleared }

/-- Containment control after power-on reset (R156, R167). -/
def containmentPowerOn : Containment := { state := .normal, enable := true, settleTimeout := 1800 }

/-- Every sticky event clear (R177). -/
def eventsClear : StickyEvents :=
  { ovf := false, flt := false, cnt := false, done := false, plan := false, ovr := false }

/-- The controller port after power-on reset (R169, R172, R173, R176, R177, R178). -/
def portPowerOn : ControllerPort :=
  { transaction := none, shortSlot := none, longSlot := none, command := .idle, collision := false, outcomes := [],
    events := eventsClear, enables := 0x7F }

/-- The length of the start-up interval in deciseconds (R170). -/
def startUpLength : Nat := 20

end Sys2Proof.Machine
end

