-- ==== Sys2Proof/Machine/State.lean ====
section
/-! DEFINITION. The whole state of the AZ724, its state after power-on reset, and the reasons a step can stop. -/

namespace Sys2Proof.Machine

/-- The machine state: one field for each block's state and settings, and the queue of waiting commands. -/
structure State where
  /-- The time base (spec/00_scope.md, Time). -/
  time : Time
  /-- RST is low and the part is held in reset (R135, RST_LOW). -/
  held : Bool
  /-- While the start-up interval runs, the time at which it ends (R170). -/
  startUpEnd : Option Time
  /-- Receive link RX0 (R1 to R6). -/
  rx0 : RxLink
  /-- Receive link RX1 (R1 to R6). -/
  rx1 : RxLink
  /-- Request intake (R8, R37). -/
  intake : Intake
  /-- The check-out loops (R15). -/
  loops : Vector LoopState 4
  /-- The stuck limit that governs since the last sample: a new limit applies from the next one (R16). -/
  stuckLimit : Nat
  /-- The approach configuration records (R18). -/
  approaches : Vector ApproachConfig 4
  /-- The route table and mode (R11). -/
  routes : RouteTable
  /-- The class thresholds T1 to T7 (R14). -/
  classes : Vector Int 7
  /-- The priority request table (R19); none is a FREE entry. -/
  table : Vector (Option Entry) 16
  /-- The plan store (R43). -/
  plans : PlanStore
  /-- The phase green inputs (R46), PG1 first. -/
  inputs : Vector PhaseInput 6
  /-- The phase tracker (R48). -/
  tracker : Tracker
  /-- The cycle account (R97). -/
  account : Account
  /-- The engine's settings and T_stale (R36, R100). -/
  policy : Policy
  /-- The decision engine's pass state (R78). -/
  engine : Engine
  /-- The execution channels (R102). -/
  channels : Vector Channel 4
  /-- The settings of SET_PINS (R16, R120, R123). -/
  pins : PinSettings
  /-- The override monitor (R122 to R128). -/
  ovr : OverrideMonitor
  /-- The corridor port LINK-A (R134 to R152). -/
  linkA : CorridorPort
  /-- The corridor port LINK-B (R134 to R152). -/
  linkB : CorridorPort
  /-- The part's intersection identity (R152). -/
  identity : Byte
  /-- The fault recorder (R154). -/
  faults : FaultRecorder
  /-- Containment control (R156, R160). -/
  containment : Containment
  /-- The controller port (R168 to R178). -/
  port : ControllerPort
  /-- The model's own: how many free choices have been read (assumption 5). -/
  freeIndex : Nat
  /-- The model's own: the commands waiting, first in, first out. -/
  pending : List Instr
deriving DecidableEq, Repr

/-- The reasons a step stops with a fault: none. The block has no access that the spec says does not exist, and every
command of the table has an effect the spec gives. -/
inductive Fault where
deriving DecidableEq, Repr

/-- The reasons a command is refused. -/
inductive Refusal where
  /-- Raised by an arm of exec whose command has no meaning yet; safe, since no claim about a next state follows. -/
  | notModelled (mnemonic : String)
deriving DecidableEq, Repr

/-- The state when RST is released with the given strap levels: every block at its power-on value, the ports with their
strapped roles, the start-up interval running (R135, R152, R170). -/
def powerOnState (cpos1 cpos0 : Bool) : State :=
  { time := 0
    held := false
    startUpEnd := some (BitVec.ofNat 32 startUpLength)
    rx0 := rxPowerOn
    rx1 := rxPowerOn
    intake := intakePowerOn
    loops := Vector.replicate 4 loopPowerOn
    stuckLimit := stuckLimitPowerOn
    approaches := approachesPowerOn
    routes := routesPowerOn
    classes := classesPowerOn
    table := Vector.replicate 16 none
    plans := { active := none, staged := none }
    inputs := Vector.replicate 6 phaseInputPowerOn
    tracker := .noPlan
    account := accountCleared policyPowerOn.budget
    policy := policyPowerOn
    engine := engineIdle
    channels := Vector.replicate 4 channelIdle
    pins := pinsPowerOn
    ovr := overrideCleared
    linkA := portCleared (portSettingsPowerOn (strapRoleA cpos1 cpos0))
    linkB := portCleared (portSettingsPowerOn (strapRoleB cpos1 cpos0))
    identity := 0
    faults := faultsPowerOn
    containment := containmentPowerOn
    port := portPowerOn
    freeIndex := 0
    pending := [] }

/-- The machine right after reset: RST released with both straps low, STANDALONE (R135; the strap levels are
assumption 1). -/
def State.reset : State := powerOnState false false

end Sys2Proof.Machine
end

