-- ==== Sys2Proof/Machine/Ops.lean ====
section
/-! DEFINITION. The operations every block shares: arrays, time arithmetic, bytes, outcome records, the acceptance of a
controller command. -/

namespace Sys2Proof.Machine

/-! ## Fixed collections -/

/-- The vector with the value at one index replaced. -/
def put {α : Type} {n : Nat} (v : Vector α n) (i : Fin n) (x : α) : Vector α n := v.set i x

/-- The vector made of a function of the index. -/
def tabulate {α : Type} {n : Nat} (f : Fin n → α) : Vector α n := Vector.ofFn f

/-- The entry indices in order. -/
def allEntries : List EntryIx := [0, 1, 2, 3, 4, 5, 6, 7, 8, 9, 10, 11, 12, 13, 14, 15]

/-- The channel indices in order. -/
def allChannels : List ChannelIx := [0, 1, 2, 3]

/-- The slot indices in ring order. -/
def allSlots : List SlotIx := [0, 1, 2, 3, 4, 5]

/-- The approaches in order. -/
def allApproaches : List Approach := [0, 1, 2, 3]

/-- The phases in order. -/
def allPhases : List Phase := [.p1, .p2, .p3, .p4, .p5, .p6]

/-- The position of a phase among PG1 to PG6, from 0. -/
def phaseIndex : Phase → Fin 6
  | .p1 => 0
  | .p2 => 1
  | .p3 => 2
  | .p4 => 3
  | .p5 => 4
  | .p6 => 5

/-- The phase a number names, 1 to 6 (spec/00_scope.md, Numbering). -/
def phaseOfNumber : Nat → Option Phase
  | 1 => some .p1
  | 2 => some .p2
  | 3 => some .p3
  | 4 => some .p4
  | 5 => some .p5
  | 6 => some .p6
  | _ => none

/-! ## Time (R63) -/

/-- The signed difference of two times. -/
def timeDiff (x y : Time) : Int := (x - y).toInt

/-- X is at or after Y when X minus Y, read as signed, is 0 or positive. -/
def atOrAfter (x y : Time) : Bool := decide (0 ≤ timeDiff x y)

/-- X is later than Y when the signed difference is positive. -/
def isLater (x y : Time) : Bool := decide (0 < timeDiff x y)

/-- The later of two times. -/
def laterOf (x y : Time) : Time := if atOrAfter x y then x else y

/-- A time plus a duration, modulo 2^32. -/
def timePlus (t : Time) (d : Int) : Time := t + BitVec.ofInt 32 d

/-! ## Bytes (R180) -/

/-- The two bytes of a field, most significant first. -/
def halfBytes (h : Half) : List Byte := [h.extractLsb' 8 8, h.extractLsb' 0 8]

/-- A count sent in two bytes. -/
def natBytes (n : Nat) : List Byte := halfBytes (BitVec.ofNat 16 n)

/-- The four bytes of a time, most significant first. -/
def timeBytes (t : Time) : List Byte :=
  [t.extractLsb' 24 8, t.extractLsb' 16 8, t.extractLsb' 8 8, t.extractLsb' 0 8]

/-- A count sent in one byte. -/
def natByte (n : Nat) : Byte := BitVec.ofNat 8 n

/-- A byte whose bit i is the i-th flag. The bits above the last flag, to which R186 and R175 give no value in a record's
flag, level and event bytes, are 0 (assumption 39). -/
def flagByte (flags : List Bool) : Byte :=
  flags.foldr (fun b acc => (acc <<< 1) ||| (if b then 1 else 0)) 0

/-- Two bytes read as a field, most significant first. -/
def halfOfBytes (hi lo : Byte) : Half := hi ++ lo

/-- The three bytes of a fault-kind map, bits 23 to 19 sent as 0 (R180). -/
def mapBytes (m : BitVec 19) : List Byte :=
  let w := m.setWidth 24
  [w.extractLsb' 16 8, w.extractLsb' 8 8, w.extractLsb' 0 8]

/-! ## Named access to the paired blocks -/

/-- A receive link's state. -/
def State.rx (s : State) : RxId → RxLink
  | .rx0 => s.rx0
  | .rx1 => s.rx1

/-- The state with one receive link replaced. -/
def State.setRx (s : State) (r : RxId) (x : RxLink) : State :=
  match r with
  | .rx0 => { s with rx0 := x }
  | .rx1 => { s with rx1 := x }

/-- A corridor port's state. -/
def State.link (s : State) : PortId → CorridorPort
  | .linkA => s.linkA
  | .linkB => s.linkB

/-- The state with one corridor port replaced. -/
def State.setLink (s : State) (p : PortId) (x : CorridorPort) : State :=
  match p with
  | .linkA => { s with linkA := x }
  | .linkB => { s with linkB := x }

/-- The state with one table entry written whole. -/
def State.setEntry (s : State) (i : EntryIx) (e : Option Entry) : State :=
  { s with table := put s.table i e }

/-- The state with one channel written whole. -/
def State.setChannel (s : State) (c : ChannelIx) (x : Channel) : State :=
  { s with channels := put s.channels c x }

/-- The start-up interval is running (R170). -/
def State.startingUp (s : State) : Bool := s.startUpEnd.isSome

/-- A timer stored as an absolute time has expired (spec/00_scope.md, Time). -/
def State.reached (s : State) (t : Time) : Bool := atOrAfter s.time t

/-! ## Outcome queue (R176) -/

/-- The number of records the outcome queue holds at most. -/
def outcomeCapacity : Nat := 32

/-- A push of an outcome record: appended, or lost with OVF when 32 are held (R176). -/
def State.pushOutcome (s : State) (r : OutcomeRecord) : State :=
  if s.port.outcomes.length < outcomeCapacity then
    { s with port := { s.port with outcomes := s.port.outcomes ++ [r] } }
  else
    { s with port := { s.port with events := { s.port.events with ovf := true } } }

/-- Pushes of several records in order. -/
def State.pushOutcomes (s : State) (rs : List OutcomeRecord) : State := rs.foldl State.pushOutcome s

/-! ## Commands taken at the controller port (R168 to R173) -/

/-- The response written to the short slot when a command is taken (R169). -/
def State.answer (s : State) (echo : Byte) (result : ResultCode) (data : List Byte) : State :=
  { s with port := { s.port with shortSlot := some { echo, result, data } } }

/-- The rising edge of SCS: the transaction is over and its response used up (R168). -/
def State.endTransaction (s : State) : State :=
  { s with port := { s.port with transaction := none } }

/-- A long command is running (R172). -/
def CommandState.isLong : CommandState → Bool
  | .idle => false
  | .stagePlan _ => true
  | .flushTable _ _ => true
  | .resetCore _ => true

/-- The command of the transaction that ends now is discarded: its falling edge lay in the start-up interval (R170). A
command that no TRANSACTION_START opened counts as a transaction that begins now (assumption 8). -/
def State.discardsCommand (s : State) : Bool :=
  match s.port.transaction with
  | some t => t.discard
  | none => s.startingUp

/-- What a command's own rule gives when it is judged: the state, the result, and the data. -/
abbrev Judged := State × ResultCode × List Byte

/-- A command accepted with its data. -/
def okWith (s : State) (data : List Byte) : Judged := (s, .ok, data)

/-- A command refused: nothing changes and no data are carried (R171). -/
def refuse (s : State) (r : ResultCode) : Judged := (s, r, [])

/-- A command taken in either command state (R173: NULL, READ_STATUS, and BAD_COMMAND), judged by its own rule. -/
def State.takeAlways (s : State) (echo : Byte) (judge : State → Judged) : State :=
  if s.held then s
  else if s.discardsCommand then s.endTransaction
  else
    let j := judge s.endTransaction
    j.1.answer echo j.2.1 j.2.2

/-- A command refused with COLLIDED while a long command runs: only the collision flag is set (R173). -/
def State.collide (s : State) : Judged :=
  ({ s with port := { s.port with collision := true } }, .collided, [])

/-- A command that is not served while a long command runs (R173), else judged by its own rule. -/
def State.take (s : State) (echo : Byte) (judge : State → Judged) : State :=
  s.takeAlways echo (fun s => if s.port.command.isLong then s.collide else judge s)

/-- Acceptance of a long command (R172): the command state becomes LONG and a response waiting in the long slot is
discarded; nothing is written to the short slot (R169). -/
def State.acceptLong (s : State) (c : CommandState) : State :=
  { s with port := { s.port with command := c, longSlot := none } }

/-- Completion of the running command (R172): its response goes to the long slot, the command state returns to IDLE and
DONE is raised. -/
def State.completeLong (s : State) (echo : Byte) (result : ResultCode) (data : List Byte) : State :=
  { s with port := { s.port with
      longSlot := some { echo, result, data }
      command := .idle
      events := { s.port.events with done := true } } }

/-- A long command taken at the rising edge of SCS: COLLIDED while another runs, else accepted without a response
(R169, R173). -/
def State.takeLong (s : State) (echo : Byte) (accept : State → State) : State :=
  if s.held then s
  else if s.discardsCommand then s.endTransaction
  else
    let s := s.endTransaction
    if s.port.command.isLong then s.collide.1.answer echo .collided [] else accept s

/-- An event of the part itself: nothing happens while RST is low (RST_LOW). -/
def State.whenReleased (s : State) (f : State → State) : State := if s.held then s else f s

end Sys2Proof.Machine
end

