-- ==== Sys2Proof/Machine/Flags.lean ====
section
/-! DEFINITION. The flags of the part: the event flags and ATTN (R177, R178), the fault-kind maps (R180), and the call
outputs (R119, R120). -/

namespace Sys2Proof.Machine

/-! ## Events and ATTN -/

/-- The sticky events (R177). -/
inductive StickyEvent where
  | ovf | flt | cnt | done | plan | ovr
deriving DecidableEq, Repr

/-- The flags with one sticky event set; one that is set stays set (R177). -/
def raiseIn (f : StickyEvents) : StickyEvent → StickyEvents
  | .ovf => { f with ovf := true }
  | .flt => { f with flt := true }
  | .cnt => { f with cnt := true }
  | .done => { f with done := true }
  | .plan => { f with plan := true }
  | .ovr => { f with ovr := true }

/-- A sticky event raised at the controller port. -/
def State.raise (s : State) (e : StickyEvent) : State :=
  { s with port := { s.port with events := raiseIn s.port.events e } }

/-- OUT: the outcome queue holds at least one record (R177). -/
def State.outFlag (s : State) : Bool := !s.port.outcomes.isEmpty

/-- The seven event flags, bits 0 to 6 in the order OUT, OVF, FLT, CNT, DONE, PLAN, OVR (R180); bit 7 is 0
(assumption 39). -/
def State.eventBits (s : State) : Byte :=
  let f := s.port.events
  flagByte [s.outFlag, f.ovf, f.flt, f.cnt, f.done, f.plan, f.ovr]

/-- ATTN is active while at least one event flag is set and enabled (R178). -/
def State.attn (s : State) : Bool := decide (s.eventBits &&& s.port.enables.setWidth 8 ≠ 0)

/-! ## Fault-kind maps -/

/-- The index of a fault kind, 0 to 18 (spec/09, Fault kinds). -/
def faultIndex : FaultKind → Fin 19
  | .rx0Framing => 0
  | .rx0Overrun => 1
  | .rx0Check => 2
  | .rx1Framing => 3
  | .rx1Overrun => 4
  | .rx1Check => 5
  | .rxSource => 6
  | .linkADown => 7
  | .linkARole => 8
  | .linkACrc => 9
  | .linkBDown => 10
  | .linkBRole => 11
  | .linkBCrc => 12
  | .phaseConflict => 13
  | .sequenceBreak => 14
  | .planMissing => 15
  | .cycleLength => 16
  | .advMissed => 17
  | .checkoutStuck => 18

/-- The bit of a map that stands for a kind (R180). -/
def kindBit (m : BitVec 19) (k : FaultKind) : Bool := m.getLsbD (faultIndex k).val

/-- The map of one kind alone. -/
def kindMap (k : FaultKind) : BitVec 19 := (1 : BitVec 19) <<< (faultIndex k).val

/-- The framing fault of a receive link (R2). -/
def framingFault : RxId → FaultKind
  | .rx0 => .rx0Framing
  | .rx1 => .rx1Framing

/-- The overrun fault of a receive link (R5). -/
def overrunFault : RxId → FaultKind
  | .rx0 => .rx0Overrun
  | .rx1 => .rx1Overrun

/-- The check fault of a receive link (R4). -/
def checkFault : RxId → FaultKind
  | .rx0 => .rx0Check
  | .rx1 => .rx1Check

/-- The DOWN fault of a corridor port (R140, R141). -/
def downFault : PortId → FaultKind
  | .linkA => .linkADown
  | .linkB => .linkBDown

/-- The ROLE fault of a corridor port (R142). -/
def roleFaultKind : PortId → FaultKind
  | .linkA => .linkARole
  | .linkB => .linkBRole

/-- The CRC fault of a corridor port (R137, R138). -/
def crcFault : PortId → FaultKind
  | .linkA => .linkACrc
  | .linkB => .linkBCrc

/-! ## Call outputs -/

/-- A channel that is RUNNING. -/
def isRunning (c : Channel) : Bool :=
  match c.live with
  | some l => decide (l.run = .running)
  | none => false

/-- PCn is active exactly when some RUNNING channel targets phase n (R119). -/
def State.callActive (s : State) (p : Phase) : Bool :=
  allChannels.any fun c =>
    match s.channels[c].live with
    | some l => decide (l.run = .running ∧ l.phase = p)
    | none => false

/-- How a call output is driven (R120). -/
inductive OutputLevel where
  | high | low | released
deriving DecidableEq, Repr

/-- The drive of a call output: released until the start-up interval ends, high when active, else as the call drive
setting states (R120). -/
def State.callDriven (s : State) (p : Phase) : OutputLevel :=
  if s.held || s.startingUp then .released
  else if s.callActive p then .high
  else
    match s.pins.drive with
    | .pushPull => .low
    | .openDrain => .released

/-- The levels of PC1 to PC6 in bits 0 to 5 (R186); bits 6 and 7 are 0 (assumption 39). -/
def State.callBits (s : State) : Byte := flagByte (allPhases.map s.callActive)

/-- SDO: the response being returned while SCS is low; none while SCS is high and SDO is high impedance (R168). -/
def State.sdo (s : State) : Option Response := s.port.transaction.map (·.response)

/-- The code of a result, 0 to 7 in the order of the table of R171 (R184). -/
def resultByte : ResultCode → Byte
  | .ok => 0
  | .pending => 1
  | .collided => 2
  | .badCommand => 3
  | .badArg => 4
  | .badState => 5
  | .notFound => 6
  | .notReady => 7

/-- A response frame: echo code, result, data length and data, one byte each (R168, R184). -/
def responseFrame (r : Response) : List Byte :=
  r.echo :: resultByte r.result :: BitVec.ofNat 8 r.data.length :: r.data

/-- The byte the part sends at a place of the transaction, counted from 0: those of the response frame, then 0 (R168);
none while SCS is high. -/
def State.sdoByte (s : State) (n : Nat) : Option Byte := s.sdo.map fun r => (responseFrame r).getD n 0

/-- The level of SDO at the clock of a transaction with this number, counted from 0: each byte most significant bit first
(R168); none while SCS is high and SDO is high impedance. -/
def State.sdoBit (s : State) (n : Nat) : Option Bool := (s.sdoByte (n / 8)).map (·.getMsbD (n % 8))

/-- The transceiver drive enable of a corridor port, active while it transmits (R134, R150). -/
def State.driveEnable (s : State) (p : PortId) : Bool := decide ((s.link p).line ≠ .listening)

end Sys2Proof.Machine
end

