-- ==== Sys2Proof/Machine/Operands.lean ====
section
/-! DEFINITION. The operand forms of controller commands: command codes, durations, enumerations and the settings a
configuration command carries, each checked as its rule states (R180, R181, R184). A reading that gives none is an
argument refused with BAD_ARG. -/

namespace Sys2Proof.Machine

/-! ## Command codes (R184) -/

/-- NULL. -/
def codeNull : Byte := 0x00
/-- READ_STATUS. -/
def codeReadStatus : Byte := 0x01
/-- READ_ENTRY. -/
def codeReadEntry : Byte := 0x02
/-- READ_CHANNEL. -/
def codeReadChannel : Byte := 0x03
/-- READ_PHASE. -/
def codeReadPhase : Byte := 0x04
/-- READ_LINK. -/
def codeReadLink : Byte := 0x05
/-- READ_FAULT. -/
def codeReadFault : Byte := 0x06
/-- POP_OUTCOMES. -/
def codePopOutcomes : Byte := 0x07
/-- CLEAR_FAULTS. -/
def codeClearFaults : Byte := 0x10
/-- SET_FAULT_CONTROL. -/
def codeSetFaultControl : Byte := 0x11
/-- CONTAIN. -/
def codeContain : Byte := 0x12
/-- RELEASE. -/
def codeRelease : Byte := 0x13
/-- STAGE_PLAN. -/
def codeStagePlan : Byte := 0x20
/-- SET_APPROACH. -/
def codeSetApproach : Byte := 0x21
/-- SET_ROUTE. -/
def codeSetRoute : Byte := 0x22
/-- SET_CLASS. -/
def codeSetClass : Byte := 0x23
/-- SET_POLICY. -/
def codeSetPolicy : Byte := 0x24
/-- SET_LINK. -/
def codeSetLink : Byte := 0x25
/-- SET_IDENT. -/
def codeSetIdent : Byte := 0x26
/-- SET_PINS. -/
def codeSetPins : Byte := 0x27
/-- SET_EVENTS. -/
def codeSetEvents : Byte := 0x28
/-- LINK_BREAK. -/
def codeLinkBreak : Byte := 0x30
/-- FORCE_GRANT. -/
def codeForceGrant : Byte := 0x31
/-- CANCEL_CHANNEL. -/
def codeCancelChannel : Byte := 0x32
/-- OVERRIDE_HOLD. -/
def codeOverrideHold : Byte := 0x33
/-- FLUSH_TABLE. -/
def codeFlushTable : Byte := 0x34
/-- RESET_CORE. -/
def codeResetCore : Byte := 0x3F

/-! ## Numbers, durations and enumerations -/

/-- A duration field (R180): scale in bits 15 and 14, value in bits 9 to 0, bits 13 to 10 ignored; scale 3 is none. -/
def duration (w : Half) : Option Nat :=
  let value := (w.extractLsb' 0 10).toNat
  match (w.extractLsb' 14 2).toNat with
  | 0 => some value
  | 1 => some (10 * value)
  | 2 => some (100 * value)
  | _ => none

/-- A count within a range. -/
def inRange (n lo hi : Nat) : Option Nat := if lo ≤ n ∧ n ≤ hi then some n else none

/-- A duration within its setting's range (spec/00_scope.md, Durations written by the controller). -/
def durationIn (w : Half) (lo hi : Nat) : Option Nat := (duration w).bind (inRange · lo hi)

/-- A plain number within its range. -/
def numberIn (w : Half) (lo hi : Nat) : Option Nat := inRange w.toNat lo hi

/-- A two-valued enumeration coded 0 and 1 (R180). -/
def twoValued {α : Type} (b : Byte) (zero one : α) : Option α :=
  if b = 0 then some zero else if b = 1 then some one else none

/-- An entry index byte, 0 to 15. -/
def entryOfByte (b : Byte) : Option EntryIx := if h : b.toNat < 16 then some ⟨b.toNat, h⟩ else none

/-- A channel index byte taken whole: 4 to 255 are out of range (R181). -/
def channelOfByte (b : Byte) : Option ChannelIx := if h : b.toNat < 4 then some ⟨b.toNat, h⟩ else none

/-- An approach byte, 0 to 3. -/
def approachOfByte (b : Byte) : Option Approach := if h : b.toNat < 4 then some ⟨b.toNat, h⟩ else none

/-- What a link byte names: RX0 0, RX1 1, LINK-A 2, LINK-B 3 (R181). -/
inductive LinkName where
  | rx (r : RxId)
  | port (p : PortId)
deriving DecidableEq, Repr

/-- A link byte; above 3 it names nothing (R181). -/
def linkOfByte (b : Byte) : Option LinkName :=
  match b.toNat with
  | 0 => some (.rx .rx0)
  | 1 => some (.rx .rx1)
  | 2 => some (.port .linkA)
  | 3 => some (.port .linkB)
  | _ => none

/-- A line rate code: 9600, 19200, 38400, 115200 (R184). -/
def rateOfByte (b : Byte) : Option LineRate :=
  match b.toNat with
  | 0 => some .r9600
  | 1 => some .r19200
  | 2 => some .r38400
  | 3 => some .r115200
  | _ => none

/-- A role code: OFF, POLLER, RESPONDER (R184). -/
def roleOfByte (b : Byte) : Option Role :=
  match b.toNat with
  | 0 => some .off
  | 1 => some .poller
  | 2 => some .responder
  | _ => none

/-- A rate a receive link accepts (R1). -/
def rxRateOfByte (b : Byte) : Option LineRate :=
  match rateOfByte b with
  | some .r115200 => none
  | r => r

/-- A rate a corridor port accepts (R134). -/
def portRateOfByte (b : Byte) : Option LineRate :=
  match rateOfByte b with
  | some .r38400 => some .r38400
  | some .r115200 => some .r115200
  | _ => none

/-- The action code of FORCE_GRANT: 1 EXTEND, 2 ADVANCE (R184). -/
inductive GrantAction where
  | extend | advance
deriving DecidableEq, Repr

/-- The action byte of FORCE_GRANT. -/
def actionOfByte (b : Byte) : Option GrantAction :=
  match b.toNat with
  | 1 => some .extend
  | 2 => some .advance
  | _ => none

/-- The entry side code of a SET_APPROACH flags byte (R184). -/
def entrySideOfBits (b : BitVec 2) : Option EntrySide :=
  match b.toNat with
  | 0 => some .none
  | 1 => some .fromA
  | 2 => some .fromB
  | _ => none

/-- The exit side code of a SET_APPROACH flags byte (R184). -/
def exitSideOfBits (b : BitVec 2) : Option ExitSide :=
  match b.toNat with
  | 0 => some .none
  | 1 => some .toA
  | 2 => some .toB
  | _ => none

/-! ## The settings of the configuration commands -/

/-- The record SET_APPROACH carries, if every setting is in range (R18, R181, R184). -/
def approachSettings (flags phase : Byte) (vFree vFloor margin : Half) : Option ApproachConfig := do
  let entrySide ← entrySideOfBits (flags.extractLsb' 2 2)
  let exitSide ← exitSideOfBits (flags.extractLsb' 0 2)
  let phase ← phaseOfNumber phase.toNat
  let vFree ← numberIn vFree 20 300
  let vFloor ← numberIn vFloor 10 vFree
  let margin ← durationIn margin 0 100
  pure { enabled := flags.getLsbD 7, link := if flags.getLsbD 6 then .rx1 else .rx0, phase, entrySide, exitSide,
         vFree, vFloor, margin, loopUse := flags.getLsbD 5 }

/-- The entry, its index and the mode SET_ROUTE carries, if all are in range (R11, R184). -/
def routeSettings (index : Byte) (route : Half) (flags mode : Byte) : Option (Fin 32 × RouteEntry × RouteMode) := do
  let i ← if h : index.toNat < 32 then some (⟨index.toNat, h⟩ : Fin 32) else none
  let _ ← numberIn route 0 1023
  let mode ← twoValued mode RouteMode.openMode RouteMode.strict
  pure (i, { route := route.setWidth 10, mask := flags.extractLsb' 0 4, cap := (flags.extractLsb' 4 3).toNat,
             enabled := flags.getLsbD 7 }, mode)

/-- The thresholds do not fall (R14). -/
def risesFrom : Int → List Int → Bool
  | _, [] => true
  | a, b :: rest => decide (a ≤ b) && risesFrom b rest

/-- The thresholds SET_CLASS carries, if each is in range and none is lower than the one before (R14). -/
def classSettings (w : Vector Half 7) : Option (Vector Int 7) :=
  let ts : Vector Int 7 := tabulate fun i => (w[i]).toInt
  if ts.toList.all (fun t => decide (-3000 ≤ t ∧ t ≤ 3000)) && risesFrom (-3000) ts.toList then some ts else none

/-- The settings SET_POLICY carries, if all are in range (R36, R100). -/
def policySettings (budget debtCap repay aMin advTol horizon tStale : Half) (preemption : Byte) : Option Policy := do
  let budget ← durationIn budget 0 600
  let debtCap ← durationIn debtCap 0 3000
  let repay ← durationIn repay 0 600
  let aMin ← durationIn aMin 0 100
  let advTol ← durationIn advTol 10 100
  let horizon ← durationIn horizon 100 1200
  let tStale ← durationIn tStale 10 600
  let preemption ← twoValued preemption false true
  pure { budget, debtCap, repay, aMin, advTol, horizon, tStale, preemption }

/-- The settings SET_LINK carries for a corridor port, if all are in range (R134, R184). -/
def portSettings (role rate : Byte) (pollInterval replyWindow : Half) (missLimit : Byte)
    (silence ackTimeout nominal tolerance : Half) : Option PortSettings := do
  let role ← roleOfByte role
  let rate ← portRateOfByte rate
  let pollInterval ← durationIn pollInterval 2 50
  let replyWindow ← durationIn replyWindow 1 10
  let missLimit ← inRange missLimit.toNat 1 15
  let silence ← durationIn silence 10 600
  let ackTimeout ← durationIn ackTimeout 5 600
  let nominal ← durationIn nominal 0 6000
  let tolerance ← durationIn tolerance 0 1200
  pure { role, rate, pollInterval, replyWindow, missLimit, silence, ackTimeout, nominal, tolerance }

/-- The enable and rate SET_LINK carries for a receive link (R1, R184). -/
def rxSettings (enable rate : Byte) : Option (Bool × LineRate) := do
  let enable ← twoValued enable false true
  let rate ← rxRateOfByte rate
  pure (enable, rate)

/-- The settings SET_PINS carries, if all are in range (R16, R120, R123). -/
def pinSettings (drive edge : Byte) (filter suspend stuck : Half) : Option PinSettings := do
  let drive ← twoValued drive CallDrive.pushPull CallDrive.openDrain
  let edge ← twoValued edge OvrEdge.rising OvrEdge.falling
  let filter ← durationIn filter 1 15
  let suspendLimit ← durationIn suspend 10 6000
  let stuckLimit ← durationIn stuck 10 600
  pure { drive, edge, filter, suspendLimit, stuckLimit }

/-! ## Plan validation (R45) -/

/-- The verdict's sub-reasons, coded 1 to 4 (R45, R184). -/
inductive PlanError where
  | slotCount | range | duplicatePhase | sum
deriving DecidableEq, Repr

/-- One used slot, if its phase and times are in range (R45, check 2). -/
def slotSettings (r : RawSlot) : Option Slot := do
  let phase ← phaseOfNumber r.phase.toNat
  let g ← duration r.g
  let gmin ← durationIn r.gmin 10 g
  let y ← durationIn r.y 30 100
  let e ← durationIn r.e 0 300
  pure { phase, g, gmin, y, e }

/-- Every slot record of a list read in order. -/
def slotList : List RawSlot → Option (List Slot)
  | [] => some []
  | r :: rest => do
    let s ← slotSettings r
    let ss ← slotList rest
    pure (s :: ss)

/-- No phase stands twice in a list of slots. -/
def distinctPhases : List Slot → Bool
  | [] => true
  | s :: rest => rest.all (fun t => decide (t.phase ≠ s.phase)) && distinctPhases rest

/-- The time a list of slots takes: the sum of G plus Y. -/
def ringTime (slots : List Slot) : Nat := slots.foldr (fun s acc => s.g + s.y + acc) 0

/-- The validation of a plan: the plan, or the sub-reason of the first check that fails (R45). -/
def validatePlan (raw : RawPlan) : Except PlanError Plan :=
  if raw.count.toNat < 2 ∨ 6 < raw.count.toNat then .error .slotCount
  else
    match durationIn raw.cycle 300 2400, slotList (raw.slots.toList.take raw.count.toNat) with
    | some cycle, some slots =>
      if !distinctPhases slots then .error .duplicatePhase
      else if ringTime slots ≠ cycle then .error .sum
      else .ok { cycle, slots }
    | _, _ => .error .range

/-- The code of a sub-reason (R184). -/
def planErrorCode : PlanError → Byte
  | .slotCount => 1
  | .range => 2
  | .duplicatePhase => 3
  | .sum => 4

end Sys2Proof.Machine
end

