-- ==== Sys2Proof/Machine/Account.lean ====
section
/-! DEFINITION. Plans as the other blocks read them, the cycle account (R97 to R99) and the green-time figures of spec/04
(R63 to R76). -/

namespace Sys2Proof.Machine

/-! ## Reading a plan -/

/-- The number of slots of a plan. -/
def slotCount (p : Plan) : Nat := p.slots.length

/-- A slot of a plan, by index. -/
def slotAt (p : Plan) (k : SlotIx) : Slot := p.slots.getD k.val default

/-- The slots of the ring, in order. -/
def ringSlots (p : Plan) : List SlotIx := allSlots.filter fun k => decide (k.val < slotCount p)

/-- The slot of the plan that holds a phase, if any (R84). -/
def slotOf (p : Plan) (ph : Phase) : Option SlotIx :=
  (ringSlots p).find? fun k => decide ((slotAt p k).phase = ph)

/-- The phase of a plan's slot 0, the coordinated phase. -/
def coordinatedPhase (p : Plan) : Option Phase := p.slots.head?.map (·.phase)

/-! ## The arrival window (R64 to R66, R68) -/

/-- The travel time limit of R65. -/
def travelLimit : Nat := 4095

/-- 100 times a distance divided by a speed, rounded up (R65, step 2). -/
def ceilDiv (a b : Nat) : Nat := (a + b - 1) / b

/-- The late travel time of R65. -/
def lateTravel (d v vFloor : Nat) (stop : Bool) (w : Nat) : Nat :=
  min travelLimit (ceilDiv (100 * d) (max v vFloor) + if stop then w else 0)

/-- The early travel time of R65. -/
def earlyTravel (d v vFloor vFree : Nat) (stop : Bool) (w : Nat) : Nat :=
  min travelLimit (100 * d / max (max v vFloor) vFree + if stop then w else 0)

/-- The window of a radio frame applied at a time, as A_e and A_l (R65). -/
def radioWindow (r : Report) (cfg : ApproachConfig) (tu : Time) : Time × Time :=
  (timePlus tu (earlyTravel r.distance r.speed cfg.vFloor cfg.vFree r.stopFlag r.dwell),
   timePlus tu (lateTravel r.distance r.speed cfg.vFloor r.stopFlag r.dwell + cfg.margin : Nat))

/-- The window of a handoff with travel nominal N and tolerance tol, as A_e and A_l (R66). -/
def handoffWindow (nominal tolerance : Nat) (trx : Time) : Time × Time :=
  (timePlus trx ((nominal - tolerance : Nat) : Int), timePlus trx ((nominal + tolerance : Nat) : Int))

/-- The effective window at an evaluation made at t, as A_e* and A_l* (R68). -/
def effectiveWindow (e : Entry) (t : Time) : Time × Time := (laterOf e.windowE t, laterOf e.windowL t)

/-! ## Changes of the account -/

/-- A charge of an amount to a slot (R98). -/
def chargeSlot (p : Plan) (a : Account) (k : SlotIx) (n : Nat) : Account :=
  let ph := phaseIndex (slotAt p k).phase
  { a with
    charge := put a.charge k (a.charge[k] + n)
    debt := put a.debt ph (a.debt[ph] + n)
    budgetLeft := a.budgetLeft - n }

/-- A refund of an amount to a slot (R98); the debt is floored at 0. A slot gives back no more than it is charged in the
current cycle (R98), which binds only between the block resets of RESET_CORE (assumption 13). -/
def refundSlot (p : Plan) (a : Account) (k : SlotIx) (n : Nat) : Account :=
  let ph := phaseIndex (slotAt p k).phase
  let m := min n a.charge[k]
  { a with
    charge := put a.charge k (a.charge[k] - m)
    debt := put a.debt ph (a.debt[ph] - m)
    budgetLeft := a.budgetLeft + m }

/-- Every pair of a charge list charged in order (R94). -/
def chargeAll (p : Plan) (a : Account) (pairs : List (SlotIx × Nat)) : Account :=
  pairs.foldl (fun a q => chargeSlot p a q.1 q.2) a

/-- The pairs of a refund: the total taken off a charge list given last pair first (R115). -/
def refundPairs : List (SlotIx × Nat) → Nat → List (SlotIx × Nat)
  | [], _ => []
  | (k, n) :: rest, total => (k, min n total) :: refundPairs rest (total - min n total)

/-- A refund of a total off a charge list, in reverse charging order (R115). -/
def refundAll (p : Plan) (a : Account) (charges : List (SlotIx × Nat)) (total : Nat) : Account :=
  (refundPairs charges.reverse total).foldl (fun a q => refundSlot p a q.1 q.2) a

/-- The account at a cycle boundary (R99). -/
def accountBoundary (a : Account) (pol : Policy) : Account :=
  { charge := Vector.replicate 6 0
    xcur := 0
    debt := tabulate fun i => a.debt[i] - pol.repay
    budgetInForce := pol.budget
    budgetLeft := pol.budget }

/-- The account at an adoption: debts are kept (R99). -/
def accountAdoption (a : Account) (pol : Policy) : Account :=
  { charge := Vector.replicate 6 0, xcur := 0, debt := a.debt, budgetInForce := pol.budget,
    budgetLeft := pol.budget }

/-- The account under a debt cap: every debt above it is brought down to it (R100). -/
def accountCapped (a : Account) (cap : Nat) : Account :=
  { a with debt := tabulate fun i => min a.debt[i] cap }

/-! ## The green-time figures -/

/-- The values the figures are formed from, read at one time (R69). -/
structure Figures where
  t : Time
  plan : Plan
  step : StepRecord
  account : Account
  channels : Vector Channel 4
  policy : Policy
deriving DecidableEq, Repr

/-- The figures are formed only while the tracker is IN_STEP and a plan is active (R69). -/
def State.figures (s : State) : Option Figures :=
  match s.plans.active, s.tracker with
  | some plan, .inStep step =>
    some { t := s.time, plan, step, account := s.account, channels := s.channels, policy := s.policy }
  | _, _ => none

/-- The effective green G' of a slot (R70). -/
def Figures.effectiveGreen (f : Figures) (k : SlotIx) : Int :=
  ((slotAt f.plan k).g : Int) - f.account.charge[k] + if k = f.step.cur then (f.account.xcur : Int) else 0

/-- The planned end e of the current green (R70). -/
def Figures.plannedEnd (f : Figures) : Time := timePlus f.step.onset (f.effectiveGreen f.step.cur)

/-- The reference end r: the later of t and e (R70). -/
def Figures.referenceEnd (f : Figures) : Time := laterOf f.t f.plannedEnd

/-- The slots after the current slot, up to the last slot of the ring. -/
def Figures.after (f : Figures) : List SlotIx := (ringSlots f.plan).filter fun k => decide (f.step.cur < k)

/-- The slots strictly between the current slot and j, the ring followed past the last slot only when j is 0 (R71). -/
def Figures.between (f : Figures) (j : SlotIx) : List SlotIx :=
  if j = 0 then f.after else f.after.filter fun k => decide (k < j)

/-- The clearance of the current slot. -/
def Figures.curClearance (f : Figures) : Nat := (slotAt f.plan f.step.cur).y

/-- The start of a time to green (R71, part 1). -/
def Figures.start (f : Figures) : Time :=
  match f.step.period with
  | .green => timePlus (laterOf f.plannedEnd f.t) f.curClearance
  | .clearance drop => laterOf (timePlus drop f.curClearance) f.t

/-- The effective green and clearance of a list of slots, summed. -/
def Figures.spanOf (f : Figures) : List SlotIx → Int
  | [] => 0
  | k :: rest => f.effectiveGreen k + (slotAt f.plan k).y + f.spanOf rest

/-- The time to green TTG of slot j (R71). -/
def Figures.timeToGreen (f : Figures) (j : SlotIx) : Time := timePlus f.start (f.spanOf (f.between j))

/-- The non-IDLE channels with their indices, in channel order. -/
def liveChannels (cs : Vector Channel 4) : List (ChannelIx × LiveChannel) :=
  allChannels.filterMap fun c => (cs[c].live).map fun l => (c, l)

/-- The channel carries an EXTEND. -/
def isExtend (l : LiveChannel) : Bool :=
  match l.action with
  | .extend _ _ => true
  | .advance _ => false

/-- A slot is protected while a non-IDLE channel targets it (R72). -/
def Figures.isProtected (f : Figures) (k : SlotIx) : Bool := (liveChannels f.channels).any fun c => decide (c.2.slot = k)

/-- Some EXTEND channel is live (R74). -/
def Figures.extendLive (f : Figures) : Bool := (liveChannels f.channels).any fun c => isExtend c.2

/-- A charge list names a slot. -/
def namesSlot (charges : List (SlotIx × Nat)) (k : SlotIx) : Bool := charges.any fun q => decide (q.1 = k)

/-- The structural limit of a slot (R72). -/
def Figures.structural (f : Figures) (k : SlotIx) : Int :=
  ((slotAt f.plan k).g : Int) - f.account.charge[k] - (slotAt f.plan k).gmin

/-- The debt limit of a slot (R72). -/
def Figures.debtLimit (f : Figures) (k : SlotIx) : Int :=
  (f.policy.debtCap : Int) - f.account.debt[phaseIndex (slotAt f.plan k).phase]

/-- The time limit of the current slot in GREEN (R73). -/
def Figures.timeLimit (f : Figures) : Int :=
  timeDiff f.plannedEnd (laterOf f.t (timePlus f.step.onset (slotAt f.plan f.step.cur).gmin))

/-- The slack of a slot (R72, R73), floored at 0. -/
def Figures.slack (f : Figures) (k : SlotIx) : Nat :=
  if f.isProtected k then 0
  else if k = f.step.cur then
    match f.step.period with
    | .green => (min (f.structural k) (min f.timeLimit (f.debtLimit k))).toNat
    | .clearance _ => 0
  else (min (f.structural k) (f.debtLimit k)).toNat

/-- The sequence an extension is allocated over (R76). -/
def Figures.extensionSlots (f : Figures) : List SlotIx := f.after.filter fun k => !f.isProtected k

/-- The current slot stands first in a truncation set: GREEN with no EXTEND channel live (R74). -/
def Figures.currentTruncated (f : Figures) : Bool := decide (f.step.period = .green) && !f.extendLive

/-- The truncation set of a target slot, in order (R74). -/
def Figures.truncation (f : Figures) (j : SlotIx) : List SlotIx :=
  ((if f.currentTruncated then [f.step.cur] else []) ++ f.between j).filter fun k => !f.isProtected k

/-- The sum of the slacks of a list of slots (R74). -/
def Figures.capacity (f : Figures) (ks : List SlotIx) : Nat := ks.foldr (fun k acc => f.slack k + acc) 0

/-- The extension capacity S_ext (R74). -/
def Figures.sExt (f : Figures) : Nat := f.capacity f.extensionSlots

/-- The advance capacity S_adv of a target slot (R74). -/
def Figures.sAdv (f : Figures) (j : SlotIx) : Nat := f.capacity (f.truncation j)

/-- Allocation of an amount over slots with their slacks: pairs in order, none for a slot that gives 0 (R76). -/
def allocate : List (SlotIx × Nat) → Nat → List (SlotIx × Nat)
  | [], _ => []
  | (k, slack) :: rest, n =>
    if min slack n = 0 then allocate rest n else (k, min slack n) :: allocate rest (n - min slack n)

/-- A charge list made over a sequence of slots, all slacks formed first (R76). -/
def Figures.allocation (f : Figures) (ks : List SlotIx) (n : Nat) : List (SlotIx × Nat) :=
  allocate (ks.map fun k => (k, f.slack k)) n

/-- Pairs merged into a charge list: an amount is added to the pair already held for its slot, a new slot goes to the
end (R89, R106). -/
def mergePair : List (SlotIx × Nat) → SlotIx × Nat → List (SlotIx × Nat)
  | [], q => [q]
  | (k, n) :: rest, q => if k = q.1 then (k, n + q.2) :: rest else (k, n) :: mergePair rest q

/-- A whole list of pairs merged in order. -/
def mergePairs (charges more : List (SlotIx × Nat)) : List (SlotIx × Nat) := more.foldl mergePair charges

end Sys2Proof.Machine
end

