-- ==== Sys2Proof/Machine/Effects.lean ====
section
/-! DEFINITION. The effects one block has on another, each written once: evaluation causes and passes (R79 to R82), the
end of a channel (R112 to R115), containment triggers and fault occurrences (R154 to R163), and the closure of an entry
with its handoff request (R29 to R33, R145). -/

namespace Sys2Proof.Machine

/-! ## Evaluation causes and passes -/

/-- The tracker is IN_STEP. -/
def State.inStep (s : State) : Bool :=
  match s.tracker with
  | .inStep _ => true
  | _ => false

/-- The engine's running condition (R80). -/
def State.mayRun (s : State) : Bool :=
  decide (s.containment.state = .normal) && decide (s.ovr.state = .inactive) && s.inStep

/-- The entry rides an EXTEND channel: GRANTED, and in the rider list of that channel (R82). -/
def State.ridesExtend (s : State) (i : EntryIx) (e : Entry) : Bool :=
  match e.state with
  | .granted c =>
    match s.channels[c].live with
    | some l => isExtend l && decide (i ∈ l.riders)
    | none => false
  | _ => false

/-- An entry that belongs on a candidate list (R82). -/
def State.isCandidate (s : State) (i : EntryIx) (e : Entry) : Bool :=
  match e.state with
  | .granted _ => s.ridesExtend i e
  | _ => decide (1 ≤ e.level) && s.approaches[e.approach].enabled

/-- The order of a candidate list at a time: level highest first, A_e* earliest first, approach and then index lowest
first (R82). -/
def candidateBefore (t : Time) (x y : EntryIx × Entry) : Bool :=
  if x.2.level ≠ y.2.level then decide (y.2.level < x.2.level)
  else
    let a := (effectiveWindow x.2 t).1
    let b := (effectiveWindow y.2 t).1
    if a ≠ b then isLater b a
    else if x.2.approach ≠ y.2.approach then decide (x.2.approach < y.2.approach)
    else decide (x.1 < y.1)

/-- Insertion into a list kept in candidate order. -/
def insertCandidate (t : Time) (x : EntryIx × Entry) : List (EntryIx × Entry) → List (EntryIx × Entry)
  | [] => [x]
  | y :: rest => if candidateBefore t x y then x :: y :: rest else y :: insertCandidate t x rest

/-- The live entries with their indices, in index order. -/
def State.liveEntries (s : State) : List (EntryIx × Entry) :=
  allEntries.filterMap fun i => (s.table[i]).map fun e => (i, e)

/-- The candidate list of a pass that starts now, sorted, as indices and vehicle ids (R82). -/
def State.candidates (s : State) : List (EntryIx × Vehicle) :=
  (((s.liveEntries.filter fun x => s.isCandidate x.1 x.2).foldr (insertCandidate s.time) [])).map
    fun x => (x.1, x.2.vehicle)

/-- A pass starts; one whose candidate list is empty ends as soon as it starts (R80, R82). -/
def State.startPass (s : State) : State :=
  match s.candidates with
  | [] => { s with engine := { pass := none, again := false } }
  | c :: rest => { s with engine := { pass := some (c :: rest), again := false } }

/-- An evaluation cause reaches the engine (R80). -/
def State.cause (s : State) : State :=
  match s.engine.pass with
  | some _ => { s with engine := { s.engine with again := true } }
  | none => if s.mayRun then s.startPass else s

/-- A cause raised only when a condition holds. -/
def State.causeIf (s : State) (b : Bool) : State := if b then s.cause else s

/-- A pass in progress is stopped: no further turn, list discarded, again-flag cleared (R81). -/
def State.stopPass (s : State) : State := { s with engine := engineIdle }

/-- The last turn has been taken: the pass ends, and a set again-flag starts a new one if the running condition still
holds (R80). -/
def State.endPass (s : State) : State :=
  let idle := { s with engine := engineIdle }
  if s.engine.again && s.mayRun then idle.startPass else idle

/-! ## Channels and their riders -/

/-- The highest level among the riders of a list (spec/06, The channel record). -/
def State.ridersLevel (s : State) (riders : List EntryIx) : Nat :=
  riders.foldr (fun i acc => match s.table[i] with | some e => max e.level acc | none => acc) 0

/-- The amount an end refunds: an EXTEND's remaining time, but nothing on COMPLETE or PLAN_CHANGE; nothing for an
ADVANCE (R114). -/
def refundAmount (l : LiveChannel) (r : EndReason) : Nat :=
  match l.action with
  | .advance _ => 0
  | .extend remaining _ =>
    match r with
    | .complete => 0
    | .planChange => 0
    | _ => remaining

/-- An onset has moved the current slot away from a target slot (R115). -/
def State.movedFrom (s : State) (k : SlotIx) : Bool :=
  match s.tracker with
  | .inStep r => decide (r.cur ≠ k)
  | _ => false

/-- A channel's refund of a total applied to the account (R115): off its charge list in reverse order, and off x_cur
unless an onset has already moved the current slot. -/
def State.applyRefund (s : State) (l : LiveChannel) (total : Nat) : State :=
  match s.plans.active with
  | none => s
  | some p =>
    let a := refundAll p s.account l.charges total
    { s with account := if s.movedFrom l.slot then a else { a with xcur := a.xcur - total } }

/-- A rider returned to the table by the end of its channel (R28, R113). -/
def State.returnRider (r : EndReason) (s : State) (i : EntryIx) : State :=
  match s.table[i] with
  | some e => s.setEntry i (some { e with state := .tracking, note := some (.ended r) })
  | none => s

/-- The end of one live channel but for its evaluation cause (R113, effects 1 to 3). -/
def State.closeChannel (s : State) (c : ChannelIx) (l : LiveChannel) (r : EndReason) : State :=
  let s := s.applyRefund l (refundAmount l r)
  let s := l.riders.foldl (State.returnRider r) s
  s.setChannel c { live := none, lastEnd := some (r, s.time) }

/-- A channel ends: the effects of R113 in order. An end that finds the channel IDLE does nothing. -/
def State.endChannel (s : State) (c : ChannelIx) (r : EndReason) : State :=
  match s.channels[c].live with
  | some l => (s.closeChannel c l r).cause
  | none => s

/-- A RUNNING EXTEND channel with no time remaining: its last decisecond is being counted (R107). -/
def countedOut (l : LiveChannel) : Bool :=
  match l.action, l.run with
  | .extend 0 _, .running => true
  | _, _ => false

/-- The channel as it stood before its last decisecond was counted: 1 ds remaining (R107, R126), but 0 ds where its amount
is 0, so that no end refunds more than was granted (R115; assumptions 10 and 34). -/
def uncounted (l : LiveChannel) : LiveChannel :=
  match l.action with
  | .extend _ runFrom => { l with action := .extend (min 1 l.amount) runFrom }
  | .advance deadline => { l with action := .advance deadline }

/-- A counted-out channel that meets another event of its decisecond: the count is taken first and it ends COMPLETE, or
the other event is taken first and finds 1 ds remaining (R107, R126; assumption 10). An extension of 0 ds counts as
counted out from its start, and the other event finds it with 0 ds remaining (assumptions 10 and 34). -/
def State.settleCount (base : Nat) (test : LiveChannel → Bool) (s : State) (c : ChannelIx) : State :=
  match s.channels[c].live with
  | some l =>
    if countedOut l && test l then
      if Config.countFirst (base + c.val) then s.endChannel c .complete
      else s.setChannel c { s.channels[c] with live := some (uncounted l) }
    else s
  | none => s

/-- Every counted-out channel that meets a test settled, in channel order, before the event that ends or suspends it. -/
def State.settleCounts (s : State) (test : LiveChannel → Bool) : State :=
  if (liveChannels s.channels).any fun c => countedOut c.2 && test c.2 then
    allChannels.foldl (State.settleCount s.freeIndex test) { s with freeIndex := s.freeIndex + 4 }
  else s

/-- The channels that meet a test, ended one after another in channel order. -/
def State.endWhere (s : State) (test : ChannelIx → LiveChannel → Bool) (reason : ChannelIx → EndReason) : State :=
  allChannels.foldl (fun s c =>
    match s.channels[c].live with
    | some l => if test c l then s.endChannel c (reason c) else s
    | none => s) s

/-- Every non-IDLE channel ended for one reason. -/
def State.endAll (s : State) (r : EndReason) : State := s.endWhere (fun _ _ => true) (fun _ => r)

/-- A rider leaves a channel (R112): the rest keep their order and give the channel its level; with no rider left the
channel ends with RELEASED. Answers whether it ended; its evaluation cause is raised once the write is whole. -/
def State.leaveChannel (s : State) (c : ChannelIx) (i : EntryIx) : State × Bool :=
  match s.channels[c].live with
  | none => (s, false)
  | some l =>
    match l.riders.filter fun j => decide (j ≠ i) with
    | [] => (s.closeChannel c { l with riders := [] } .released, true)
    | j :: rest =>
      (s.setChannel c { s.channels[c] with
          live := some { l with riders := j :: rest, level := s.ridersLevel (j :: rest) } }, false)

/-- A GRANTED entry leaves its channel (R26, R29); any other leaves nothing. -/
def State.shed (s : State) (i : EntryIx) (e : Entry) : State × Bool :=
  match e.state with
  | .granted c => s.leaveChannel c i
  | _ => (s, false)

/-! ## Containment and faults -/

/-- A containment trigger (R160, R161). It is ignored while the enable is OFF and in SETTLING and HELD. -/
def State.trigger (s : State) (reason : ContainReason) : State :=
  if s.containment.enable ∧ s.containment.state = .normal then
    let expiry := timePlus s.time s.containment.settleTimeout
    let s := { s with containment := { s.containment with state := .settling reason expiry } }
    ((s.stopPass).endAll .contained).raise .cnt
  else s

/-- A trigger of this kind would take effect now (R154, R160). -/
def State.wouldTrigger (s : State) (k : FaultKind) : Bool :=
  !kindBit s.faults.mask k && kindBit s.faults.severity k && s.containment.enable &&
    decide (s.containment.state = .normal)

/-- The recorder after an occurrence of an unmasked kind: the first-fault pointer and record are taken only while the
pointer is NONE (R157). -/
def takePointer (f : FaultRecorder) (k : FaultKind) (t : Time) (src : FaultSource) (v : Option Vehicle) :
    FaultRecorder :=
  match f.pointer with
  | some _ => f
  | none => { f with pointer := some k, record := { valid := true, kind := k, time := t, source := src, vehicle := v } }

/-- An occurrence of a fault at the recorder (R154): its status is set; unmasked, it raises FLT (R159), may take the
pointer (R157), and with severity CONTAIN is a trigger (R160). -/
def State.occur (s : State) (k : FaultKind) (src : FaultSource) (v : Option Vehicle) : State :=
  let s := { s with faults := { s.faults with status := s.faults.status ||| kindMap k } }
  if kindBit s.faults.mask k then s
  else
    let s := ({ s with faults := takePointer s.faults k s.time src v }).raise .flt
    if kindBit s.faults.severity k then s.trigger (.fault k) else s

/-- A boundary or adoption observed in SETTLING makes containment HELD (R163). -/
def State.observeBoundary (s : State) : State :=
  match s.containment.state with
  | .settling reason _ =>
    ({ s with containment := { s.containment with state := .held reason } }).raise .cnt
  | _ => s

/-! ## Handoff requests and closures -/

/-- The HANDOFFs of an outgoing queue. -/
def handoffCount (q : List OutMsg) : Nat :=
  (q.filter fun m => match m with | .handoff _ _ _ _ => true | .ack _ _ => false).length

/-- The number of messages an outgoing queue holds at most (R144). -/
def outgoingCapacity : Nat := 4

/-- The number of items an awaiting-ack list holds at most (R146). -/
def awaitingCapacity : Nat := 4

/-- The number of messages a receive queue holds at most (R148). -/
def receiveCapacity : Nat := 2

/-- A HANDOFF outcome record (R147). -/
def handoffRecord (t : Time) (v : Vehicle) (route : Route) (a : Approach) (level : Nat) (r : HandoffResult) :
    OutcomeRecord :=
  { time := t, vehicle := v, route, approach := a, level, body := .handoff r }

/-- The port an exit side names (R145). -/
def portOfExit : ExitSide → Option PortId
  | .none => none
  | .toA => some .linkA
  | .toB => some .linkB

/-- The first check of R145 after the exit side that fails at a port, if any. -/
def handoffRefusal (p : CorridorPort) : Option NotSent :=
  if p.state ≠ .up then some .linkNotUp
  else if p.peerContained then some .peerContained
  else if outgoingCapacity ≤ p.outgoing.length ∨ awaitingCapacity ≤ p.awaiting.length + handoffCount p.outgoing then
    some .queueFull
  else none

/-- The port with a HANDOFF for a closed entry at the tail of its outgoing queue (R145). -/
def enqueueHandoff (p : CorridorPort) (e : Entry) : CorridorPort :=
  let m : HandoffMsg :=
    { id := p.nextId, vehicle := e.vehicle, route := e.route, lateness := e.lateness, nominal := p.settings.nominal,
      tolerance := p.settings.tolerance }
  { p with
    outgoing := p.outgoing ++ [.handoff m e.approach e.level p.settings.ackTimeout]
    nextId := p.nextId + 1 }

/-- A handoff requested for a closed entry (R33, R145): enqueued on its exit port, or a NOT_SENT record. -/
def State.requestHandoff (s : State) (e : Entry) : State :=
  let record (why : NotSent) := handoffRecord s.time e.vehicle e.route e.approach e.level (.notSent why)
  match portOfExit s.approaches[e.approach].exitSide with
  | none => s.pushOutcome (record .noExit)
  | some p =>
    match handoffRefusal (s.link p) with
    | some why => s.pushOutcome (record why)
    | none => s.setLink p (enqueueHandoff (s.link p) e)

/-- The CLOSED record of an entry as it stands (R30). -/
def closedRecord (e : Entry) (t : Time) (r : CloseReason) : OutcomeRecord :=
  { time := t, vehicle := e.vehicle, route := e.route, approach := e.approach, level := e.level,
    body := .closed r e.lastAction e.grantedTotal e.origin }

/-- A served closure requests a handoff (R29, R33). -/
def isServed : CloseReason → Bool
  | .servedRadio => true
  | .servedLoop => true
  | _ => false

/-- The closure write of a live entry (R29): it leaves its channel, its CLOSED record is pushed, a served one requests a
handoff, and it becomes FREE. The cause of a channel that ended with it follows the write (R113). -/
def State.closeEntry (s : State) (i : EntryIx) (e : Entry) (r : CloseReason) : State :=
  let left := s.shed i e
  let s := left.1.pushOutcome (closedRecord e s.time r)
  let s := if isServed r then s.requestHandoff e else s
  (s.setEntry i none).causeIf left.2

/-- The live entry that holds a vehicle id, if any (R20). -/
def State.entryOf (s : State) (v : Vehicle) : Option (EntryIx × Entry) :=
  s.liveEntries.find? fun x => decide (x.2.vehicle = v)

/-- The lowest-numbered FREE entry, if any (R21). -/
def State.freeEntry (s : State) : Option EntryIx := allEntries.find? fun i => (s.table[i]).isNone

/-- Some live entry has an approach (R18). -/
def State.approachInUse (s : State) (a : Approach) : Bool := s.liveEntries.any fun x => decide (x.2.approach = a)

/-! ## Eviction (R22) -/

/-- The entries that eviction may choose for a newcomer of a level: TRACKING and strictly lower (R22). -/
def State.evictable (s : State) (level : Nat) : List (EntryIx × Entry) :=
  s.liveEntries.filter fun x => decide (x.2.state = .tracking) && decide (x.2.level < level)

/-- The unconfirmed entries of a list if it has any, else the whole list (R22, test 1). -/
def preferUnconfirmed (xs : List (EntryIx × Entry)) : List (EntryIx × Entry) :=
  match xs.filter fun x => !x.2.confirmed with
  | [] => xs
  | y :: ys => y :: ys

/-- The entries of the lowest level of a list (R22, test 2). -/
def lowestLevel (xs : List (EntryIx × Entry)) : List (EntryIx × Entry) :=
  xs.filter fun x => xs.all fun y => decide (x.2.level ≤ y.2.level)

/-- The oldest creation of a list in index order; among equals the one that stands first (R22, tests 3 and 4). -/
def oldest : List (EntryIx × Entry) → Option (EntryIx × Entry)
  | [] => none
  | x :: rest =>
    match oldest rest with
    | none => some x
    | some y => if isLater x.2.created y.2.created then some y else some x

/-- The victim of eviction for a newcomer of a level, if any (R22). -/
def State.victim (s : State) (level : Nat) : Option (EntryIx × Entry) :=
  oldest (lowestLevel (preferUnconfirmed (s.evictable level)))

/-- A place for a newcomer of a level: the lowest FREE index, else the index of a victim, which closes with EVICTED;
none when the newcomer is refused (R21, R22, R23). -/
def State.makePlace (s : State) (level : Nat) : Option (State × EntryIx) :=
  match s.freeEntry with
  | some i => some (s, i)
  | none =>
    match s.victim level with
    | some (i, e) => some (s.closeEntry i e .evicted, i)
    | none => none

end Sys2Proof.Machine
end

