-- ==== Sys2Proof/Machine/Channels.lean ====
section
/-! DEFINITION. The execution channels' own events and CANCEL_CHANNEL (spec/06). -/

namespace Sys2Proof.Machine

/-- An ARMED EXTEND channel whose run-from time is reached becomes RUNNING (R105). -/
def State.startExtension (s : State) (c : ChannelIx) : State :=
  match s.channels[c].live with
  | some l =>
    match l.action, l.run with
    | .extend _ runFrom, .armed =>
      if s.reached runFrom then s.setChannel c { s.channels[c] with live := some { l with run := .running } } else s
    | _, _ => s
  | none => s

/-- RUN_FROM_TIME_REACHED. Nothing happens unless the channel waits for a run-from time that is reached
(assumption 3). -/
def execRunFromTimeReached (c : ChannelIx) (s : State) : Host.Outcome State Fault Refusal :=
  .next (s.whenReleased (·.startExtension c))

/-- A RUNNING EXTEND channel whose remaining time is 0 ends with COMPLETE (R107). -/
def State.completeExtension (s : State) (c : ChannelIx) : State :=
  match s.channels[c].live with
  | some l =>
    if countedOut l then s.endChannel c .complete else s
  | none => s

/-- REMAINING_REACHES_ZERO. Nothing happens unless the channel runs an extension with no time remaining
(assumption 3). -/
def execRemainingReachesZero (c : ChannelIx) (s : State) : Host.Outcome State Fault Refusal :=
  .next (s.whenReleased (·.completeExtension c))

/-- The approach and vehicle of a channel's first rider, which an ADV_MISSED reports (R111). -/
def State.firstRider (s : State) (l : LiveChannel) : FaultSource × Option Vehicle :=
  match l.riders with
  | [] => (.none, none)
  | i :: _ =>
    match s.table[i] with
    | some e => (.approach e.approach, some e.vehicle)
    | none => (.none, none)

/-- An ADVANCE channel that is ARMED or RUNNING ends with MISSED at its deadline, and ADV_MISSED occurs (R111). -/
def State.missAdvance (s : State) (c : ChannelIx) : State :=
  match s.channels[c].live with
  | some l =>
    match l.action, l.run with
    | .advance _, .suspended _ => s
    | .advance deadline, _ =>
      if s.reached deadline then
        let who := s.firstRider l
        (s.endChannel c .missed).occur .advMissed who.1 who.2
      else s
    | .extend _ _, _ => s
  | none => s

/-- DEADLINE_REACHED. Nothing happens unless the channel is an ARMED or RUNNING advance whose deadline is reached
(assumption 3). -/
def execDeadlineReached (c : ChannelIx) (s : State) : Host.Outcome State Fault Refusal :=
  .next (s.whenReleased (·.missAdvance c))

/-- CANCEL_CHANNEL judged (R118): BAD_ARG, NOT_FOUND on an IDLE channel, else its end, answered with the refund. -/
def State.judgeCancel (s : State) (index : Byte) : Judged :=
  match channelOfByte index with
  | none => refuse s .badArg
  | some c =>
    match s.channels[c].live with
    | none => refuse s .notFound
    | some l => okWith (s.endChannel c .cancelled) (natBytes (refundAmount l .cancelled))

/-- CANCEL_CHANNEL. -/
def execCancelChannel (index : Byte) (s : State) : Host.Outcome State Fault Refusal :=
  .next (s.take codeCancelChannel (·.judgeCancel index))

end Sys2Proof.Machine
end

