-- ==== Sys2Proof/Machine/Decision.lean ====
section
/-! DEFINITION. The grant decision (spec/05): the judgement of a candidate (R84 to R86), denials (R87), joins and top-ups
(R88, R89), the choice of a channel and preemption (R90 to R92), grants (R93, R94), and the commands CANDIDATE_TURN,
FORCE_GRANT and SET_POLICY. -/

namespace Sys2Proof.Machine

/-! ## Judging -/

/-- An amount a candidate may be granted: an extension of the current slot, or an advance of a slot (R85, R86). -/
inductive Proposal where
  | extend (n : Nat)
  | advance (slot : SlotIx) (n : Nat)
deriving DecidableEq, Repr

/-- What a judgement finds: a denial with the wanted action of its case, a join with a top-up (0 for none), or a
feasible grant that needs a channel. -/
inductive Verdict where
  | deny (d : Denial) (wanted : ActionMark)
  | join (c : ChannelIx) (topUp : Nat)
  | feasible (p : Proposal)
deriving DecidableEq, Repr

/-- The number of riders a channel carries at most (R88). -/
def riderCapacity : Nat := 4

/-- The four checks of an extension or top-up of an amount, in order; the first that fails gives the denial (R85). -/
def Figures.extensionDenial (f : Figures) (n : Nat) : Option Denial :=
  if (slotAt f.plan f.step.cur).e < f.account.xcur + n then some .extLimit
  else if (liveChannels f.channels).any (fun c => !isExtend c.2 && namesSlot c.2.charges f.step.cur) then some .conflict
  else if f.sExt < n then some .capacity
  else if f.account.budgetLeft < n then some .budget
  else none

/-- The live channel of an action that targets a slot, if any (R85, R86). -/
def Figures.channelOn (f : Figures) (extend : Bool) (k : SlotIx) : Option (ChannelIx × LiveChannel) :=
  (liveChannels f.channels).find? fun c => decide (c.2.slot = k) && (isExtend c.2 == extend)

/-- A candidate for the current slot in GREEN judged against an EXTEND channel on it (R88, R89). A top-up of 0, which arises
only where A_l and the planned end are both past, is a join without one (assumption 34). -/
def Figures.judgeExtendJoin (f : Figures) (aL : Time) (c : ChannelIx) (l : LiveChannel) : Verdict :=
  if riderCapacity ≤ l.riders.length then .deny .ridersFull .extend
  else if atOrAfter (timePlus f.plannedEnd (-(l.amount : Int))) aL then .deny .noneNeeded .none
  else if atOrAfter f.plannedEnd aL then .join c 0
  else
    let n := (timeDiff aL f.referenceEnd).toNat
    match f.extensionDenial n with
    | some d => .deny d .extend
    | none => .join c n

/-- Case A, extension: the candidate's slot is current in GREEN (R85). The need follows the formula of R75, which gives 0
where A_l and the planned end are both past; such an extension is granted with 0 ds (assumption 34). -/
def Figures.judgeExtend (f : Figures) (aL : Time) : Verdict :=
  match f.channelOn true f.step.cur with
  | some (c, l) => f.judgeExtendJoin aL c l
  | none =>
    if atOrAfter f.plannedEnd aL then .deny .noneNeeded .none
    else
      let n := (timeDiff aL f.referenceEnd).toNat
      match f.extensionDenial n with
      | some d => .deny d .extend
      | none => .feasible (.extend n)

/-- The advance amount a_g of a need: the smallest of the need, S_adv and B_rem (R75). -/
def Figures.advanceAmount (f : Figures) (j : SlotIx) (need : Nat) : Nat :=
  min need (min (f.sAdv j) f.account.budgetLeft)

/-- Case B, advance to slot j (R86, R88). -/
def Figures.judgeAdvance (f : Figures) (aE : Time) (j : SlotIx) : Verdict :=
  match f.channelOn false j with
  | some (c, l) =>
    if riderCapacity ≤ l.riders.length then .deny .ridersFull .advance
    else if atOrAfter aE (timePlus (f.timeToGreen j) l.amount) then .deny .noneNeeded .none
    else .join c 0
  | none =>
    if (liveChannels f.channels).any (fun c => namesSlot c.2.charges j) then .deny .conflict .advance
    else if atOrAfter aE (f.timeToGreen j) then .deny .noneNeeded .none
    else
      let ag := f.advanceAmount j (timeDiff (f.timeToGreen j) aE).toNat
      if ag = 0 ∨ ag < f.policy.aMin then .deny .advShort .advance else .feasible (.advance j ag)

/-- The case a candidate's slot gives (R84). -/
inductive DecisionCase where
  | extension
  | advance
  | nextCycle
deriving DecidableEq, Repr

/-- The case of slot j against the tracker (R84). -/
def Figures.caseOf (f : Figures) (j : SlotIx) : DecisionCase :=
  if j = f.step.cur then
    match f.step.period with
    | .green => .extension
    | .clearance _ => .nextCycle
  else if f.step.cur < j ∨ j = 0 then .advance
  else .nextCycle

/-- The judgement of a case at an effective window (R84, gate 3). -/
def Figures.judgeCase (f : Figures) (w : Time × Time) (j : SlotIx) : Verdict :=
  match f.caseOf j with
  | .extension => f.judgeExtend w.2
  | .advance => f.judgeAdvance w.1 j
  | .nextCycle => .deny .nextCycle .none

/-- The full judgement of a candidate whose phase is given (R84). -/
def Figures.judge (f : Figures) (e : Entry) (ph : Phase) : Verdict :=
  let w := effectiveWindow e f.t
  match slotOf f.plan ph with
  | none => .deny .noPhase .none
  | some j => if (f.policy.horizon : Int) < timeDiff w.1 f.t then .deny .far .none else f.judgeCase w j

/-- Denials that leave an entry PENDING; the others leave it TRACKING (R87). -/
def Denial.isTemporary : Denial → Bool
  | .budget => true
  | .capacity => true
  | .conflict => true
  | .noChannel => true
  | .ridersFull => true
  | _ => false

/-! ## Writing a decision -/

/-- A denial written to its entry: note, state and wanted action (R87). -/
def State.deny (s : State) (i : EntryIx) (e : Entry) (d : Denial) (wanted : ActionMark) : State :=
  s.setEntry i (some { e with
    state := if d.isTemporary then .pending else .tracking
    note := some (.denied d)
    wanted })

/-- The largest granted total an entry holds (R28). -/
def grantedLimit : Nat := 65535

/-- An entry that rides a channel after a grant or a join (R28, R88, R93). -/
def riding (e : Entry) (c : ChannelIx) (act : ActionMark) (amount : Nat) : Entry :=
  { e with state := .granted c, note := none, wanted := act, lastAction := act,
           grantedTotal := min grantedLimit (e.grantedTotal + amount) }

/-- The action of a channel as an entry marks it. -/
def markOf (l : LiveChannel) : ActionMark := if isExtend l then .extend else .advance

/-- The channel record of an extension granted now (R93): RUNNING when t is at or after the planned end before the
grant, which becomes its run-from time. -/
def Figures.extendRecord (f : Figures) (n : Nat) (i : EntryIx) (level : Nat) (cause : StartCause) : LiveChannel :=
  { run := if atOrAfter f.t f.plannedEnd then .running else .armed
    action := .extend n f.plannedEnd
    slot := f.step.cur
    phase := (slotAt f.plan f.step.cur).phase
    cause
    amount := n
    riders := [i]
    charges := f.allocation f.extensionSlots n
    level
    grantTime := f.t }

/-- The channel record of an advance of slot j granted now (R93): RUNNING when the current slot is in the truncation set
or in clearance; its deadline is TTG' plus ADV_TOL (R75). -/
def Figures.advanceRecord (f : Figures) (j : SlotIx) (n : Nat) (i : EntryIx) (level : Nat) (cause : StartCause) :
    LiveChannel :=
  { run := if f.step.cur ∈ f.truncation j ∨ f.step.period ≠ .green then .running else .armed
    action := .advance (timePlus (f.timeToGreen j) ((f.policy.advTol : Int) - n))
    slot := j
    phase := (slotAt f.plan j).phase
    cause
    amount := n
    riders := [i]
    charges := f.allocation (f.truncation j) n
    level
    grantTime := f.t }

/-- The channel record a proposal gives (R93). -/
def Figures.record (f : Figures) (p : Proposal) (i : EntryIx) (level : Nat) (cause : StartCause) : LiveChannel :=
  match p with
  | .extend n => f.extendRecord n i level cause
  | .advance j n => f.advanceRecord j n i level cause

/-- The account after a grant: every pair charged, then x_cur raised by an extension (R94). -/
def Figures.charged (f : Figures) (p : Proposal) (l : LiveChannel) : Account :=
  let a := chargeAll f.plan f.account l.charges
  match p with
  | .extend n => { a with xcur := a.xcur + n }
  | .advance _ _ => a

/-- A grant written whole: channel record, account and entry (R93, R94). -/
def State.grant (s : State) (f : Figures) (c : ChannelIx) (i : EntryIx) (e : Entry) (p : Proposal)
    (cause : StartCause) : State :=
  let l := f.record p i e.level cause
  let s := { s with account := f.charged p l }
  let s := s.setChannel c { s.channels[c] with live := some l }
  s.setEntry i (some (riding e c (markOf l) l.amount))

/-- The lowest-numbered IDLE channel, if any (R90). -/
def State.idleChannel (s : State) : Option ChannelIx := allChannels.find? fun c => (s.channels[c].live).isNone

/-- A rider's granted total raised by a top-up (R89). -/
def State.raiseGranted (n : Nat) (s : State) (i : EntryIx) : State :=
  match s.table[i] with
  | some e => s.setEntry i (some { e with grantedTotal := min grantedLimit (e.grantedTotal + n) })
  | none => s

/-- The record of an EXTEND channel after a top-up: amount and remaining raised, pairs merged (R89, R106). -/
def toppedUp (l : LiveChannel) (n : Nat) (pairs : List (SlotIx × Nat)) : LiveChannel :=
  { l with
    amount := l.amount + n
    action := match l.action with
      | .extend remaining runFrom => .extend (remaining + n) runFrom
      | .advance deadline => .advance deadline
    charges := mergePairs l.charges pairs }

/-- A top-up of a live EXTEND channel applied at a turn (R89, R106). The riders present have their granted totals
raised. -/
def State.topUp (s : State) (f : Figures) (c : ChannelIx) (l : LiveChannel) (n : Nat) : State :=
  let pairs := f.allocation f.extensionSlots n
  let a := chargeAll f.plan f.account pairs
  let s := { s with account := { a with xcur := a.xcur + n } }
  let l := toppedUp l n pairs
  let s := l.riders.foldl (State.raiseGranted n) s
  s.setChannel c { s.channels[c] with live := some { l with level := s.ridersLevel l.riders } }

/-- A candidate appended to a channel's riders; its granted total is raised by the channel's whole amount (R88). -/
def State.addRider (s : State) (c : ChannelIx) (i : EntryIx) (e : Entry) : State :=
  match s.channels[c].live with
  | none => s
  | some l =>
    let s := s.setEntry i (some (riding e c (markOf l) l.amount))
    let riders := l.riders ++ [i]
    s.setChannel c { s.channels[c] with live := some { l with riders, level := s.ridersLevel riders } }

/-- A join, with its top-up if it needs one (R88, R89). -/
def State.join (s : State) (f : Figures) (i : EntryIx) (e : Entry) (c : ChannelIx) (n : Nat) : State :=
  match s.channels[c].live with
  | none => s
  | some l => (if n = 0 then s else s.topUp f c l n).addRider c i e

/-! ## Preemption -/

/-- The better victim of two channels in channel order: the lower level, then the more recent grant, then the higher
number (R91). -/
def worseVictim (x y : ChannelIx × LiveChannel) : ChannelIx × LiveChannel :=
  if x.2.level < y.2.level then x
  else if y.2.level < x.2.level then y
  else if isLater x.2.grantTime y.2.grantTime then x
  else y

/-- The victim of preemption for a candidate of a level, if any (R91). -/
def State.channelVictim (s : State) (level : Nat) : Option (ChannelIx × LiveChannel) :=
  match (liveChannels s.channels).filter fun c => decide (c.2.level < level) with
  | [] => none
  | c :: rest => some (rest.foldl worseVictim c)

/-- A proposal that stands at a judgement against a state's figures (R91, R92). -/
def State.feasibleNow (s : State) (e : Entry) (j : SlotIx) : Option (Figures × Proposal) :=
  match s.figures with
  | none => none
  | some f =>
    match f.judgeCase (effectiveWindow e f.t) j with
    | .feasible p => some (f, p)
    | _ => none

/-- The case's action as a denial marks it (R87). -/
def proposalMark : Proposal → ActionMark
  | .extend _ => .extend
  | .advance _ _ => .advance

/-- A feasible candidate given a channel: the lowest IDLE one, else one preempted under R91, else NO_CHANNEL (R90). -/
def State.allot (s : State) (f : Figures) (i : EntryIx) (e : Entry) (j : SlotIx) (p : Proposal) : State :=
  match s.idleChannel with
  | some c => s.grant f c i e p .decision
  | none =>
    let denied := s.deny i e .noChannel (proposalMark p)
    if !s.policy.preemption then denied
    else
      match s.channelVictim e.level with
      | none => denied
      | some (c, _) =>
        let ended := s.endChannel c .preempted
        match ended.feasibleNow e j with
        | some (f', p') => ended.grant f' c i e p' .decision
        | none => denied

/-- The channels in the way of a candidate for slot j (R92): for an extension those that charge the current slot or
target a later one, for an advance those that charge slot j. -/
def Figures.inTheWay (f : Figures) (j : SlotIx) (l : LiveChannel) : Bool :=
  match f.caseOf j with
  | .extension => namesSlot l.charges f.step.cur || f.after.contains l.slot
  | _ => namesSlot l.charges j

/-- A CONFLICT or CAPACITY denial that preemption may resolve (R92); otherwise the denial stands. -/
def State.clearTheWay (s : State) (f : Figures) (i : EntryIx) (e : Entry) (j : SlotIx) (d : Denial)
    (wanted : ActionMark) : State :=
  let denied := s.deny i e d wanted
  let blockers := (liveChannels s.channels).filter fun c => f.inTheWay j c.2
  if !s.policy.preemption || blockers.any (fun c => decide (e.level ≤ c.2.level)) then denied
  else
    let ended := s.endWhere (fun _ l => f.inTheWay j l) (fun _ => .preempted)
    match ended.feasibleNow e j, ended.idleChannel with
    | some (f', p'), some c => ended.grant f' c i e p' .decision
    | _, _ => denied

/-- A candidate of a new grant denied with CONFLICT or CAPACITY; a failed top-up is not resolved by preemption (R89,
R92). -/
def Figures.mayClear (f : Figures) (j : SlotIx) (d : Denial) : Bool :=
  match d with
  | .conflict => !(decide (f.caseOf j = .extension) && (f.channelOn true f.step.cur).isSome)
  | .capacity => !(decide (f.caseOf j = .extension) && (f.channelOn true f.step.cur).isSome)
  | _ => false

/-! ## Turns -/

/-- A full judgement and what it writes (R84 to R94). -/
def State.fullTurn (s : State) (f : Figures) (i : EntryIx) (e : Entry) : State :=
  let ph := s.approaches[e.approach].phase
  match f.judge e ph, slotOf f.plan ph with
  | .deny d wanted, some j => if f.mayClear j d then s.clearTheWay f i e j d wanted else s.deny i e d wanted
  | .deny d wanted, none => s.deny i e d wanted
  | .join c n, _ => s.join f i e c n
  | .feasible p, some j => s.allot f i e j p
  | .feasible _, none => s

/-- A top-up judgement of a rider of an EXTEND channel (R83, R89). A failed one leaves the rider GRANTED with the denial
as its note and EXTEND as its wanted action. A need of 0 raises nothing (assumption 34). -/
def State.topUpTurn (s : State) (f : Figures) (i : EntryIx) (e : Entry) (c : ChannelIx) (l : LiveChannel) : State :=
  let aL := (effectiveWindow e f.t).2
  if atOrAfter f.plannedEnd aL then s
  else
    let n := (timeDiff aL f.referenceEnd).toNat
    match f.extensionDenial n with
    | some d => s.setEntry i (some { e with note := some (.denied d), wanted := .extend })
    | none => s.topUp f c l n

/-- The turn of one listed candidate, judged on its entry as it stands now (R83). -/
def State.turn (s : State) (f : Figures) (i : EntryIx) (v : Vehicle) : State :=
  match s.table[i] with
  | none => s
  | some e =>
    if e.vehicle ≠ v ∨ e.level = 0 then s
    else
      match e.state with
      | .granted c =>
        match s.channels[c].live with
        | some l => if s.ridesExtend i e then s.topUpTurn f i e c l else s
        | none => s
      | _ => s.fullTurn f i e

/-- The next turn of the pass in progress; the last one ends the pass (R80, R83). A pass whose running condition no
longer holds is stopped and takes no turn (R81). -/
def State.takeTurn (s : State) : State :=
  match s.engine.pass, s.figures with
  | none, _ => s
  | some _, none => s.stopPass
  | some [], some _ => s.endPass
  | some ((i, v) :: rest), some f =>
    if !s.mayRun then s.stopPass
    else
      let s := ({ s with engine := { s.engine with pass := some rest } }).turn f i v
      if rest.isEmpty then s.endPass else s

/-- CANDIDATE_TURN. Nothing happens while no pass is in progress (assumption 3). -/
def execCandidateTurn (s : State) : Host.Outcome State Fault Refusal := .next (s.whenReleased State.takeTurn)

/-! ## Forced grants -/

/-- The proposal FORCE_GRANT makes for a slot, clipped to the limits of its case (R96); none when a condition of R95 on
the slot and the channels fails. -/
def Figures.forcedProposal (f : Figures) (j : SlotIx) (act : GrantAction) (amount : Nat) : Option Proposal :=
  match act with
  | .extend =>
    if f.caseOf j ≠ .extension then none
    else if (liveChannels f.channels).any (fun c => !isExtend c.2 && namesSlot c.2.charges j) || f.isProtected j then none
    else
      let n := min amount (min ((slotAt f.plan j).e - f.account.xcur) (min f.sExt f.account.budgetLeft))
      if n = 0 then none else some (.extend n)
  | .advance =>
    if f.caseOf j ≠ .advance then none
    else if f.isProtected j || (liveChannels f.channels).any (fun c => namesSlot c.2.charges j) then none
    else
      let n := min amount (min (f.sAdv j) f.account.budgetLeft)
      if n = 0 then none else some (.advance j n)

/-- The granted amount of a proposal. -/
def proposalAmount : Proposal → Nat
  | .extend n => n
  | .advance _ n => n

/-- The entry is GRANTED (R19). -/
def isGranted (e : Entry) : Bool :=
  match e.state with
  | .granted _ => true
  | _ => false

/-- FORCE_GRANT on a live entry: its grant, or BAD_STATE where a condition of R95 holds. -/
def State.forceEntry (s : State) (i : EntryIx) (e : Entry) (act : GrantAction) (amount : Nat) : Judged :=
  if !s.mayRun || isGranted e then refuse s .badState
  else
    match s.figures with
    | none => refuse s .badState
    | some f =>
      match slotOf f.plan s.approaches[e.approach].phase with
      | none => refuse s .badState
      | some j =>
        match f.forcedProposal j act amount, s.idleChannel with
        | some p, some c =>
          okWith (s.grant f c i e p .forced) (natByte c.val :: natBytes (proposalAmount p))
        | _, _ => refuse s .badState

/-- FORCE_GRANT judged in the order of its rule: BAD_ARG, then NOT_FOUND, then BAD_STATE (R95, R96). -/
def State.judgeForce (s : State) (entry action : Byte) (amount : Half) : Judged :=
  match entryOfByte entry, actionOfByte action, durationIn amount 1 300 with
  | some i, some act, some n =>
    match s.table[i] with
    | none => refuse s .notFound
    | some e => s.forceEntry i e act n
  | _, _, _ => refuse s .badArg

/-- FORCE_GRANT. -/
def execForceGrant (entry action : Byte) (amount : Half) (s : State) : Host.Outcome State Fault Refusal :=
  .next (s.take codeForceGrant (·.judgeForce entry action amount))

/-! ## The engine's settings -/

/-- SET_POLICY judged (R36, R100): all eight settings replaced, debts brought down to the cap, a cause raised. -/
def State.judgePolicy (s : State) (budget debtCap repay aMin advTol horizon tStale : Half) (preemption : Byte) :
    Judged :=
  match policySettings budget debtCap repay aMin advTol horizon tStale preemption with
  | none => refuse s .badArg
  | some p => okWith ({ s with policy := p, account := accountCapped s.account p.debtCap }).cause []

/-- SET_POLICY. -/
def execSetPolicy (budget debtCap repay aMin advTol horizon tStale : Half) (preemption : Byte) (s : State) :
    Host.Outcome State Fault Refusal :=
  .next (s.take codeSetPolicy (·.judgePolicy budget debtCap repay aMin advTol horizon tStale preemption))

end Sys2Proof.Machine
end

