-- ==== Sys2Proof/Machine/Frames.lean ====
section
/-! DEFINITION. The frames on the serial lines: the approach request frame (R4, R7, R182) and the corridor frame with its
CRC (R137, R138, R181, R183). -/

namespace Sys2Proof.Machine

/-! ## Approach request frame -/

/-- The start-of-frame byte (R3). -/
def startOfFrame : Byte := 0xA5

/-- The sum of bytes modulo 256 (R4). -/
def byteSum (bs : List Byte) : Byte := bs.foldl (· + ·) 0

/-- The kind code of a request frame (R182). -/
def frameKindOfBits (b : BitVec 2) : FrameKind :=
  match b.toNat with
  | 0 => .checkIn
  | 1 => .update
  | 2 => .checkOut
  | _ => .cancel

/-- The fields of a request frame's eleven body bytes, spare bits ignored (R181, R182). -/
def requestOfBody : List Byte → Option RequestFrame
  | [b1, b2, b3, b4, b5, b6, b7, b8, b9, b10, b11] =>
    let routeField := halfOfBytes b4 b5
    let lateField := halfOfBytes b6 b7
    let tail : BitVec 32 := (b8 ++ b9) ++ (b10 ++ b11)
    some {
      approach := (b1.extractLsb' 6 2).toFin
      kind := frameKindOfBits (b1.extractLsb' 4 2)
      seq := b1.extractLsb' 0 4
      vehicle := halfOfBytes b2 b3
      route := routeField.extractLsb' 6 10
      stopFlag := routeField.getLsbD 5
      lateness := lateField.extractLsb' 3 13
      distance := tail.extractLsb' 21 11
      speed := tail.extractLsb' 12 9
      dwell := tail.extractLsb' 1 11 }
  | _ => none

/-- A frame of twelve bytes after the start of frame, if its check is good (R4). -/
def requestOfBytes (bs : List Byte) : Option RequestFrame :=
  if byteSum bs = 0 then requestOfBody (bs.take 11) else none

/-- A lateness reduced to the range the part holds (R7). -/
def clampLateness (l : Int) : Int := max (-3000) (min 3000 l)

/-- A frame's values reduced to the ranges the part holds (R7). -/
def reduceFrame (f : RequestFrame) : Report :=
  { approach := f.approach, kind := f.kind, seq := f.seq, vehicle := f.vehicle, route := f.route,
    stopFlag := f.stopFlag, lateness := clampLateness f.lateness.toInt, distance := f.distance.toNat,
    speed := min 300 f.speed.toNat, dwell := min 1200 f.dwell.toNat }

/-! ## Corridor frame -/

/-- One step of the CRC's shift register: the top bit out, the polynomial in where it was set (R138). -/
def crcShift (r : BitVec 16) : BitVec 16 := if r.msb then (r <<< 1) ^^^ 0x1021 else r <<< 1

/-- One byte taken into the CRC, most significant bit first (R138). -/
def crcByte (r : BitVec 16) (b : Byte) : BitVec 16 :=
  let x := r ^^^ (b.setWidth 16 <<< 8)
  crcShift (crcShift (crcShift (crcShift (crcShift (crcShift (crcShift (crcShift x)))))))

/-- The CRC-16 of a corridor frame's body (R138). -/
def crc16 (body : List Byte) : BitVec 16 := body.foldl crcByte 0xFFFF

/-- The sync byte (R137). -/
def syncByte : Byte := 0x7E

/-- The body length a message kind fixes; kind 3 has that of NONE (R181, R183). -/
def bodyLength (kind : BitVec 2) : Nat :=
  match kind.toNat with
  | 1 => 13
  | 2 => 4
  | _ => 2

/-- The message kind bits of a frame's first body byte (R183). -/
def kindBits (b0 : Byte) : BitVec 2 := b0.extractLsb' 0 2

/-- A message as a received frame carries it (R183); an ACK's result stands as its code. -/
inductive InMsg where
  | none
  | handoff (m : HandoffMsg)
  | ack (id : Byte) (result : Byte)
deriving DecidableEq, Repr

/-- A received corridor frame's fields (R137). -/
structure InFrame where
  isReply : Bool
  contained : Bool
  sender : Byte
  msg : InMsg
deriving DecidableEq, Repr

/-- The message of a frame by its kind bits and payload; none for kind 3 (R181, R183). Bits 15 to 10 of the route are
ignored. -/
def messageOf (kind : BitVec 2) (payload : List Byte) : Option InMsg :=
  match kind.toNat, payload with
  | 0, [] => some .none
  | 1, [id, v1, v0, r1, r0, l1, l0, n1, n0, t1, t0] =>
    some (.handoff {
      id
      vehicle := halfOfBytes v1 v0
      route := (halfOfBytes r1 r0).extractLsb' 0 10
      lateness := (halfOfBytes l1 l0).toInt
      nominal := (halfOfBytes n1 n0).toNat
      tolerance := (halfOfBytes t1 t0).toNat })
  | 2, [id, result] => some (.ack id result)
  | _, _ => none

/-- What a port makes of a completed frame's bytes after the sync byte (R137, R138, R181). -/
inductive Received where
  /-- Fewer or more bytes than the message kind fixes: no frame has completed. -/
  | incomplete
  /-- The CRC does not match: the frame is discarded with the fault (R137). -/
  | bad
  /-- The CRC matches over message kind 3: the frame is valid and says this of its sender (R138), but it is discarded with
  the fault, as one whose CRC fails (R137, R181; assumption 36). -/
  | unknownKind (contained : Bool) (sender : Byte)
  | valid (f : InFrame)
deriving DecidableEq, Repr

/-- A completed frame checked and read (R137, R138, R181, R183). -/
def receiveFrame (bytes : List Byte) : Received :=
  match bytes with
  | [] => .incomplete
  | b0 :: _ =>
    let n := bodyLength (kindBits b0)
    let body := bytes.take n
    match bytes.drop n, body with
    | [hi, lo], _ :: sender :: payload =>
      let contained := b0.getLsbD 6
      if crc16 body ≠ halfOfBytes hi lo then .bad
      else
        match messageOf (kindBits b0) payload with
        | some msg => .valid { isReply := b0.getLsbD 7, contained, sender, msg }
        | none => .unknownKind contained sender
    | _, _ => .incomplete

/-- The code of an ACK result (R183). -/
def ackCode : AckResult → Byte
  | .accepted => 0
  | .duplicate => 1
  | .full => 2
  | .noApproach => 3
  | .route => 4

/-- The result an ACK's code names; above 4 it names none (R181). -/
def ackOfCode (b : Byte) : Option AckResult :=
  match b.toNat with
  | 0 => some .accepted
  | 1 => some .duplicate
  | 2 => some .full
  | 3 => some .noApproach
  | 4 => some .route
  | _ => none

/-- The kind bits and payload of an outgoing message (R183). -/
def payloadOf : Option OutMsg → BitVec 2 × List Byte
  | none => (0, [])
  | some (.handoff m _ _ _) =>
    (1, m.id :: (halfBytes m.vehicle ++ halfBytes (m.route.setWidth 16) ++ halfBytes (BitVec.ofInt 16 m.lateness)
      ++ natBytes m.nominal ++ natBytes m.tolerance))
  | some (.ack id result) => (2, [id, ackCode result])

/-- The body of a frame a port sends (R183); its unused bits are sent as 0 (assumption 39). -/
def frameBody (f : OutFrame) : List Byte :=
  let p := payloadOf f.msg
  let b0 : Byte := (if f.isReply then 0x80 else 0) ||| (if f.contained then 0x40 else 0) ||| p.1.setWidth 8
  b0 :: f.sender :: p.2

/-- The characters of a frame after the sync byte: the body, then the CRC high byte and low byte (R138, R183). -/
def frameBytes (f : OutFrame) : List Byte := frameBody f ++ halfBytes (crc16 (frameBody f))

/-- The characters a port puts on its line for a frame (R183). -/
def lineBytes (f : OutFrame) : List Byte := syncByte :: frameBytes f

end Sys2Proof.Machine
end

