-- ==== Sys2Proof/Machine/Intake.lean ====
section
/-! DEFINITION. Request intake and the table's own timers (spec/01, R8 to R14, R17; spec/02, R20 to R27, R34 to R37;
spec/08, R149): INTAKE_TAKE, RADIO_FRAME_APPLICATION, HANDOFF_JUDGEMENT, LOOP_ITEM, and the stale and expiry events and
checks. -/

namespace Sys2Proof.Machine

/-! ## Taking an item (R8) -/

/-- The sources in ring order from the position after one of them (R8). -/
def sourcesAfter : Source → List Source
  | .rx .rx0 => [.rx .rx1, .link .linkA, .link .linkB, .loop, .rx .rx0]
  | .rx .rx1 => [.link .linkA, .link .linkB, .loop, .rx .rx0, .rx .rx1]
  | .link .linkA => [.link .linkB, .loop, .rx .rx0, .rx .rx1, .link .linkA]
  | .link .linkB => [.loop, .rx .rx0, .rx .rx1, .link .linkA, .link .linkB]
  | .loop => [.rx .rx0, .rx .rx1, .link .linkA, .link .linkB, .loop]

/-- A source is ready (R8). -/
def State.ready (s : State) : Source → Bool
  | .rx r => (s.rx r).holding.isSome
  | .link p => !(s.link p).received.isEmpty
  | .loop => allApproaches.any fun a => s.loops[a].pending

/-- Intake BUSY with an item of a source, the pointer set to it (R8). -/
def State.busyWith (s : State) (src : Source) (item : Item) : State :=
  { s with intake := { s.intake with pointer := src, item := some item } }

/-- The item of a receive link: its frame reduced (R7), with the configuration in force now (R9, R10, R64). -/
def State.takeFrame (s : State) (r : RxId) (f : RequestFrame) : State :=
  (s.setRx r { s.rx r with holding := none }).busyWith (.rx r)
    (.radio r (reduceFrame f) s.approaches[f.approach] s.routes s.classes)

/-- The item of the loops: the lowest-numbered pending flag, cleared (R8). -/
def State.takeLoop (s : State) (a : Approach) : State :=
  { s with loops := put s.loops a { s.loops[a] with pending := false } }.busyWith .loop (.loop a)

/-- An item taken from a source (R8). -/
def State.takeFrom (s : State) : Source → State
  | .rx r =>
    match (s.rx r).holding with
    | some f => s.takeFrame r f
    | none => s
  | .link p =>
    match (s.link p).received with
    | m :: rest => (s.setLink p { s.link p with received := rest }).busyWith (.link p) (.handoff p m.1 m.2 false)
    | [] => s
  | .loop =>
    match allApproaches.find? fun a => s.loops[a].pending with
    | some a => s.takeLoop a
    | none => s

/-- The lowest-numbered entry with a check waiting (R37). -/
def State.nextCheck (s : State) : Option EntryIx :=
  allEntries.find? fun i => s.intake.staleDue[i] || s.intake.expiryDue[i]

/-- Intake, IDLE with no check waiting, takes the first ready source in ring order (R8, R37). -/
def State.intakeTake (s : State) : State :=
  if s.intake.item.isSome || s.nextCheck.isSome then s
  else
    match (sourcesAfter s.intake.pointer).find? s.ready with
    | some src => s.takeFrom src
    | none => s

/-- INTAKE_TAKE. Nothing happens while intake is BUSY, a check waits or no source is ready (assumption 3). -/
def execIntakeTake (s : State) : Host.Outcome State Fault Refusal := .next (s.whenReleased State.intakeTake)

/-! ## Route and level (R12, R14) -/

/-- The route lookup for an approach: the level cap, or the reason of the refusal (R12). -/
def lookupRoute (t : RouteTable) (route : Route) (a : Approach) : Except RejectReason Nat :=
  match t.entries.toList.find? fun e => e.enabled && decide (e.route = route) with
  | some e => if e.mask.getLsbD a.val then .ok e.cap else .error .approach
  | none =>
    match t.mode with
    | .openMode => .ok 1
    | .strict => .error .route

/-- The level of a lateness before any cap: the number of thresholds it reaches (R14). -/
def levelOf (thresholds : Vector Int 7) (lateness : Int) : Nat :=
  (thresholds.toList.filter fun t => decide (t ≤ lateness)).length

/-- A REJECTED record of a radio frame (R12, R23). -/
def rejectedRecord (r : Report) (t : Time) (why : RejectReason) (level : Nat) : OutcomeRecord :=
  { time := t, vehicle := r.vehicle, route := r.route, approach := r.approach, level, body := .rejected why }

/-! ## Writes to the table (R20 to R27) -/

/-- The entry a radio frame creates (R21). -/
def createdByFrame (r : Report) (level : Nat) (w : Time × Time) (t : Time) : Entry :=
  { state := .tracking, vehicle := r.vehicle, route := r.route, approach := r.approach, level, lateness := r.lateness,
    seq := r.seq, distance := r.distance, speed := r.speed, stopFlag := r.stopFlag, dwell := r.dwell, lastUpdate := t,
    windowE := w.1, windowL := w.2, origin := .radio, confirmed := true, wanted := .none, note := none,
    lastAction := .none, grantedTotal := 0, created := t }

/-- The entry a HANDOFF creates (R27). -/
def createdByHandoff (m : HandoffMsg) (sender : Byte) (a : Approach) (level : Nat) (t : Time) : Entry :=
  let w := handoffWindow (min 6000 m.nominal) (min 1200 m.tolerance) t
  { state := .tracking, vehicle := m.vehicle, route := m.route, approach := a, level,
    lateness := clampLateness m.lateness, seq := 0, distance := 0, speed := 0, stopFlag := false, dwell := 0,
    lastUpdate := t, windowE := w.1, windowL := w.2, origin := .handoff sender, confirmed := false, wanted := .none,
    note := none, lastAction := .none, grantedTotal := 0, created := t }

/-- A live entry with the fields an update or a merge takes from a frame (R24, R25). -/
def withFrame (e : Entry) (r : Report) (level : Nat) (w : Time × Time) (t : Time) : Entry :=
  { e with route := r.route, approach := r.approach, level, lateness := r.lateness, seq := r.seq,
           distance := r.distance, speed := r.speed, stopFlag := r.stopFlag, dwell := r.dwell, lastUpdate := t,
           windowE := w.1, windowL := w.2, confirmed := true }

/-- An entry returned to TRACKING with its note absent (R24, R26). -/
def settled (e : Entry) : Entry := { e with state := .tracking, note := none }

/-- A live entry's own fields as an update to a level leaves them: a move settles it (R26), and so does level 0 while it
is PENDING (R24). -/
def beforeFrame (e : Entry) (moves : Bool) (level : Nat) : Entry :=
  if moves || (decide (e.state = .pending) && decide (level = 0)) then settled e else e

/-- A GRANTED entry's level reported to its channel, which takes its level from its riders (R24, R106). -/
def State.reportLevel (s : State) (e : Entry) : State :=
  match e.state with
  | .granted c =>
    match s.channels[c].live with
    | some l => s.setChannel c { s.channels[c] with live := some { l with level := s.ridersLevel l.riders } }
    | none => s
  | _ => s

/-- An update or merge of a live entry, with its move to another approach first, and intake's cause (R24 to R26). -/
def State.updateEntry (s : State) (i : EntryIx) (e : Entry) (r : Report) (level : Nat) (w : Time × Time) : State :=
  let moves := decide (r.approach ≠ e.approach)
  let left := if moves then s.shed i e else (s, false)
  let e' := withFrame (beforeFrame e moves level) r level w s.time
  (((left.1.setEntry i (some e')).reportLevel e').causeIf left.2).cause

/-- A creation for a radio frame, with eviction or refusal, and intake's cause (R21 to R23). -/
def State.createEntry (s : State) (r : Report) (level : Nat) (w : Time × Time) : State :=
  match s.makePlace level with
  | some (s', i) => (s'.setEntry i (some (createdByFrame r level w s.time))).cause
  | none => s.pushOutcome (rejectedRecord r s.time .full level)

/-! ## Radio frames (R9, R10, R13) -/

/-- The sequence test: a confirmed entry accepts a frame 1 to 7 steps ahead, an unconfirmed one accepts any (R13). -/
def seqAccepted (e : Entry) (seq : BitVec 4) : Bool :=
  !e.confirmed || (let d := (seq - e.seq).toNat; decide (1 ≤ d ∧ d ≤ 7))

/-- The kinds that close an entry (R9, step 3), with their close reasons (R31). -/
def closingReason : FrameKind → Option CloseReason
  | .checkOut => some .servedRadio
  | .cancel => some .cancelled
  | .checkIn => none
  | .update => none

/-- An accepted CHECK_IN or UPDATE from its route lookup on (R9, steps 5 to 7). -/
def State.applyReport (s : State) (r : Report) (cfg : ApproachConfig) (routes : RouteTable) (classes : Vector Int 7) :
    State :=
  let count := levelOf classes r.lateness
  match lookupRoute routes r.route r.approach with
  | .error why => s.pushOutcome (rejectedRecord r s.time why count)
  | .ok cap =>
    let w := radioWindow r cfg s.time
    match s.entryOf r.vehicle with
    | some (i, e) => s.updateEntry i e r (min count cap) w
    | none => s.createEntry r (min count cap) w

/-- A frame that has passed the source check (R9, steps 2 to 7). -/
def State.judgeReport (s : State) (r : Report) (cfg : ApproachConfig) (routes : RouteTable) (classes : Vector Int 7) :
    State :=
  match s.entryOf r.vehicle, closingReason r.kind with
  | some (i, e), some why => if seqAccepted e r.seq then s.closeEntry i e why else s
  | none, some _ => s
  | some (_, e), none => if seqAccepted e r.seq then s.applyReport r cfg routes classes else s
  | none, none => s.applyReport r cfg routes classes

/-- A radio item at its end: the source check, then the rest (R9, R10). -/
def State.applyRadio (s : State) (from_ : RxId) (r : Report) (cfg : ApproachConfig) (routes : RouteTable)
    (classes : Vector Int 7) : State :=
  if !cfg.enabled then s
  else if cfg.link ≠ from_ then s.occur .rxSource (.rx from_) (some r.vehicle)
  else s.judgeReport r cfg routes classes

/-- Intake IDLE again: the item in progress has ended (R8). -/
def State.itemEnds (s : State) : State := { s with intake := { s.intake with item := none } }

/-- The radio item in progress ends. -/
def State.radioFrameApplication (s : State) : State :=
  match s.intake.item with
  | some (.radio from_ r cfg routes classes) => s.itemEnds.applyRadio from_ r cfg routes classes
  | _ => s

/-- RADIO_FRAME_APPLICATION. Nothing happens unless a radio frame is in progress (assumption 3). -/
def execRadioFrameApplication (s : State) : Host.Outcome State Fault Refusal :=
  .next (s.whenReleased State.radioFrameApplication)

/-! ## Received handoffs (R149) -/

/-- The entry side that names a port (R149, step 1). -/
def entrySideOf : PortId → EntrySide
  | .linkA => .fromA
  | .linkB => .fromB

/-- The approach a handoff from a port is given: the lowest-numbered enabled one whose entry side names it (R149). -/
def State.handoffApproach (s : State) (p : PortId) : Option Approach :=
  allApproaches.find? fun a => s.approaches[a].enabled && decide (s.approaches[a].entrySide = entrySideOf p)

/-- A handoff's creation on an approach at a level, and its result (R149, step 4). -/
def State.createHandoff (s : State) (m : HandoffMsg) (sender : Byte) (a : Approach) (level : Nat) : State × AckResult :=
  match s.makePlace level with
  | some (s', i) => ((s'.setEntry i (some (createdByHandoff m sender a level s.time))).cause, .accepted)
  | none => (s, .full)

/-- The judgement of a HANDOFF from a port (R149, steps 1 to 4). -/
def State.judgeHandoff (s : State) (p : PortId) (m : HandoffMsg) (sender : Byte) : State × AckResult :=
  match s.handoffApproach p with
  | none => (s, .noApproach)
  | some a =>
    match lookupRoute s.routes m.route a with
    | .error _ => (s, .route)
    | .ok cap =>
      match s.entryOf m.vehicle with
      | some _ => (s, .duplicate)
      | none => s.createHandoff m sender a (min (levelOf s.classes (clampLateness m.lateness)) cap)

/-- The ACK enqueued on a port, or dropped: with four messages queued, with the role OFF, or after a break (R149). -/
def State.enqueueAck (s : State) (p : PortId) (id : Byte) (result : AckResult) (broken : Bool) : State :=
  let x := s.link p
  if broken || decide (x.settings.role = .off) || decide (outgoingCapacity ≤ x.outgoing.length) then s
  else s.setLink p { x with outgoing := x.outgoing ++ [.ack id result] }

/-- The handoff item in progress ends: its judgement, then its ACK. -/
def State.handoffJudgement (s : State) : State :=
  match s.intake.item with
  | some (.handoff p m sender broken) =>
    let j := s.itemEnds.judgeHandoff p m sender
    j.1.enqueueAck p m.id j.2 broken
  | _ => s

/-- HANDOFF_JUDGEMENT. Nothing happens unless a handoff is in progress (assumption 3). -/
def execHandoffJudgement (s : State) : Host.Outcome State Fault Refusal :=
  .next (s.whenReleased State.handoffJudgement)

/-! ## Loop items (R17) -/

/-- The entry of a list in index order with the smallest A_e; among equals the lowest index (R17). -/
def earliestWindow : List (EntryIx × Entry) → Option (EntryIx × Entry)
  | [] => none
  | x :: rest =>
    match earliestWindow rest with
    | none => some x
    | some y => if isLater x.2.windowE y.2.windowE then some y else some x

/-- The loop item in progress ends: the earliest entry of its approach closes with SERVED_LOOP (R17). -/
def State.loopItem (s : State) : State :=
  match s.intake.item with
  | some (.loop a) =>
    let s := s.itemEnds
    match earliestWindow (s.liveEntries.filter fun x => decide (x.2.approach = a)) with
    | some (i, e) => s.closeEntry i e .servedLoop
    | none => s
  | _ => s

/-- LOOP_ITEM. Nothing happens unless a loop item is in progress (assumption 3). -/
def execLoopItem (s : State) : Host.Outcome State Fault Refusal := .next (s.whenReleased State.loopItem)

/-! ## Stale and expiry checks (R34 to R37) -/

/-- A confirmed entry's stale expiry has been reached (R34). -/
def State.isStale (s : State) (e : Entry) : Bool :=
  e.confirmed && decide ((s.policy.tStale : Int) ≤ timeDiff s.time e.lastUpdate)

/-- An unconfirmed entry's A_l is passed (R35). -/
def State.isExpired (s : State) (e : Entry) : Bool := !e.confirmed && isLater s.time e.windowL

/-- An entry falls due for a stale check (R34). -/
def State.staleExpiry (s : State) (i : EntryIx) : State :=
  match s.table[i] with
  | some e => if s.isStale e then { s with intake := { s.intake with staleDue := put s.intake.staleDue i true } } else s
  | none => s

/-- STALE_EXPIRY. Nothing happens unless the entry's stale expiry is reached (assumption 3). -/
def execStaleExpiry (i : EntryIx) (s : State) : Host.Outcome State Fault Refusal :=
  .next (s.whenReleased (·.staleExpiry i))

/-- An entry falls due for an expiry check (R35). -/
def State.unconfirmedExpiry (s : State) (i : EntryIx) : State :=
  match s.table[i] with
  | some e =>
    if s.isExpired e then { s with intake := { s.intake with expiryDue := put s.intake.expiryDue i true } } else s
  | none => s

/-- UNCONFIRMED_EXPIRY. Nothing happens unless the entry's A_l is passed (assumption 3). -/
def execUnconfirmedExpiry (i : EntryIx) (s : State) : Host.Outcome State Fault Refusal :=
  .next (s.whenReleased (·.unconfirmedExpiry i))

/-- An entry closed if it is live and meets a test (R37). -/
def State.closeIf (s : State) (i : EntryIx) (test : Entry → Bool) (r : CloseReason) : State :=
  match s.table[i] with
  | some e => if test e then s.closeEntry i e r else s
  | none => s

/-- The next waiting check, if it is a stale check and intake is IDLE (R34, R37). -/
def State.staleCheck (s : State) : State :=
  match s.intake.item, s.nextCheck with
  | none, some i =>
    if s.intake.staleDue[i] then
      { s with intake := { s.intake with staleDue := put s.intake.staleDue i false } }.closeIf i s.isStale .stale
    else s
  | _, _ => s

/-- STALE_CHECK. Nothing happens unless intake is IDLE and the next waiting check is a stale check (assumption 3). -/
def execStaleCheck (s : State) : Host.Outcome State Fault Refusal := .next (s.whenReleased State.staleCheck)

/-- The next waiting check, if it is an expiry check and intake is IDLE (R35, R37). -/
def State.expiryCheck (s : State) : State :=
  match s.intake.item, s.nextCheck with
  | none, some i =>
    if s.intake.expiryDue[i] then
      { s with intake := { s.intake with expiryDue := put s.intake.expiryDue i false } }.closeIf i s.isExpired
        .unconfirmedExpired
    else s
  | _, _ => s

/-- EXPIRY_CHECK. Nothing happens unless intake is IDLE and the next waiting check is an expiry check
(assumption 3). -/
def execExpiryCheck (s : State) : Host.Outcome State Fault Refusal := .next (s.whenReleased State.expiryCheck)

end Sys2Proof.Machine
end

