-- ==== Sys2Proof/Machine/Links.lean ====
section
/-! DEFINITION. The approach receive links (spec/01, R1 to R6): CHARACTER_RECEIVED, RX_BREAK, INTER_CHARACTER_GAP and
UNDECIDED_CHARACTER_LINE_HIGH. -/

namespace Sys2Proof.Machine

/-- The number of bytes a request frame stores after its start of frame (R3). -/
def requestLength : Nat := 12

/-- A link whose assembler has returned to HUNT (R3). -/
def hunting (x : RxLink) : RxLink := { x with assembler := .hunt }

/-- A framing error reported to the assembler (R2, R3): the partial frame is discarded and the fault occurs, with the
link as its source. -/
def State.framingError (s : State) (r : RxId) : State :=
  (s.setRx r (hunting (s.rx r))).occur (framingFault r) (.rx r) none

/-- A good frame offered to the holding buffer (R5). -/
def State.offerFrame (s : State) (r : RxId) (f : RequestFrame) : State :=
  match (s.rx r).holding with
  | none => s.setRx r { s.rx r with holding := some f }
  | some _ => s.occur (overrunFault r) (.rx r) none

/-- The frame judged when its check byte is stored (R3, R4). -/
def State.judgeFrame (s : State) (r : RxId) (bytes : List Byte) : State :=
  let s := s.setRx r (hunting (s.rx r))
  match requestOfBytes bytes with
  | some f => s.offerFrame r f
  | none => s.occur (checkFault r) (.rx r) none

/-- A good character at the assembler (R3). -/
def State.goodCharacter (s : State) (r : RxId) (b : Byte) : State :=
  let x := s.rx r
  match x.assembler with
  | .hunt => if b = startOfFrame then s.setRx r { x with assembler := .collect [] } else s
  | .collect stored =>
    let bytes := stored ++ [b]
    if bytes.length < requestLength then s.setRx r { x with assembler := .collect bytes } else s.judgeFrame r bytes

/-- A character with its stop bit judged by the receiver (R2). The line has been high since any break, so the receiver
is idle again. -/
def State.character (s : State) (r : RxId) (data : Byte) (stop : Bool) : State :=
  let s := s.setRx r { s.rx r with line := .idle }
  if stop then s.goodCharacter r data
  else if data ≠ 0 then s.framingError r
  else s.setRx r { s.rx r with line := .undecided }

/-- A character at a link: none while the link is disabled (R1) or holds a character undecided (R2). -/
def State.receiveCharacter (s : State) (r : RxId) (data : Byte) (stop : Bool) : State :=
  let x := s.rx r
  if !x.enabled || decide (x.line = .undecided) then s else s.character r data stop

/-- CHARACTER_RECEIVED. -/
def execCharacterReceived (r : RxId) (data : Byte) (stop : Bool) (s : State) : Host.Outcome State Fault Refusal :=
  .next (s.whenReleased (·.receiveCharacter r data stop))

/-- A recognised break (R2, R3): it follows an undecided character; the partial frame is discarded without a fault. -/
def State.receiveBreak (s : State) (r : RxId) : State :=
  let x := s.rx r
  if x.enabled && decide (x.line = .undecided) then s.setRx r (hunting { x with line := .inBreak }) else s

/-- RX_BREAK. Nothing happens unless the link holds an undecided character (assumption 3). -/
def execRxBreak (r : RxId) (s : State) : Host.Outcome State Fault Refusal :=
  .next (s.whenReleased (·.receiveBreak r))

/-- The assembler has a frame open (R3). -/
def Assembler.isCollecting : Assembler → Bool
  | .hunt => false
  | .collect _ => true

/-- A gap of more than two character times (R3): it is measured only in COLLECT, while the line is high between
characters. -/
def State.receiveGap (s : State) (r : RxId) : State :=
  let x := s.rx r
  if x.enabled && decide (x.line ≠ .undecided) && x.assembler.isCollecting then s.framingError r else s

/-- INTER_CHARACTER_GAP. Nothing happens unless a frame is open and no character is undecided (assumption 3). -/
def execInterCharacterGap (r : RxId) (s : State) : Host.Outcome State Fault Refusal :=
  .next (s.whenReleased (·.receiveGap r))

/-- The line returns high before a break is recognised: the undecided character is a framing error (R2). -/
def State.undecidedHigh (s : State) (r : RxId) : State :=
  let x := s.rx r
  if x.enabled && decide (x.line = .undecided) then (s.setRx r { x with line := .idle }).framingError r else s

/-- UNDECIDED_CHARACTER_LINE_HIGH. Nothing happens unless the link holds an undecided character (assumption 3). -/
def execUndecidedCharacterLineHigh (r : RxId) (s : State) : Host.Outcome State Fault Refusal :=
  .next (s.whenReleased (·.undecidedHigh r))

end Sys2Proof.Machine
end

