-- ==== Sys2Proof/Machine/Loops.lean ====
section
/-! DEFINITION. The check-out loops (spec/01, R15 and R16): LOOP_ACTIVATION, LOOP_CLEAR and CHECKOUT_STUCK. The samples
themselves are taken by TIME_BASE_DECISECOND (Machine/TimeBase.lean). -/

namespace Sys2Proof.Machine

/-- The state with one loop replaced. -/
def State.setLoop (s : State) (a : Approach) (l : LoopState) : State := { s with loops := put s.loops a l }

/-- A loop that becomes ACTIVE on the second of two active samples, taken at t: the first was one decisecond earlier
(R15). -/
def activated (l : LoopState) (t : Time) : LoopState :=
  { l with active := true, activation := t - 1, stuckReported := false, pending := true, changeAt := none }

/-- A loop due to become ACTIVE does so (R15). -/
def State.loopActivation (s : State) (a : Approach) : State :=
  let l := s.loops[a]
  match l.changeAt with
  | some t => if l.active then s else s.setLoop a (activated l t)
  | none => s

/-- LOOP_ACTIVATION. Nothing happens unless two active samples have followed one another while ARMED (assumption 3). -/
def execLoopActivation (a : Approach) (s : State) : Host.Outcome State Fault Refusal :=
  .next (s.whenReleased (·.loopActivation a))

/-- A loop due to return to ARMED does so (R15). -/
def State.loopClear (s : State) (a : Approach) : State :=
  let l := s.loops[a]
  match l.changeAt with
  | some _ => if l.active then s.setLoop a { l with active := false, changeAt := none } else s
  | none => s

/-- LOOP_CLEAR. Nothing happens unless two inactive samples have followed one another while ACTIVE (assumption 3). -/
def execLoopClear (a : Approach) (s : State) : Host.Outcome State Fault Refusal :=
  .next (s.whenReleased (·.loopClear a))

/-- An activation is stuck and not yet reported: it has lasted longer than the stuck limit in force since the last sample
(R16). -/
def State.isStuck (s : State) (l : LoopState) : Bool :=
  l.active && !l.stuckReported && decide ((s.stuckLimit : Int) < timeDiff s.time l.activation)

/-- A stuck loop reported: the flag is set and CHECKOUT_STUCK occurs with the approach as its source (R16). -/
def State.checkoutStuck (s : State) (a : Approach) : State :=
  let l := s.loops[a]
  if s.isStuck l then (s.setLoop a { l with stuckReported := true }).occur .checkoutStuck (.approach a) none else s

/-- CHECKOUT_STUCK. Nothing happens unless the loop's activation is stuck and unreported (assumption 3). -/
def execCheckoutStuck (a : Approach) (s : State) : Host.Outcome State Fault Refusal :=
  .next (s.whenReleased (·.checkoutStuck a))

end Sys2Proof.Machine
end

