-- ==== Sys2Proof/Machine/Override.lean ====
section
/-! DEFINITION. The override monitor (spec/07): OVR_RECOGNISED_CHANGE, OVERRIDE_HOLD, SUSPEND_LIMIT_EXPIRY and
RESUME_VISIT. -/

namespace Sys2Proof.Machine

/-- A channel after the suspension: ARMED and RUNNING become SUSPENDED with their state as the prior state (R126). -/
def suspended (c : Channel) : Channel :=
  match c.live with
  | some l =>
    match l.run with
    | .armed => { c with live := some { l with run := .suspended .armed } }
    | .running => { c with live := some { l with run := .suspended .running } }
    | .suspended _ => c
  | none => c

/-- Override becomes ACTIVE (R126, R131): a pass is stopped, channels are suspended, the suspend-limit timer starts and
OVR is raised. -/
def State.activate (s : State) : State :=
  let s := (s.settleCounts fun _ => true).stopPass
  let s := { s with
    channels := tabulate fun c => suspended s.channels[c]
    ovr := { s.ovr with state := .active, suspendExpiry := some (timePlus s.time s.pins.suspendLimit) } }
  s.raise .ovr

/-- Override is asked for, by the input or by the hold (R125). -/
def OverrideMonitor.asked (o : OverrideMonitor) : Bool := o.recognised || o.hold

/-- The override state formed anew after the recognised level or the hold has changed (R125). -/
def State.formOverride (s : State) : State :=
  match s.ovr.state with
  | .inactive => if s.ovr.asked then s.activate else s
  | .active =>
    if s.ovr.asked then s
    else { s with ovr := { s.ovr with state := .resuming 0, suspendExpiry := none } }
  | .resuming _ => if s.ovr.asked then s.activate else s

/-- The recognised level changes when the run count has reached the filter time (R122). -/
def State.changeOverrideLevel (s : State) : State :=
  match s.ovr.changeAt with
  | some _ =>
    { s with ovr := { s.ovr with
        recognised := !s.ovr.recognised, runCount := 0, changeAt := none } }.formOverride
  | none => s

/-- OVR_RECOGNISED_CHANGE. Nothing happens while the run count has not reached the filter time (assumption 3). -/
def execOvrRecognisedChange (s : State) : Host.Outcome State Fault Refusal :=
  .next (s.whenReleased State.changeOverrideLevel)

/-- The code of the override state (R186). -/
def overrideCode : OverrideState → Byte
  | .inactive => 0
  | .active => 1
  | .resuming _ => 2

/-- OVERRIDE_HOLD judged (R124): SET and CLEAR write the hold; one that changes it forms the override state; the
response carries the state that stands after the command. -/
def State.judgeHold (s : State) (arg : Byte) : Judged :=
  match twoValued arg false true with
  | none => refuse s .badArg
  | some h =>
    let s := if s.ovr.hold = h then s else { s with ovr := { s.ovr with hold := h } }.formOverride
    okWith s [overrideCode s.ovr.state]

/-- OVERRIDE_HOLD with argument SET, or with an argument that names neither. -/
def execOverrideHoldSet (arg : Byte) (s : State) : Host.Outcome State Fault Refusal :=
  .next (s.take codeOverrideHold (·.judgeHold arg))

/-- OVERRIDE_HOLD with argument CLEAR. -/
def execOverrideHoldClear (s : State) : Host.Outcome State Fault Refusal :=
  .next (s.take codeOverrideHold (·.judgeHold 0))

/-- The channel is SUSPENDED (R103). -/
def isSuspended (l : LiveChannel) : Bool :=
  match l.run with
  | .suspended _ => true
  | _ => false

/-- The suspend-limit timer's expiry while ACTIVE ends every SUSPENDED channel (R127). -/
def State.expireSuspension (s : State) : State :=
  match s.ovr.state, s.ovr.suspendExpiry with
  | .active, some t =>
    if s.reached t then
      let s := s.endWhere (fun _ l => isSuspended l) (fun _ => .overrideLong)
      { s with ovr := { s.ovr with suspendExpiry := none } }
    else s
  | _, _ => s

/-- SUSPEND_LIMIT_EXPIRY. Nothing happens unless the timer runs and is reached (assumption 3). -/
def execSuspendLimitExpiry (s : State) : Host.Outcome State Fault Refusal :=
  .next (s.whenReleased State.expireSuspension)

/-- The slot is current in GREEN (R129). -/
def State.currentGreen (s : State) (k : SlotIx) : Bool :=
  match s.tracker with
  | .inStep r => decide (r.cur = k ∧ r.period = .green)
  | _ => false

/-- The tracker is IN_STEP in GREEN, whatever the slot (R130). -/
def State.anyGreen (s : State) : Bool :=
  match s.tracker with
  | .inStep r => decide (r.period = .green)
  | _ => false

/-- The remaining time an EXTEND resumes with: at most what its slot's limit leaves (R129). -/
def State.resumedRemaining (s : State) (k : SlotIx) (remaining : Nat) : Nat :=
  match s.plans.active with
  | some p => min remaining ((slotAt p k).e - (s.account.xcur - remaining : Int)).toNat
  | none => remaining

/-- A SUSPENDED EXTEND channel at its visit (R129). -/
def State.resumeExtend (s : State) (c : ChannelIx) (l : LiveChannel) (remaining : Nat) (runFrom : Time) : State :=
  if s.currentGreen l.slot then
    s.setChannel c { s.channels[c] with live := some { l with
      action := .extend (s.resumedRemaining l.slot remaining) runFrom
      run := if s.reached runFrom then .running else .armed } }
  else s.endChannel c .overridden

/-- Some EXTEND channel is non-IDLE, resumed or still SUSPENDED (R130). -/
def State.someExtend (s : State) : Bool := (liveChannels s.channels).any fun c => isExtend c.2

/-- A SUSPENDED ADVANCE channel at its visit (R130). -/
def State.resumeAdvance (s : State) (c : ChannelIx) (l : LiveChannel) (prior : PriorState) (deadline : Time) : State :=
  if s.reached deadline then s.endChannel c .overridden
  else
    let run : RunState :=
      match prior with
      | .running => .running
      | .armed => if s.anyGreen && s.someExtend then .armed else .running
    s.setChannel c { s.channels[c] with live := some { l with run } }

/-- A visit judges a SUSPENDED channel and passes over any other (R128). -/
def State.visitChannel (s : State) (c : ChannelIx) : State :=
  match s.channels[c].live with
  | some l =>
    match l.run, l.action with
    | .suspended _, .extend remaining runFrom => s.resumeExtend c l remaining runFrom
    | .suspended prior, .advance deadline => s.resumeAdvance c l prior deadline
    | _, _ => s
  | none => s

/-- The resume check is complete (R132). -/
def State.finishResume (s : State) : State :=
  ({ s with ovr := { s.ovr with state := .inactive } }.cause).raise .ovr

/-- The resume check's next visit; the one to channel 3 completes it (R128, R132). -/
def State.resumeVisit (s : State) : State :=
  match s.ovr.state with
  | .resuming c =>
    let s := s.visitChannel c
    if c = 3 then s.finishResume else { s with ovr := { s.ovr with state := .resuming (c + 1) } }
  | _ => s

/-- RESUME_VISIT. Nothing happens while no resume check is in progress (assumption 3). -/
def execResumeVisit (s : State) : Host.Outcome State Fault Refusal := .next (s.whenReleased State.resumeVisit)

end Sys2Proof.Machine
end

