-- ==== Sys2Proof/Machine/Records.lean ====
section
/-! DEFINITION. The byte layouts of the outcome record (R185) and of the read records (R186), fields in order. -/

namespace Sys2Proof.Machine

/-! ## Codes -/

/-- A flag as a byte. -/
def boolByte (b : Bool) : Byte := if b then 1 else 0

/-- An optional time; absent is sent as 0 (R180). -/
def timeOr0 (t : Option Time) : List Byte := timeBytes (t.getD 0)

/-- The code of an action mark: NONE, EXTEND, ADVANCE (R185, R186). -/
def markCode : ActionMark → Byte
  | .none => 0
  | .extend => 1
  | .advance => 2

/-- The code of a denial: 1 to 11 in the order of the table of R87 (R186). -/
def denialCode : Denial → Byte
  | .noneNeeded => 1
  | .far => 2
  | .noPhase => 3
  | .nextCycle => 4
  | .extLimit => 5
  | .advShort => 6
  | .budget => 7
  | .capacity => 8
  | .conflict => 9
  | .noChannel => 10
  | .ridersFull => 11

/-- The code of an end reason: 12 to 22 in the order of the table of R113 (R186). -/
def endCode : EndReason → Byte
  | .complete => 12
  | .greenEnded => 13
  | .missed => 14
  | .released => 15
  | .cancelled => 16
  | .preempted => 17
  | .unsynced => 18
  | .planChange => 19
  | .contained => 20
  | .overridden => 21
  | .overrideLong => 22

/-- A note byte; 0 means absent (R186). -/
def noteCode : Option Note → Byte
  | none => 0
  | some (.denied d) => denialCode d
  | some (.ended r) => endCode r

/-- The origin code and origin id of an entry (R30, R185). -/
def originBytes : Origin → List Byte
  | .radio => [0, 0]
  | .handoff id => [1, id]

/-- The number of a phase, 1 to 6. -/
def phaseByte (p : Phase) : Byte := natByte ((phaseIndex p).val + 1)

/-- The two bytes of a signed value. -/
def signedBytes (i : Int) : List Byte := halfBytes (BitVec.ofInt 16 i)

/-! ## Outcome record -/

/-- The code of a close reason (R185). -/
def closeCode : CloseReason → Byte
  | .servedRadio => 0
  | .servedLoop => 1
  | .cancelled => 2
  | .stale => 3
  | .unconfirmedExpired => 4
  | .evicted => 5
  | .flushed => 6

/-- The code of a reject reason (R185). -/
def rejectCode : RejectReason → Byte
  | .route => 0
  | .approach => 1
  | .full => 2

/-- The codes of a handoff result and its sub-reason (R185). -/
def handoffCodes : HandoffResult → Byte × Byte
  | .acked r => (ackCode r, 0)
  | .unconfirmed => (5, 0)
  | .notSent .noExit => (6, 1)
  | .notSent .linkNotUp => (6, 2)
  | .notSent .peerContained => (6, 3)
  | .notSent .queueFull => (6, 4)

/-- The kind, reason and sub-reason bytes of a record (R185). -/
def outcomeCodes : OutcomeBody → Byte × Byte × Byte
  | .closed r _ _ _ => (0, closeCode r, 0)
  | .rejected r => (1, rejectCode r, 0)
  | .handoff r => (2, (handoffCodes r).1, (handoffCodes r).2)

/-- The bytes at offsets 13 to 17 of a record; 0 in REJECTED and HANDOFF records (R185). -/
def outcomeTail : OutcomeBody → List Byte
  | .closed _ act total origin => markCode act :: (natBytes total ++ originBytes origin)
  | _ => [0, 0, 0, 0, 0]

/-- The 18 bytes of an outcome record (R185). -/
def outcomeBytes (r : OutcomeRecord) : List Byte :=
  let c := outcomeCodes r.body
  c.1 :: (timeBytes r.time ++ halfBytes r.vehicle ++ halfBytes (r.route.setWidth 16)
    ++ [natByte r.approach.val, c.2.1, c.2.2, natByte r.level] ++ outcomeTail r.body)

/-! ## Entry record -/

/-- The code of an entry's state (R186). -/
def entryStateCode : EntryState → Byte
  | .tracking => 1
  | .pending => 2
  | .granted _ => 3

/-- The channel index of a GRANTED entry. -/
def channelOf : EntryState → Option ChannelIx
  | .granted c => some c
  | _ => none

/-- The origin is HANDOFF. -/
def isHandoff : Origin → Bool
  | .handoff _ => true
  | .radio => false

/-- The origin id, 0 for RADIO. -/
def originId : Origin → Byte
  | .handoff id => id
  | .radio => 0

/-- The 41 bytes of an entry record (R186); a FREE entry reports every field but its index 0 (R41, assumption 9). -/
def entryRecord (i : EntryIx) : Option Entry → List Byte
  | none => natByte i.val :: List.replicate 40 0
  | some e =>
    let ch := channelOf e.state
    [natByte i.val, entryStateCode e.state] ++ halfBytes e.vehicle ++ halfBytes (e.route.setWidth 16)
      ++ [natByte e.approach.val, natByte e.level] ++ signedBytes e.lateness ++ [e.seq.setWidth 8]
      ++ natBytes e.distance ++ natBytes e.speed
      ++ [flagByte [e.confirmed, isHandoff e.origin, e.stopFlag, e.note.isSome, ch.isSome]]
      ++ natBytes e.dwell ++ timeBytes e.lastUpdate ++ timeBytes e.windowE ++ timeBytes e.windowL
      ++ [originId e.origin, markCode e.wanted, noteCode e.note, natByte (ch.elim 0 (·.val)), markCode e.lastAction]
      ++ natBytes e.grantedTotal ++ timeBytes e.created

/-! ## Channel record -/

/-- The state code of a non-IDLE channel (R186). -/
def runCode : RunState → Byte
  | .armed => 1
  | .running => 2
  | .suspended _ => 3

/-- The prior state's code, 0 when absent (R186). -/
def priorCode : RunState → Byte
  | .suspended .armed => 1
  | .suspended .running => 2
  | _ => 0

/-- A list of fixed length: cut, and filled up with a value (R186: unused places are 0). -/
def padTo {α : Type} (n : Nat) (fill : α) (xs : List α) : List α := (xs.take n) ++ List.replicate (n - xs.length) fill

/-- The remaining time of a channel; 0 for an ADVANCE. -/
def remainingOf : ChannelAction → Nat
  | .extend remaining _ => remaining
  | .advance _ => 0

/-- The run-from time or the deadline, as the action has it. -/
def actionTime : ChannelAction → Time
  | .extend _ runFrom => runFrom
  | .advance deadline => deadline

/-- The pair places of a channel record. -/
def pairBytes (q : SlotIx × Nat) : List Byte := natByte q.1.val :: natBytes q.2

/-- The live fields of a channel record, between its flags byte and its level (R186). -/
def liveBytes (l : LiveChannel) : List Byte :=
  [if isExtend l then 1 else 2, natByte l.slot.val, phaseByte l.phase, boolByte (decide (l.cause = .forced))]
    ++ natBytes l.amount ++ natBytes (remainingOf l.action) ++ timeBytes (actionTime l.action)
    ++ (natByte l.riders.length :: padTo 4 0 (l.riders.map fun i => natByte i.val))
    ++ (natByte l.charges.length :: (padTo 5 [0, 0, 0] (l.charges.map pairBytes)).flatten)
    ++ [natByte l.level] ++ timeBytes l.grantTime ++ [priorCode l.run]

/-- The 48 bytes of a channel record (R121, R186). -/
def channelRecord (c : ChannelIx) (ch : Channel) (calls : Byte) : List Byte :=
  let ending := (ch.lastEnd.elim 0 fun e => endCode e.1) :: timeOr0 (ch.lastEnd.map (·.2)) ++ [calls]
  match ch.live with
  | none => [natByte c.val, 0, flagByte [false, ch.lastEnd.isSome]] ++ List.replicate 39 0 ++ ending
  | some l =>
    [natByte c.val, runCode l.run, flagByte [isSuspended l, ch.lastEnd.isSome]] ++ liveBytes l ++ ending

/-! ## Phase record -/

/-- The tracker state's code (R186). -/
def trackerCode : Tracker → Byte
  | .noPlan => 0
  | .unsynced => 1
  | .inStep _ => 2

/-- The tracker's record, if IN_STEP. -/
def stepOf : Tracker → Option StepRecord
  | .inStep r => some r
  | _ => none

/-- The drop time of a period (R48). -/
def dropOf : Period → Option Time
  | .green => none
  | .clearance t => some t

/-- The C and slot count of a plan, 0 when absent (R62, R186). -/
def planBytes : Option Plan → List Byte
  | none => [0, 0, 0]
  | some p => natBytes p.cycle ++ [natByte (slotCount p)]

/-- The charges reported: 0 beyond the active plan's slot count (R186). -/
def reportedCharge (p : Option Plan) (a : Account) (k : SlotIx) : Nat :=
  match p with
  | some p => if k.val < slotCount p then a.charge[k] else 0
  | none => 0

/-- A STAGE_PLAN validation is in progress (R62). -/
def CommandState.isStaging : CommandState → Bool
  | .stagePlan _ => true
  | _ => false

/-- The 61 bytes of the phase record (R62, R101, R186). -/
def State.phaseRecord (s : State) : List Byte :=
  let step := stepOf s.tracker
  let drop := step.bind fun r => dropOf r.period
  let phase : Byte :=
    match s.plans.active, step with
    | some p, some r => phaseByte (slotAt p r.cur).phase
    | _, _ => 0
  [trackerCode s.tracker,
    flagByte [step.isSome, step.isSome, drop.isSome, step.isSome, s.plans.active.isSome, s.plans.staged.isSome,
      s.port.command.isStaging],
    natByte (step.elim 0 (·.cur.val)), phase, boolByte drop.isSome]
    ++ timeOr0 (step.map (·.onset)) ++ timeOr0 drop ++ timeOr0 (step.map (·.lastBoundary))
    ++ [flagByte (allPhases.map fun p => s.inputs[phaseIndex p].recognised)]
    ++ planBytes s.plans.active ++ planBytes s.plans.staged
    ++ [flagByte [s.engine.pass.isSome, s.engine.again]]
    ++ natBytes s.account.budgetInForce ++ natBytes s.policy.budget ++ natBytes s.account.budgetLeft
    ++ (allSlots.map fun k => natBytes (reportedCharge s.plans.active s.account k)).flatten
    ++ natBytes s.account.xcur
    ++ (allPhases.map fun p => natBytes s.account.debt[phaseIndex p]).flatten
    ++ natBytes s.policy.debtCap ++ natBytes s.policy.repay

/-! ## Link records -/

/-- The code of a line rate, as in SET_LINK (R184). -/
def rateCode : LineRate → Byte
  | .r9600 => 0
  | .r19200 => 1
  | .r38400 => 2
  | .r115200 => 3

/-- The code of a role (R186). -/
def roleCode : Role → Byte
  | .off => 0
  | .poller => 1
  | .responder => 2

/-- The code of a link state (R186). -/
def linkStateCode : LinkState → Byte
  | .off => 0
  | .syncing => 1
  | .up => 2
  | .down => 3
  | .roleFault => 4

/-- The link byte of a receive link (R181). -/
def rxByte : RxId → Byte
  | .rx0 => 0
  | .rx1 => 1

/-- The link byte of a corridor port (R181). -/
def portByte : PortId → Byte
  | .linkA => 2
  | .linkB => 3

/-- The kind and message id of an outgoing message (R186). -/
def outgoingPair : OutMsg → List Byte
  | .handoff m _ _ _ => [1, m.id]
  | .ack id _ => [2, id]

/-- The message id and deadline of an awaiting item (R186). -/
def awaitingPair (i : AwaitItem) : List Byte := i.id :: timeBytes i.deadline

/-- The 52 bytes of a corridor port's link record (R153, R186). -/
def portRecord (p : PortId) (x : CorridorPort) : List Byte :=
  [portByte p, roleCode x.settings.role, linkStateCode x.state, rateCode x.settings.rate]
    ++ natBytes x.settings.pollInterval ++ natBytes x.settings.replyWindow ++ [natByte x.settings.missLimit]
    ++ natBytes x.settings.silence ++ natBytes x.settings.ackTimeout ++ natBytes x.settings.nominal
    ++ natBytes x.settings.tolerance
    ++ [flagByte [x.peerContained, decide (x.line = .sendingBreak)], x.lastPeer, natByte x.missCount, x.nextId]
    ++ (natByte x.outgoing.length :: (padTo 4 [0, 0] (x.outgoing.map outgoingPair)).flatten)
    ++ (natByte x.awaiting.length :: (padTo 4 [0, 0, 0, 0, 0] (x.awaiting.map awaitingPair)).flatten)
    ++ [natByte x.received.length]

/-- The 4 bytes of a receive link's link record (R153, R186). -/
def rxRecord (r : RxId) (x : RxLink) : List Byte :=
  [rxByte r, boolByte x.enabled, rateCode x.rate, boolByte x.holding.isSome]

/-! ## Status record -/

/-- The code of the running command, 0 in IDLE (R175, R186). -/
def runningCode : CommandState → Byte
  | .idle => 0
  | .stagePlan _ => codeStagePlan
  | .flushTable _ _ => codeFlushTable
  | .resetCore _ => codeResetCore

/-- The code of the containment state (R186). -/
def containCode : ContainState → Byte
  | .normal => 0
  | .settling _ _ => 1
  | .held _ => 2

/-- The index of a kind, 31 standing for NONE (spec/09, Fault kinds; R186). -/
def kindByte : Option FaultKind → Byte
  | none => 31
  | some k => natByte (faultIndex k).val

/-- The 15 bytes of the status record (R175, R186). -/
def State.statusRecord (s : State) : List Byte :=
  timeBytes s.time
    ++ [boolByte s.port.command.isLong, runningCode s.port.command,
        flagByte [s.port.longSlot.isSome, s.port.collision], s.eventBits, s.port.enables.setWidth 8,
        natByte s.port.outcomes.length, containCode s.containment.state, trackerCode s.tracker,
        overrideCode s.ovr.state,
        flagByte [s.ovr.recognised, s.ovr.hold, s.ovr.suspendExpiry.isSome], kindByte s.faults.pointer]

/-! ## Fault record -/

/-- The code of a fault source (R186). -/
def sourceCode : FaultSource → Byte
  | .none => 0
  | .rx .rx0 => 1
  | .rx .rx1 => 2
  | .link .linkA => 3
  | .link .linkB => 4
  | .approach a => natByte (8 + a.val)

/-- The reason of a containment state, if any (spec/09, Containment states). -/
def reasonOf : ContainState → Option ContainReason
  | .normal => none
  | .settling r _ => some r
  | .held r => some r

/-- The settle timer's expiry, present in SETTLING. -/
def settleExpiryOf : ContainState → Option Time
  | .settling _ t => some t
  | _ => none

/-- The reason and reason kind bytes: absent 0, FAULT 1, SOFTWARE 2; the kind is 31 when it names none (R186). -/
def reasonBytes : Option ContainReason → List Byte
  | none => [0, 31]
  | some (.fault k) => [1, kindByte (some k)]
  | some .software => [2, 31]

/-- The 29 bytes of the fault record (R166, R186). -/
def State.faultRecordBytes (s : State) : List Byte :=
  let f := s.faults
  let c := s.containment
  mapBytes f.status ++ mapBytes f.mask ++ mapBytes f.severity
    ++ [kindByte f.pointer,
        flagByte [f.record.valid, f.record.vehicle.isSome, (settleExpiryOf c.state).isSome],
        natByte (faultIndex f.record.kind).val]
    ++ timeBytes f.record.time ++ [sourceCode f.record.source] ++ halfBytes (f.record.vehicle.getD 0)
    ++ [containCode c.state] ++ reasonBytes (reasonOf c.state) ++ timeOr0 (settleExpiryOf c.state)
    ++ [boolByte c.enable] ++ natBytes c.settleTimeout

end Sys2Proof.Machine
end

