-- ==== Sys2Proof/Machine/Port.lean ====
section
/-! DEFINITION. The controller port's own work (spec/10): TRANSACTION_START, BAD_COMMAND, NULL, the read commands,
FLUSH_TABLE and FLUSH_VISIT. -/

namespace Sys2Proof.Machine

/-! ## Transactions (R168 to R170) -/

/-- The response of a transaction that begins in the start-up interval (R170). -/
def notReadyResponse : Response := { echo := codeNull, result := .notReady, data := [] }

/-- The response where both slots are empty: PENDING while a long command runs, else the empty response (R169). -/
def waitingResponse (c : CommandState) : Response :=
  { echo := runningCode c, result := if c.isLong then .pending else .ok, data := [] }

/-- A transaction opened with a response to return. -/
def ControllerPort.opened (p : ControllerPort) (response : Response) (discard : Bool) : ControllerPort :=
  { p with transaction := some { response, discard } }

/-- The response chosen at the falling edge of SCS, in the order of R169; the slot it comes from becomes empty. -/
def ControllerPort.chooseResponse (p : ControllerPort) : ControllerPort :=
  match p.shortSlot, p.longSlot with
  | some r, _ => { p with shortSlot := none }.opened r false
  | none, some r => { p with longSlot := none }.opened r false
  | none, none => p.opened (waitingResponse p.command) false

/-- The falling edge of SCS (R169, R170). -/
def State.startTransaction (s : State) : State :=
  match s.port.transaction with
  | some _ => s
  | none =>
    { s with port := if s.startingUp then s.port.opened notReadyResponse true else s.port.chooseResponse }

/-- TRANSACTION_START. Nothing happens while a transaction is open: SCS is low already (assumption 3). -/
def execTransactionStart (s : State) : Host.Outcome State Fault Refusal :=
  .next (s.whenReleased State.startTransaction)

/-- BAD_COMMAND (R168, R173): refused in either command state with no effect; the echo is NULL where no code byte was
completed. -/
def execBadCommand (code : Option Byte) (s : State) : Host.Outcome State Fault Refusal :=
  .next (s.takeAlways (code.getD codeNull) fun s => refuse s .badCommand)

/-- NULL (R169, R179): it writes no response and has no effect. -/
def execNull (s : State) : Host.Outcome State Fault Refusal := .next (s.whenReleased State.endTransaction)

/-! ## Reads -/

/-- The flags READ_STATUS reports as set are cleared, and the collision flag (R175). -/
def State.statusRead (s : State) : State :=
  { s with port := { s.port with events := eventsClear, collision := false } }

/-- READ_STATUS (R175), served in either command state. -/
def execReadStatus (s : State) : Host.Outcome State Fault Refusal :=
  .next (s.takeAlways codeReadStatus fun s => okWith s.statusRead s.statusRecord)

/-- READ_ENTRY judged (R41). -/
def State.judgeReadEntry (s : State) (index : Byte) : Judged :=
  match entryOfByte index with
  | some i => okWith s (entryRecord i s.table[i])
  | none => refuse s .badArg

/-- READ_ENTRY. -/
def execReadEntry (index : Byte) (s : State) : Host.Outcome State Fault Refusal :=
  .next (s.take codeReadEntry (·.judgeReadEntry index))

/-- READ_CHANNEL judged (R121). -/
def State.judgeReadChannel (s : State) (index : Byte) : Judged :=
  match channelOfByte index with
  | some c => okWith s (channelRecord c s.channels[c] s.callBits)
  | none => refuse s .badArg

/-- READ_CHANNEL. -/
def execReadChannel (index : Byte) (s : State) : Host.Outcome State Fault Refusal :=
  .next (s.take codeReadChannel (·.judgeReadChannel index))

/-- READ_PHASE (R62, R101). -/
def execReadPhase (s : State) : Host.Outcome State Fault Refusal :=
  .next (s.take codeReadPhase fun s => okWith s s.phaseRecord)

/-- READ_LINK sets the acknowledged flag of a port whose captured record reports ROLE_FAULT (R143, R153). -/
def acknowledge (x : CorridorPort) : CorridorPort :=
  { x with acknowledged := x.acknowledged || decide (x.state = .roleFault) }

/-- READ_LINK judged (R153, R181). -/
def State.judgeReadLink (s : State) (link : Byte) : Judged :=
  match linkOfByte link with
  | some (.port p) => okWith (s.setLink p (acknowledge (s.link p))) (portRecord p (s.link p))
  | some (.rx r) => okWith s (rxRecord r (s.rx r))
  | none => refuse s .badArg

/-- READ_LINK. -/
def execReadLink (link : Byte) (s : State) : Host.Outcome State Fault Refusal :=
  .next (s.take codeReadLink (·.judgeReadLink link))

/-- READ_FAULT (R166). -/
def execReadFault (s : State) : Host.Outcome State Fault Refusal :=
  .next (s.take codeReadFault fun s => okWith s s.faultRecordBytes)

/-! ## The flush (R39, R40) -/

/-- FLUSH_TABLE (R39, R172). -/
def execFlushTable (s : State) : Host.Outcome State Fault Refusal :=
  .next (s.takeLong codeFlushTable (·.acceptLong (.flushTable 0 0)))

/-- The flush's progress after a visit: the next index, or completion after index 15 with the number closed (R39). -/
def State.flushProgress (s : State) (i : EntryIx) (closed : Nat) : State :=
  if i = 15 then s.completeLong codeFlushTable .ok [natByte closed]
  else { s with port := { s.port with command := .flushTable (i + 1) closed } }

/-- A visit of the flush: a live entry closes with FLUSHED, a FREE one is passed over (R39). -/
def State.flushVisit (s : State) : State :=
  match s.port.command with
  | .flushTable i closed =>
    match s.table[i] with
    | some e => (s.closeEntry i e .flushed).flushProgress i (closed + 1)
    | none => s.flushProgress i closed
  | _ => s

/-- FLUSH_VISIT. Nothing happens while no FLUSH_TABLE runs (assumption 3). -/
def execFlushVisit (s : State) : Host.Outcome State Fault Refusal := .next (s.whenReleased State.flushVisit)

end Sys2Proof.Machine
end

