-- ==== Sys2Proof/Machine/Corridor.lean ====
section
/-! DEFINITION. The corridor ports (spec/08, R134 to R151): polling and replying, received frames, the awaiting-ack list,
breaks, role writes and SET_LINK. -/

namespace Sys2Proof.Machine

/-! ## Role writes (R136) -/

/-- The record of a HANDOFF discarded unsent, NOT_SENT with LINK_NOT_UP; an ACK gives none (R136, R151). Its time, for which
R147 names no event, is that of the role write or the break (assumption 37). -/
def unsentRecord (t : Time) : OutMsg → Option OutcomeRecord
  | .handoff m a level _ => some (handoffRecord t m.vehicle m.route a level (.notSent .linkNotUp))
  | .ack _ _ => none

/-- The records of an outgoing queue that is emptied, in queue order (R136, R151). -/
def unsentRecords (t : Time) (q : List OutMsg) : List OutcomeRecord := q.filterMap (unsentRecord t)

/-- A port as a role write leaves it at time t (R136): OFF empties the outgoing queue; a role begins in SYNCING with its
first POLL due at once or its silence timer started. The timer starts with the silence timeout written, at once: what
R134 says of the next valid POLL is read of a timer that runs (assumption 35). A REPLY that waits to begin is still due at
a responder, which answers every valid POLL (R141), and at no other role (assumption 22). -/
def withRoleWritten (x : CorridorPort) (t : Time) : CorridorPort :=
  match x.settings.role with
  | .off =>
    { x with state := .off, outgoing := [], windowClose := none, pollDue := none, silenceExpiry := none,
             replyDue := false }
  | .poller =>
    { x with state := .syncing, missCount := 0, windowClose := none, peerContained := false, pollDue := some t,
             silenceExpiry := none, replyDue := false }
  | .responder =>
    { x with state := .syncing, missCount := 0, windowClose := none, peerContained := false, pollDue := none,
             silenceExpiry := some (timePlus t x.settings.silence) }

/-- The records a role write gives: those of the HANDOFFs that OFF discards (R136). -/
def roleWriteRecords (x : CorridorPort) (t : Time) : List OutcomeRecord :=
  match x.settings.role with
  | .off => unsentRecords t x.outgoing
  | .poller => []
  | .responder => []

/-- A role write made by SET_LINK or a break (R136). -/
def State.roleWrite (s : State) (p : PortId) : State :=
  let x := s.link p
  (s.setLink p (withRoleWritten x s.time)).pushOutcomes (roleWriteRecords x s.time)

/-- The settings of an accepted SET_LINK put into force, with their role write (R134, R136). -/
def State.writeSettings (s : State) (p : PortId) (st : PortSettings) : State :=
  (s.setLink p { s.link p with settings := st }).roleWrite p

/-- The writes that have waited for a transmission to end, made one after another, each with its role write (R134, R136;
assumption 21). -/
def State.writeDeferred (s : State) (p : PortId) : State :=
  (s.link p).deferredWrites.foldl (fun s st => s.writeSettings p st)
    (s.setLink p { s.link p with deferredWrites := [] })

/-! ## Sending (R139, R141, R144) -/

/-- A link that sends and acts on frames: SYNCING, UP or DOWN (R139, R141). -/
def LinkState.isActive : LinkState → Bool
  | .syncing => true
  | .up => true
  | .down => true
  | .off => false
  | .roleFault => false

/-- The port is idle on its line and may begin a frame: not transmitting, and the start-up interval over (R152, R170). -/
def State.maySend (s : State) (p : PortId) : Bool :=
  let x := s.link p
  x.state.isActive && decide (x.line = .listening) && !s.startingUp

/-- A frame as it begins now: the identity, the contained flag and, while UP, the head of the outgoing queue (R144,
R152). -/
def State.frameNow (s : State) (x : CorridorPort) (isReply : Bool) : OutFrame :=
  { isReply, sender := s.identity, contained := decide (s.containment.state ≠ .normal),
    msg := if x.state = .up then x.outgoing.head? else none }

/-- A poller's POLL begins when its poll timer expires (R139). -/
def State.beginPoll (s : State) (p : PortId) : State :=
  let x := s.link p
  match x.settings.role, x.windowClose, x.pollDue with
  | .poller, none, some due =>
    if s.maySend p && s.reached due then
      s.setLink p { x with line := .frame (s.frameNow x false), pollDue := none, pollStart := s.time }
    else s
  | _, _, _ => s

/-- POLL. Nothing happens unless the port is a poller whose POLL is due and may begin (assumption 3). -/
def execPoll (p : PortId) (s : State) : Host.Outcome State Fault Refusal := .next (s.whenReleased (·.beginPoll p))

/-- A responder's REPLY to a valid POLL begins (R141). -/
def State.beginReply (s : State) (p : PortId) : State :=
  let x := s.link p
  if x.replyDue && s.maySend p then
    s.setLink p { x with line := .frame (s.frameNow x true), replyDue := false }
  else s

/-- REPLY. Nothing happens unless a valid POLL waits for its answer (assumption 3). -/
def execReply (p : PortId) (s : State) : Host.Outcome State Fault Refusal := .next (s.whenReleased (·.beginReply p))

/-- A HANDOFF as an awaiting item, sent at t (R144, R146). -/
def awaitItem (m : HandoffMsg) (a : Approach) (level ackTimeout : Nat) (t : Time) : AwaitItem :=
  { id := m.id, deadline := timePlus t ackTimeout, vehicle := m.vehicle, route := m.route, approach := a, level }

/-- The port once its frame's message is sent: it leaves the queue; a HANDOFF becomes an awaiting item (R144). -/
def messageSent (x : CorridorPort) (t : Time) : Option OutMsg → CorridorPort
  | none => x
  | some (.ack _ _) => { x with outgoing := x.outgoing.tail }
  | some (.handoff m a level ackTimeout) =>
    { x with outgoing := x.outgoing.tail, awaiting := x.awaiting ++ [awaitItem m a level ackTimeout t] }

/-- The port after the last character of a frame: listening, the message sent, and after a POLL the reply window open
(R139, R144). -/
def frameSent (x : CorridorPort) (f : OutFrame) (t : Time) : CorridorPort :=
  let y := messageSent { x with line := .listening } t f.msg
  if f.isReply then y else { y with windowClose := some (timePlus t x.settings.replyWindow) }

/-- A break that waited for the frame begins (R150). -/
def State.beginWaitingBreak (s : State) (p : PortId) : State :=
  let x := s.link p
  if x.breakWaiting then s.setLink p { x with line := .sendingBreak, breakWaiting := false } else s

/-- The frame's end, then the writes that wait for it, then a waiting break (R134, R150; assumption 21). -/
def State.endTransmission (s : State) (p : PortId) : State :=
  let x := s.link p
  match x.line with
  | .frame f => ((s.setLink p (frameSent x f s.time)).writeDeferred p).beginWaitingBreak p
  | _ => s

/-- TRANSMISSION_END. Nothing happens unless the port is sending a frame (assumption 3). -/
def execTransmissionEnd (p : PortId) (s : State) : Host.Outcome State Fault Refusal :=
  .next (s.whenReleased (·.endTransmission p))

/-! ## Reply windows and silence (R139 to R141) -/

/-- The port with its reply window closed now: the next POLL is due at the later of the POLL's start plus the poll
interval and the close (R139). -/
def windowClosed (x : CorridorPort) (t : Time) : CorridorPort :=
  { x with windowClose := none, pollDue := some (laterOf (timePlus x.pollStart x.settings.pollInterval) t) }

/-- The port after a miss is counted (R140). -/
def missed (x : CorridorPort) : CorridorPort := { x with missCount := min (x.missCount + 1) x.settings.missLimit }

/-- The link is SYNCING or UP, so that its loss is a fault (R140, R141). -/
def LinkState.isAlive : LinkState → Bool
  | .syncing => true
  | .up => true
  | _ => false

/-- A link lost: DOWN with its fault (R140, R141). -/
def State.loseLink (s : State) (p : PortId) (x : CorridorPort) : State :=
  (s.setLink p { x with state := .down }).occur (downFault p) (.link p) none

/-- A miss counted at the window's close; at the miss limit the link is lost (R140). -/
def State.countMiss (s : State) (p : PortId) (x : CorridorPort) : State :=
  if x.state.isAlive && decide (x.settings.missLimit ≤ x.missCount) then s.loseLink p x else s.setLink p x

/-- An open reply window whose time is reached closes unanswered (R140). -/
def State.closeWindow (s : State) (p : PortId) : State :=
  let x := s.link p
  match x.windowClose with
  | some t => if s.reached t then s.countMiss p (missed (windowClosed x s.time)) else s
  | none => s

/-- REPLY_WINDOW_CLOSE. Nothing happens unless an open window's close is reached (assumption 3). -/
def execReplyWindowClose (p : PortId) (s : State) : Host.Outcome State Fault Refusal :=
  .next (s.whenReleased (·.closeWindow p))

/-- A responder's silence timer expires in SYNCING or UP (R141). -/
def State.silence (s : State) (p : PortId) : State :=
  let x := s.link p
  match x.silenceExpiry with
  | some t =>
    if x.state.isAlive && s.reached t then s.loseLink p { x with silenceExpiry := none } else s
  | none => s

/-- SILENCE_TIMEOUT. Nothing happens unless the silence timer's expiry is reached in SYNCING or UP (assumption 3). -/
def execSilenceTimeout (p : PortId) (s : State) : Host.Outcome State Fault Refusal :=
  .next (s.whenReleased (·.silence p))

/-! ## Received frames (R137, R138, R142, R146, R148) -/

/-- The awaiting item of a message id, if any (R146). -/
def awaitingOf (x : CorridorPort) (id : Byte) : Option AwaitItem := x.awaiting.find? fun i => decide (i.id = id)

/-- The awaiting-ack list without a message id; the rest keep their order (R146). -/
def awaitingWithout (x : CorridorPort) (id : Byte) : CorridorPort :=
  { x with awaiting := x.awaiting.filter fun i => decide (i.id ≠ id) }

/-- The outcome record of an awaiting item that ends (R146, R147). -/
def awaitRecord (i : AwaitItem) (t : Time) (r : HandoffResult) : OutcomeRecord :=
  handoffRecord t i.vehicle i.route i.approach i.level r

/-- An awaiting item ends with a result: it leaves the list and gives its record (R146). -/
def State.endAwaiting (s : State) (p : PortId) (i : AwaitItem) (r : HandoffResult) : State :=
  (s.setLink p (awaitingWithout (s.link p) i.id)).pushOutcome (awaitRecord i s.time r)

/-- A received ACK (R146, R181): it ends the item it matches; one that matches none, or carries an unknown result, is
discarded. -/
def State.takeAck (s : State) (p : PortId) (id code : Byte) : State :=
  match ackOfCode code, awaitingOf (s.link p) id with
  | some r, some i => s.endAwaiting p i (.acked r)
  | _, _ => s

/-- A received HANDOFF goes to the receive queue, or is dropped when two are held (R148). -/
def State.takeHandoff (s : State) (p : PortId) (m : HandoffMsg) (sender : Byte) : State :=
  let x := s.link p
  if x.received.length < receiveCapacity then s.setLink p { x with received := x.received ++ [(m, sender)] } else s

/-- The message of a frame that is taken (R144). -/
def State.takeMessage (s : State) (p : PortId) (f : InFrame) : State :=
  match f.msg with
  | .none => s
  | .handoff m => s.takeHandoff p m f.sender
  | .ack id code => s.takeAck p id code

/-- The port with the fields every valid frame updates (R138). -/
def heardPeer (x : CorridorPort) (contained : Bool) (sender : Byte) : CorridorPort :=
  { x with peerContained := contained, lastPeer := sender }

/-- A poller that hears a POLL enters ROLE_FAULT; its poll timer and reply window stop (R142). -/
def State.enterRoleFault (s : State) (p : PortId) (x : CorridorPort) : State :=
  (s.setLink p { x with state := .roleFault, acknowledged := false, pollDue := none, windowClose := none,
                        replyDue := false }).occur (roleFaultKind p) (.link p) none

/-- A poller's POLL is answered by a REPLY inside the window (R139). -/
def State.answered (s : State) (p : PortId) (x : CorridorPort) (f : InFrame) : State :=
  (s.setLink p { windowClosed x s.time with missCount := 0, state := .up }).takeMessage p f

/-- A responder hears a POLL (R141). A REPLY to a POLL heard during the start-up interval is not begun (R170). -/
def State.polled (s : State) (p : PortId) (x : CorridorPort) (f : InFrame) : State :=
  (s.setLink p { x with state := .up, silenceExpiry := some (timePlus s.time x.settings.silence),
                        replyDue := !s.startingUp }).takeMessage p f

/-- A valid frame acted on by the port's role and the frame's type (R139 to R142); a late REPLY, a REPLY at a responder
and any frame in ROLE_FAULT only update the peer fields. -/
def State.actOn (s : State) (p : PortId) (f : InFrame) : State :=
  let x := heardPeer (s.link p) f.contained f.sender
  let kept := s.setLink p x
  if !x.state.isActive then kept
  else
    match x.settings.role, f.isReply with
    | .poller, false => s.enterRoleFault p x
    | .poller, true => if x.windowClose.isSome then s.answered p x f else kept
    | .responder, false => s.polled p x f
    | .responder, true => kept
    | .off, _ => kept

/-- The port watches its line: it is not OFF and not transmitting (R137). -/
def State.watches (s : State) (p : PortId) : Bool :=
  decide ((s.link p).state ≠ .off) && decide ((s.link p).line = .listening)

/-- A frame discarded with the port's CRC fault (R137). -/
def State.discardFrame (s : State) (p : PortId) : State := s.occur (crcFault p) (.link p) none

/-- A completed frame at a port (R137, R138): checked, then acted on. One of message kind 3 whose CRC matches is valid and
updates the peer fields (R138), but is discarded with the fault (R137, R181) and not acted on (assumption 36). -/
def State.receive (s : State) (p : PortId) (bytes : List Byte) : State :=
  if !s.watches p then s
  else
    match receiveFrame bytes with
    | .incomplete => s
    | .bad => s.discardFrame p
    | .unknownKind contained sender => (s.setLink p (heardPeer (s.link p) contained sender)).discardFrame p
    | .valid f => s.actOn p f

/-- CORRIDOR_FRAME_RECEIVED. Nothing happens where the port does not watch its line or the bytes are no completed frame
(assumption 3). -/
def execCorridorFrameReceived (p : PortId) (bytes : List Byte) (s : State) : Host.Outcome State Fault Refusal :=
  .next (s.whenReleased (·.receive p bytes))

/-- An open frame cut short at a port that watches its line (R137). -/
def State.cutFrame (s : State) (p : PortId) : State :=
  if s.watches p then s.discardFrame p else s

/-- CORRIDOR_FRAME_CUT. Nothing happens where the port does not watch its line (assumption 3). -/
def execCorridorFrameCut (p : PortId) (s : State) : Host.Outcome State Fault Refusal :=
  .next (s.whenReleased (·.cutFrame p))

/-- An awaiting item whose deadline is reached ends with UNCONFIRMED (R146). -/
def State.deadline (s : State) (p : PortId) (id : Byte) : State :=
  match awaitingOf (s.link p) id with
  | some i => if s.reached i.deadline then s.endAwaiting p i .unconfirmed else s
  | none => s

/-- ACK_DEADLINE. Nothing happens unless the item is awaited and its deadline reached (assumption 3). -/
def execAckDeadline (p : PortId) (id : Byte) (s : State) : Host.Outcome State Fault Refusal :=
  .next (s.whenReleased (·.deadline p id))

/-! ## Breaks (R150, R151) -/

/-- The records a break gives: the discarded HANDOFFs, then the awaiting items (R151). Their time, for which R147 names no
event, is that of the break (assumption 37). -/
def breakRecords (x : CorridorPort) (t : Time) : List OutcomeRecord :=
  unsentRecords t x.outgoing ++ x.awaiting.map fun i => awaitRecord i t .unconfirmed

/-- The port with its queues, list and id as a break leaves them (R151). A REPLY that waits to begin is still due
(R141; assumption 22). -/
def brokenPort (x : CorridorPort) : CorridorPort :=
  { x with outgoing := [], awaiting := [], received := [], nextId := 0 }

/-- An item of a port marked: the port has recognised a break since the take (R149). -/
def markBroken (p : PortId) : Item → Item
  | .handoff q m sender broken => .handoff q m sender (broken || decide (q = p))
  | .radio a b c d e => .radio a b c d e
  | .loop a => .loop a

/-- The reset of a port that recognises a break (R151); in ROLE_FAULT without the role write. -/
def State.breakReset (s : State) (p : PortId) : State :=
  let x := s.link p
  let s := { s with intake := { s.intake with item := s.intake.item.map (markBroken p) } }
  let s := (s.setLink p (brokenPort x)).pushOutcomes (breakRecords x s.time)
  if x.state = .roleFault then s else s.roleWrite p

/-- A received break (R151). -/
def State.receiveBreakAt (s : State) (p : PortId) : State := if s.watches p then s.breakReset p else s

/-- BREAK. Nothing happens where the port does not watch its line (assumption 3). -/
def execCorridorBreak (p : PortId) (s : State) : Host.Outcome State Fault Refusal :=
  .next (s.whenReleased (·.receiveBreakAt p))

/-- A break the port has sent ends: the port resets itself unless it is OFF, then the writes that wait take effect (R134,
R150, R151). -/
def State.endBreak (s : State) (p : PortId) : State :=
  let x := s.link p
  if x.line = .sendingBreak then
    let s := s.setLink p { x with line := .listening }
    (if x.state = .off then s else s.breakReset p).writeDeferred p
  else s

/-- BREAK_SEND_END. Nothing happens unless the port is sending a break (assumption 3). -/
def execBreakSendEnd (p : PortId) (s : State) : Host.Outcome State Fault Refusal :=
  .next (s.whenReleased (·.endBreak p))

/-- A break begins, or waits for the frame being sent (R150). -/
def State.startBreak (s : State) (p : PortId) : State :=
  let x := s.link p
  match x.line with
  | .frame _ => s.setLink p { x with breakWaiting := true }
  | _ => s.setLink p { x with line := .sendingBreak }

/-- A port refuses LINK_BREAK (R150). -/
def refusesBreak (x : CorridorPort) : Bool :=
  decide (x.settings.role = .off) || decide (x.state = .roleFault) || decide (x.line = .sendingBreak)

/-- LINK_BREAK judged (R150, R181). -/
def State.judgeLinkBreak (s : State) (link : Byte) : Judged :=
  match linkOfByte link with
  | some (.port p) => if refusesBreak (s.link p) then refuse s .badState else okWith (s.startBreak p) []
  | _ => refuse s .badArg

/-- LINK_BREAK. -/
def execLinkBreak (link : Byte) (s : State) : Host.Outcome State Fault Refusal :=
  .next (s.take codeLinkBreak (·.judgeLinkBreak link))

/-! ## SET_LINK (R1, R134, R143) -/

/-- The line state of a receive link after its rate changes: whether an undecided character survives is open
(assumption 7). -/
def lineAfterRate (l : LineState) (survives : Bool) : LineState :=
  match l with
  | .undecided => if survives then .undecided else .idle
  | .idle => .idle
  | .inBreak => .inBreak

/-- A write of a receive link's settings (R1): one that changes either returns the assembler to HUNT; the holding buffer
keeps its frame; a link that is disabled watches nothing. -/
def State.writeRx (s : State) (r : RxId) (enable : Bool) (rate : LineRate) : State :=
  let x := s.rx r
  if x.enabled = enable ∧ x.rate = rate then s
  else
    let line := if x.enabled = enable then lineAfterRate x.line (Config.undecidedSurvivesWrite s.freeIndex) else .idle
    { s with freeIndex := s.freeIndex + 1 }.setRx r { x with enabled := enable, rate, line, assembler := .hunt }

/-- A write of a corridor port's settings: at once, or after the transmission in progress (R134). -/
def State.writePort (s : State) (p : PortId) (st : PortSettings) : State :=
  match (s.link p).line with
  | .listening => s.writeSettings p st
  | _ => s.setLink p { s.link p with deferredWrites := (s.link p).deferredWrites ++ [st] }

/-- A port in ROLE_FAULT that READ_LINK has not reported refuses SET_LINK (R143). -/
def refusesSetLink (x : CorridorPort) : Bool := decide (x.state = .roleFault) && !x.acknowledged

/-- SET_LINK for a corridor port judged (R134, R143): the acknowledged flag first, then the arguments. -/
def State.judgePortSettings (s : State) (p : PortId) (settings : Option PortSettings) : Judged :=
  if refusesSetLink (s.link p) then refuse s .badState
  else
    match settings with
    | some st => okWith (s.writePort p st) []
    | none => refuse s .badArg

/-- SET_LINK judged by what its link byte names (R1, R134, R181). -/
def State.judgeSetLink (s : State) (link : Byte) (rx : Option (Bool × LineRate)) (port : Option PortSettings) :
    Judged :=
  match linkOfByte link with
  | none => refuse s .badArg
  | some (.port p) => s.judgePortSettings p port
  | some (.rx r) =>
    match rx with
    | some (enable, rate) => okWith (s.writeRx r enable rate) []
    | none => refuse s .badArg

/-- SET_LINK. -/
def execSetLink (link role rate : Byte) (pollInterval replyWindow : Half) (missLimit : Byte)
    (silence ackTimeout nominal tolerance : Half) (s : State) : Host.Outcome State Fault Refusal :=
  .next (s.take codeSetLink (·.judgeSetLink link (rxSettings role rate)
    (portSettings role rate pollInterval replyWindow missLimit silence ackTimeout nominal tolerance)))

end Sys2Proof.Machine
end

