-- ==== Sys2Proof/Machine/Settings.lean ====
section
/-! DEFINITION. The configuration commands of the tables, the pins, the events and the fault recorder; CLEAR_FAULTS,
CONTAIN, RELEASE, POP_OUTCOMES; and SETTLE_TIMEOUT (spec/01, spec/07, spec/09, spec/10). -/

namespace Sys2Proof.Machine

/-! ## Approaches, routes and classes -/

/-- A loop whose approach is disabled or whose loop use is off: last sample inactive, ARMED, no pending flag (R15). A change
that waits for its row is discarded with them (assumption 16). -/
def unwatchedLoop (l : LoopState) : LoopState :=
  { l with lastSample := false, active := false, pending := false, changeAt := none }

/-- An accepted SET_APPROACH: the record replaced, and the loop reset unless it stays watched (R15, R18). -/
def State.writeApproach (s : State) (a : Approach) (cfg : ApproachConfig) : State :=
  let s := { s with approaches := put s.approaches a cfg }
  if cfg.enabled && cfg.loopUse then s else { s with loops := put s.loops a (unwatchedLoop s.loops[a]) }

/-- SET_APPROACH judged: BAD_ARG first, then BAD_STATE while a live entry has the approach (R18). -/
def State.judgeApproach (s : State) (approach : Byte) (cfg : Option ApproachConfig) : Judged :=
  match approachOfByte approach, cfg with
  | some a, some cfg => if s.approachInUse a then refuse s .badState else okWith (s.writeApproach a cfg) []
  | _, _ => refuse s .badArg

/-- SET_APPROACH. -/
def execSetApproach (approach flags phase : Byte) (vFree vFloor margin : Half) (s : State) :
    Host.Outcome State Fault Refusal :=
  .next (s.take codeSetApproach (·.judgeApproach approach (approachSettings flags phase vFree vFloor margin)))

/-- The route table indices in order. -/
def allRoutes : List (Fin 32) := (List.range 32).map fun n => Fin.ofNat 32 n

/-- Another enabled entry already holds the route id of an entry to be enabled (R11). -/
def RouteTable.clashes (t : RouteTable) (i : Fin 32) (e : RouteEntry) : Bool :=
  e.enabled && allRoutes.any fun j => decide (j ≠ i) && t.entries[j].enabled && decide (t.entries[j].route = e.route)

/-- SET_ROUTE judged (R11): one entry and the mode written at once. -/
def State.judgeRoute (s : State) (x : Option (Fin 32 × RouteEntry × RouteMode)) : Judged :=
  match x with
  | none => refuse s .badArg
  | some (i, e, mode) =>
    if s.routes.clashes i e then refuse s .badState
    else okWith { s with routes := { entries := put s.routes.entries i e, mode } } []

/-- SET_ROUTE. -/
def execSetRoute (index : Byte) (route : Half) (flags mode : Byte) (s : State) : Host.Outcome State Fault Refusal :=
  .next (s.take codeSetRoute (·.judgeRoute (routeSettings index route flags mode)))

/-- SET_CLASS judged (R14). -/
def State.judgeClass (s : State) (x : Option (Vector Int 7)) : Judged :=
  match x with
  | none => refuse s .badArg
  | some ts => okWith { s with classes := ts } []

/-- SET_CLASS. -/
def execSetClass (thresholds : Vector Half 7) (s : State) : Host.Outcome State Fault Refusal :=
  .next (s.take codeSetClass (·.judgeClass (classSettings thresholds)))

/-! ## Identity, pins and events -/

/-- SET_IDENT (R152): every byte is an identity. -/
def execSetIdent (identity : Byte) (s : State) : Host.Outcome State Fault Refusal :=
  .next (s.take codeSetIdent fun s => okWith { s with identity } [])

/-- An accepted SET_PINS (R16, R120, R123): the stuck limit governs from the next sample; a change of edge or filter time
keeps the recognised level and begins the run count anew, and so discards a change of level that waits for its row
OVR_RECOGNISED_CHANGE (assumption 16). -/
def State.writePins (s : State) (p : PinSettings) : State :=
  let recounts := decide (p.edge ≠ s.pins.edge) || decide (p.filter ≠ s.pins.filter)
  { s with pins := p, ovr := if recounts then { s.ovr with runCount := 0, changeAt := none } else s.ovr }

/-- SET_PINS judged. -/
def State.judgePins (s : State) (x : Option PinSettings) : Judged :=
  match x with
  | none => refuse s .badArg
  | some p => okWith (s.writePins p) []

/-- SET_PINS. -/
def execSetPins (drive edge : Byte) (filter suspend stuck : Half) (s : State) : Host.Outcome State Fault Refusal :=
  .next (s.take codeSetPins (·.judgePins (pinSettings drive edge filter suspend stuck)))

/-- SET_EVENTS (R178, R181): bits 0 to 6 are the enables, bit 7 is ignored. -/
def execSetEvents (enables : Byte) (s : State) : Host.Outcome State Fault Refusal :=
  .next (s.take codeSetEvents fun s =>
    okWith { s with port := { s.port with enables := enables.extractLsb' 0 7 } } [])

/-! ## The fault recorder -/

/-- The recorder with its pointer returned to NONE: the record keeps its fields and is no longer valid (R158). -/
def pointerReleased (f : FaultRecorder) : FaultRecorder :=
  { f with pointer := none, record := { f.record with valid := false } }

/-- The pointer returns to NONE if it names a kind of a map (R158). -/
def releasePointer (f : FaultRecorder) (m : BitVec 19) : FaultRecorder :=
  match f.pointer with
  | some k => if kindBit m k then pointerReleased f else f
  | none => f

/-- The nineteen kinds of a map as a command carries it (R180): bits 23 to 19 are ignored. -/
def mapOf (m : BitVec 24) : BitVec 19 := m.extractLsb' 0 19

/-- The recorder after CLEAR_FAULTS (R155, R158). -/
def faultsCleared (f : FaultRecorder) (m : BitVec 19) : FaultRecorder :=
  releasePointer { f with status := f.status &&& ~~~m } m

/-- CLEAR_FAULTS (R155): answered with the statuses as they stand after it. -/
def execClearFaults (map : BitVec 24) (s : State) : Host.Outcome State Fault Refusal :=
  .next (s.take codeClearFaults fun s =>
    let f := faultsCleared s.faults (mapOf map)
    okWith { s with faults := f } (mapBytes f.status))

/-- The recorder under new masks and severities: a pointed kind that is masked returns the pointer to NONE (R156,
R158). -/
def faultsControlled (f : FaultRecorder) (mask severity : BitVec 19) : FaultRecorder :=
  releasePointer { f with mask, severity } mask

/-- SET_FAULT_CONTROL judged (R156). -/
def State.judgeFaultControl (s : State) (mask severity : BitVec 24) (enable : Byte) (settle : Half) : Judged :=
  match twoValued enable false true, durationIn settle 100 6000 with
  | some enable, some settleTimeout =>
    okWith { s with faults := faultsControlled s.faults (mapOf mask) (mapOf severity)
                    containment := { s.containment with enable, settleTimeout } } []
  | _, _ => refuse s .badArg

/-- SET_FAULT_CONTROL. -/
def execSetFaultControl (mask severity : BitVec 24) (enable : Byte) (settle : Half) (s : State) :
    Host.Outcome State Fault Refusal :=
  .next (s.take codeSetFaultControl (·.judgeFaultControl mask severity enable settle))

/-! ## Containment -/

/-- CONTAIN judged (R162): refused with the enable OFF, else a trigger, answered with the state and reason in force. -/
def State.judgeContain (s : State) : Judged :=
  if s.containment.enable then
    let s := s.trigger .software
    okWith s (containCode s.containment.state :: reasonBytes (reasonOf s.containment.state))
  else refuse s .badState

/-- CONTAIN. -/
def execContain (s : State) : Host.Outcome State Fault Refusal := .next (s.take codeContain State.judgeContain)

/-- Some kind that is unmasked and of severity CONTAIN has its status set (R165). -/
def FaultRecorder.blocksRelease (f : FaultRecorder) : Bool := decide (f.status &&& ~~~f.mask &&& f.severity ≠ 0)

/-- RELEASE judged (R165). -/
def State.judgeRelease (s : State) : Judged :=
  match s.containment.state with
  | .normal => okWith s []
  | .settling _ _ => refuse s .badState
  | .held _ =>
    if s.faults.blocksRelease then refuse s .badState
    else okWith { s with containment := { s.containment with state := .normal } }.cause []

/-- RELEASE. -/
def execRelease (s : State) : Host.Outcome State Fault Refusal := .next (s.take codeRelease State.judgeRelease)

/-- The settle timer's expiry makes containment HELD (R163). -/
def State.settleTimeout (s : State) : State :=
  match s.containment.state with
  | .settling reason expiry =>
    if s.reached expiry then ({ s with containment := { s.containment with state := .held reason } }).raise .cnt else s
  | _ => s

/-- SETTLE_TIMEOUT. Nothing happens unless the settle timer's expiry is reached in SETTLING (assumption 3). -/
def execSettleTimeout (s : State) : Host.Outcome State Fault Refusal := .next (s.whenReleased State.settleTimeout)

/-! ## The outcome queue -/

/-- The oldest records, up to a count, taken off the outcome queue (R176). -/
def State.popOutcomes (s : State) (n : Nat) : Judged :=
  let popped := s.port.outcomes.take n
  okWith { s with port := { s.port with outcomes := s.port.outcomes.drop n } }
    (natByte popped.length :: (popped.map outcomeBytes).flatten)

/-- POP_OUTCOMES judged (R176). -/
def State.judgePop (s : State) (count : Byte) : Judged :=
  match inRange count.toNat 1 4 with
  | some n => s.popOutcomes n
  | none => refuse s .badArg

/-- POP_OUTCOMES. -/
def execPopOutcomes (count : Byte) (s : State) : Host.Outcome State Fault Refusal :=
  .next (s.take codePopOutcomes (·.judgePop count))

end Sys2Proof.Machine
end

