-- ==== Sys2Proof/Machine/Reset.lean ====
section
/-! DEFINITION. The resets: POWER_ON_RESET, RST_LOW, START_UP_INTERVAL_END (R135, R152, R170), RESET_CORE and
BLOCK_RESET (R174, and the rule of each block it cites). -/

namespace Sys2Proof.Machine

/-! ## Power-on reset and the start-up interval -/

/-- The state at the release of RST: power-on values everywhere, the straps as sampled. What waits outside the part, and
the model's count of free choices, are kept. -/
def State.powerOn (s : State) (cpos1 cpos0 : Bool) : State :=
  { powerOnState cpos1 cpos0 with freeIndex := s.freeIndex, pending := s.pending }

/-- POWER_ON_RESET (R135). -/
def execPowerOnReset (cpos1 cpos0 : Bool) (s : State) : Host.Outcome State Fault Refusal :=
  .next (s.powerOn cpos1 cpos0)

/-- RST_LOW (R135): the part is held in reset; the straps are not yet sampled. -/
def execRstLow (s : State) : Host.Outcome State Fault Refusal := .next { s.powerOn false false with held := true }

/-- A port as the start-up interval ends at t: a poller's first POLL is due, a responder's silence timer starts unless a
POLL heard in the interval, or the role write of a break in it, has started it already (R136, R152; assumption 23). -/
def portStarted (x : CorridorPort) (t : Time) : CorridorPort :=
  match x.settings.role with
  | .off => x
  | .poller => if x.state.isActive then { x with pollDue := some t } else x
  | .responder =>
    if x.state.isAlive && x.silenceExpiry.isNone then
      { x with silenceExpiry := some (timePlus t x.settings.silence) }
    else x

/-- The start-up interval ends when its time is reached (R170). -/
def State.endStartUp (s : State) : State :=
  match s.startUpEnd with
  | some t =>
    if s.reached t then
      { s with startUpEnd := none, linkA := portStarted s.linkA s.time, linkB := portStarted s.linkB s.time }
    else s
  | none => s

/-- START_UP_INTERVAL_END. Nothing happens unless the interval's end is reached (assumption 3). -/
def execStartUpIntervalEnd (s : State) : Host.Outcome State Fault Refusal := .next (s.whenReleased State.endStartUp)

/-! ## RESET_CORE -/

/-- Every block that takes a reset. -/
def allBlocks : List Block :=
  [.rx .rx0, .rx .rx1, .intake, .table, .tracker, .engine, .channels, .overrideMonitor, .link .linkA, .link .linkB,
    .faults]

/-- RESET_CORE at the port itself (R174). -/
def State.acceptReset (s : State) : State :=
  { s with port := { s.port with
      outcomes := [], events := eventsClear, collision := false, shortSlot := none, longSlot := none,
      command := .resetCore allBlocks } }

/-- RESET_CORE, accepted in every command state (R173, R174). -/
def execResetCore (s : State) : Host.Outcome State Fault Refusal :=
  .next (s.whenReleased fun s => if s.discardsCommand then s.endTransaction else s.endTransaction.acceptReset)

/-- A receive link after RESET_CORE (R6). -/
def rxReset (x : RxLink) : RxLink := { x with line := .idle, assembler := .hunt, holding := none }

/-- Intake after RESET_CORE: IDLE with its pointer at LOOP, every loop as after power-on reset (R8, R15). -/
def State.resetIntake (s : State) : State :=
  { s with intake := { s.intake with pointer := .loop, item := none }
           loops := tabulate fun a => { unwatchedLoop s.loops[a] with stuckReported := false } }

/-- The table after RESET_CORE: every entry FREE, its timers stopped (R37, R42). -/
def State.resetTable (s : State) : State :=
  { s with table := Vector.replicate 16 none
           intake := { s.intake with staleDue := Vector.replicate 16 false, expiryDue := Vector.replicate 16 false } }

/-- The tracker after RESET_CORE: UNSYNCED if a plan is active, else NO_PLAN; the staged plan is discarded; a pass in
progress stops, since the tracker is not IN_STEP (R43, R61, R81). -/
def State.resetTracker (s : State) : State :=
  { s with plans := { s.plans with staged := none }
           tracker := if s.plans.active.isSome then .unsynced else .noPlan }.stopPass

/-- The engine and the cycle account after RESET_CORE (R78, R97). -/
def State.resetEngine (s : State) : State :=
  { s with engine := engineIdle, account := accountCleared s.policy.budget }

/-- The channels after RESET_CORE (R102). -/
def State.resetChannels (s : State) : State := { s with channels := Vector.replicate 4 channelIdle }

/-- The settings of a port whose transmission RESET_CORE cuts off: whether the writes that waited for its end come into
force, the last of them standing, is open (assumption 6). -/
def settingsAfterCut (x : CorridorPort) (takes : Bool) : PortSettings :=
  match x.deferredWrites.getLast? with
  | some st => if takes then st else x.settings
  | none => x.settings

/-- A port after RESET_CORE: its transmission cut off, every field at its start, then its role write (R136, R152). -/
def portReset (x : CorridorPort) (takes : Bool) (t : Time) : CorridorPort :=
  withRoleWritten (portCleared (settingsAfterCut x takes)) t

/-- A corridor port's reset. -/
def State.resetPort (s : State) (p : PortId) : State :=
  let x := portReset (s.link p) (Config.cutWriteTakesEffect s.freeIndex) s.time
  { s with freeIndex := s.freeIndex + 1 }.setLink p x

/-- The fault recorder and containment control after RESET_CORE: the settings are kept (R167). -/
def State.resetFaults (s : State) : State :=
  { s with faults := { s.faults with status := 0, pointer := none, record := faultRecordCleared }
           containment := { s.containment with state := .normal } }

/-- One block's reset (R174). -/
def State.resetBlock (s : State) : Block → State
  | .rx r => s.setRx r (rxReset (s.rx r))
  | .intake => s.resetIntake
  | .table => s.resetTable
  | .tracker => s.resetTracker
  | .engine => s.resetEngine
  | .channels => s.resetChannels
  | .overrideMonitor => { s with ovr := overrideCleared }
  | .link p => s.resetPort p
  | .faults => s.resetFaults

/-- RESET_CORE's progress after a block's reset: completion when every block has taken it (R172, R174). -/
def State.resetProgress (s : State) (left : List Block) : State :=
  match left with
  | [] => s.completeLong codeResetCore .ok []
  | b :: rest => { s with port := { s.port with command := .resetCore (b :: rest) } }

/-- A block takes the reset handed to it, once (R174). -/
def State.blockReset (s : State) (b : Block) : State :=
  match s.port.command with
  | .resetCore left =>
    if b ∈ left then (s.resetBlock b).resetProgress (left.filter fun c => decide (c ≠ b)) else s
  | _ => s

/-- BLOCK_RESET. Nothing happens unless RESET_CORE runs and the block has not yet taken its reset (assumption 3). -/
def execBlockReset (b : Block) (s : State) : Host.Outcome State Fault Refusal :=
  .next (s.whenReleased (·.blockReset b))

end Sys2Proof.Machine
end

