-- ==== Sys2Proof/Machine/TimeBase.lean ====
section
/-! DEFINITION. TIME_BASE_DECISECOND: the time base rises and the inputs are sampled (spec/00_scope.md, Time; R15, R46,
R107, R122). The changes that a sample completes are taken by the events that name them. -/

namespace Sys2Proof.Machine

/-- A phase green input after a sample at t: two equal samples that differ from the recognised level ask for a change
(R46). -/
def sampleInput (x : PhaseInput) (level : Bool) (t : Time) : PhaseInput :=
  { x with
    lastSample := level
    changeAt :=
      match x.changeAt with
      | some u => some u
      | none => if level = x.lastSample ∧ level ≠ x.recognised then some t else none }

/-- A watched loop after a sample at t: two equal samples that differ from its state ask for a change (R15). -/
def sampleLoop (l : LoopState) (active : Bool) (t : Time) : LoopState :=
  { l with
    lastSample := active
    changeAt :=
      match l.changeAt with
      | some u => some u
      | none => if active = l.lastSample ∧ active ≠ l.active then some t else none }

/-- A loop at a sample of CHK, which is active when low; only an enabled approach with loop use is sampled (R15). -/
def sampleCheckOut (l : LoopState) (cfg : ApproachConfig) (chk : Bool) (t : Time) : LoopState :=
  if cfg.enabled && cfg.loopUse then sampleLoop l (!chk) t else l

/-- A level of OVR is active under the override edge (R122, R123). -/
def ovrActive : OvrEdge → Bool → Bool
  | .rising, level => level
  | .falling, level => !level

/-- The monitor after a sample at t (R122): a run of differing samples as long as the filter time asks for a change. -/
def sampleOverride (o : OverrideMonitor) (active : Bool) (filter : Nat) (t : Time) : OverrideMonitor :=
  match o.changeAt with
  | some _ => o
  | none =>
    if active = o.recognised then { o with runCount := 0 }
    else { o with runCount := o.runCount + 1, changeAt := if filter ≤ o.runCount + 1 then some t else none }

/-- A RUNNING EXTEND channel's remaining time falls by one (R107). -/
def tickChannel (c : Channel) : Channel :=
  match c.live with
  | some l =>
    match l.action, l.run with
    | .extend remaining runFrom, .running => { c with live := some { l with action := .extend (remaining - 1) runFrom } }
    | _, _ => c
  | none => c

/-- A decisecond of the time base: its samples, the stuck limit that applies from them (R16), and the count of the running
extensions. -/
def State.tick (s : State) (pg : BitVec 6) (chk : BitVec 4) (ovr : Bool) : State :=
  let t := s.time + 1
  { s with
    time := t
    inputs := tabulate fun i => sampleInput s.inputs[i] (pg.getLsbD i.val) t
    loops := tabulate fun a => sampleCheckOut s.loops[a] s.approaches[a] (chk.getLsbD a.val) t
    stuckLimit := s.pins.stuckLimit
    ovr := sampleOverride s.ovr (ovrActive s.pins.edge ovr) s.pins.filter t
    channels := tabulate fun c => tickChannel s.channels[c] }

/-- TIME_BASE_DECISECOND. -/
def execTimeBaseDecisecond (pg : BitVec 6) (chk : BitVec 4) (ovr : Bool) (s : State) :
    Host.Outcome State Fault Refusal :=
  .next (s.whenReleased (·.tick pg chk ovr))

end Sys2Proof.Machine
end

