-- ==== Sys2Proof/Machine/Tracker.lean ====
section
/-! DEFINITION. Plan staging and phase tracking (spec/03): the commands STAGE_PLAN, PLAN_VALIDATION_COMPLETE, GREEN_ONSET
and GREEN_DROP. Where one event of the tracker reaches several blocks, they take it in the order of the columns of
R57 (assumption 4). -/

namespace Sys2Proof.Machine

/-! ## Staging -/

/-- STAGE_PLAN accepted: the staged plan is discarded and validation begins (R44, R172). -/
def State.beginStaging (s : State) (raw : RawPlan) : State :=
  { s with plans := { s.plans with staged := none } }.acceptLong (.stagePlan raw)

/-- STAGE_PLAN. -/
def execStagePlan (cycle : Half) (count : Byte) (slots : Vector RawSlot 6) (s : State) :
    Host.Outcome State Fault Refusal :=
  .next (s.takeLong codeStagePlan (·.beginStaging { cycle, count, slots }))

/-- The end of a validation: the plan is staged, or the response carries the verdict PLAN_INVALID and its sub-reason
(R44, R45). -/
def State.finishValidation (s : State) : State :=
  match s.port.command with
  | .stagePlan raw =>
    match validatePlan raw with
    | .ok p => { s with plans := { s.plans with staged := some p } }.completeLong codeStagePlan .ok []
    | .error e => s.completeLong codeStagePlan .badArg [1, planErrorCode e]
  | _ => s

/-- PLAN_VALIDATION_COMPLETE. Nothing happens while no STAGE_PLAN runs (assumption 3). -/
def execPlanValidationComplete (s : State) : Host.Outcome State Fault Refusal :=
  .next (s.whenReleased State.finishValidation)

/-! ## What the tracker hands on -/

/-- An ADVANCE channel that targets a slot ends with COMPLETE at its onset, in any state (R110). -/
def State.onsetOfSlot (s : State) (k : SlotIx) : State :=
  s.endWhere (fun _ l => !isExtend l && decide (l.slot = k)) (fun _ => .complete)

/-- The current slot's drop at the channels: an EXTEND on it ends with GREEN_ENDED (R108), and an ARMED ADVANCE starts
RUNNING (R109). -/
def State.dropOfSlot (s : State) (k : SlotIx) : State :=
  let s := s.settleCounts fun l => decide (l.slot = k)
  let s := s.endWhere (fun _ l => isExtend l && decide (l.slot = k)) (fun _ => .greenEnded)
  { s with channels := tabulate fun c =>
      match s.channels[c].live with
      | some l =>
        if !isExtend l ∧ l.run = .armed then { s.channels[c] with live := some { l with run := .running } }
        else s.channels[c]
      | none => s.channels[c] }

/-- The tracker leaves IN_STEP by a fault (R53): its record becomes absent, a pass is stopped, and every channel ends,
with CONTAINED where the fault's own trigger takes effect and reaches the channel first, else with UNSYNCED
(assumption 5). Then the fault occurs (R58). -/
def State.leaveInStep (s : State) (k : FaultKind) : State :=
  let triggers := s.wouldTrigger k
  let s := s.settleCounts fun _ => true
  let base := s.freeIndex
  let s := { s with tracker := .unsynced, freeIndex := base + 4 }.stopPass
  let s := s.endWhere (fun _ _ => true) fun c =>
    if triggers && Config.containedFirst (base + c.val) then .contained else .unsynced
  s.occur k .none none

/-- The cycle-length check of R54: an interval that differs from C by more than 100 ds raises CYCLE_LENGTH. -/
def cycleLengthFault (p : Plan) (last : Time) (t : Time) : Bool :=
  decide (100 < (timeDiff t last - p.cycle).natAbs)

/-- A cycle boundary at a time (R54), with the last boundary time if the tracker was IN_STEP. -/
def State.boundary (s : State) (p : Plan) (t : Time) (last : Option Time) : State :=
  let s := { s with tracker := .inStep { cur := 0, period := .green, onset := t, lastBoundary := t } }
  let s := { s with account := accountBoundary s.account s.policy }.cause
  let s := (s.onsetOfSlot 0).observeBoundary
  match last with
  | some l => if cycleLengthFault p l t then s.occur .cycleLength .none none else s
  | none => s

/-- Adoption of the staged plan at a time, its effects in the order of R56. -/
def State.adopt (s : State) (p : Plan) (t : Time) : State :=
  let s := s.settleCounts fun _ => true
  let s := { s with plans := { active := some p, staged := none } }
  let s := { s with tracker := .inStep { cur := 0, period := .green, onset := t, lastBoundary := t } }
  let s := s.endAll .planChange
  let s := { s with account := accountAdoption s.account s.policy }.cause
  s.observeBoundary.raise .plan

/-- An onset that moves the current slot to a later one (R52, R99). -/
def State.moveTo (s : State) (r : StepRecord) (k : SlotIx) (t : Time) : State :=
  let s := { s with tracker := .inStep { r with cur := k, period := .green, onset := t } }
  let s := { s with account := { s.account with xcur := 0 } }.cause
  s.onsetOfSlot k

/-! ## Judging an onset -/

/-- The staged plan, if the phase is its slot-0 phase (R55). -/
def State.stagedFor (s : State) (ph : Phase) : Option Plan :=
  match s.plans.staged with
  | some p => if coordinatedPhase p = some ph then some p else none
  | none => none

/-- An onset in NO_PLAN (R50). -/
def State.onsetNoPlan (s : State) (ph : Phase) (t : Time) : State :=
  match s.stagedFor ph with
  | some p => s.adopt p t
  | none => s.occur .planMissing .none none

/-- An onset in UNSYNCED (R49). -/
def State.onsetUnsynced (s : State) (ph : Phase) (t : Time) : State :=
  match s.stagedFor ph with
  | some p => s.adopt p t
  | none =>
    match s.plans.active with
    | some p => if coordinatedPhase p = some ph then s.boundary p t none else s
    | none => s

/-- An onset in IN_STEP judged against the active plan alone (R52). -/
def State.onsetFollow (s : State) (r : StepRecord) (p : Plan) (ph : Phase) (t : Time) : State :=
  match slotOf p ph with
  | none => s.leaveInStep .sequenceBreak
  | some k =>
    if k = 0 then s.boundary p t (some r.lastBoundary)
    else if r.cur < k then s.moveTo r k t
    else s.leaveInStep .sequenceBreak

/-- An onset of a phase is legal under a plan: at its slot 0, or at a slot later than the current one (R55). -/
def legalOnset (p : Plan) (cur : SlotIx) (ph : Phase) : Bool :=
  match slotOf p ph with
  | none => false
  | some k => decide (k = 0 ∨ cur < k)

/-- An onset in IN_STEP (R52, R55). -/
def State.onsetInStep (s : State) (r : StepRecord) (ph : Phase) (t : Time) : State :=
  match s.plans.active with
  | none => s
  | some p =>
    match s.stagedFor ph with
    | some q => if legalOnset p r.cur ph then s.adopt q t else s.onsetFollow r p ph t
    | none => s.onsetFollow r p ph t

/-- Another input's recognised level is ACTIVE (R47). -/
def State.otherActive (s : State) (ph : Phase) : Bool :=
  allPhases.any fun q => decide (q ≠ ph) && s.inputs[phaseIndex q].recognised

/-- A phase conflict (R47): the fault, and in IN_STEP the tracker's departure. -/
def State.conflict (s : State) : State :=
  if s.inStep then s.leaveInStep .phaseConflict else s.occur .phaseConflict .none none

/-- A green onset judged (R47 to R56). Of two onsets of one decisecond each is judged as it is given, also in NO_PLAN, where
the state that results depends on which comes first although R47 says that it does not (assumption 40). -/
def State.judgeOnset (s : State) (ph : Phase) (t : Time) : State :=
  if s.otherActive ph then s.conflict
  else
    match s.tracker with
    | .noPlan => s.onsetNoPlan ph t
    | .unsynced => s.onsetUnsynced ph t
    | .inStep r => s.onsetInStep r ph t

/-- The state with an input's recognised level changed (R46). -/
def State.recognise (s : State) (ph : Phase) (level : Bool) : State :=
  let x := s.inputs[phaseIndex ph]
  { s with inputs := put s.inputs (phaseIndex ph) { x with recognised := level, changeAt := none } }

/-- A recognised change of an input to a level: it takes place when two equal samples have asked for it (R46), and is
judged at the time of the second. -/
def State.takeChange (s : State) (ph : Phase) (level : Bool) (judge : State → Time → State) : State :=
  let x := s.inputs[phaseIndex ph]
  match x.changeAt with
  | some t => if x.recognised = level then s else judge (s.recognise ph level) t
  | none => s

/-- GREEN_ONSET. Nothing happens while no onset of the phase is due (assumption 3). -/
def execGreenOnset (ph : Phase) (s : State) : Host.Outcome State Fault Refusal :=
  .next (s.whenReleased fun s => s.takeChange ph true fun s t => s.judgeOnset ph t)

/-- The phase is the current slot's and its green is showing (R51). -/
def dropsCurrent (p : Plan) (r : StepRecord) (ph : Phase) : Bool :=
  decide (r.period = .green) && decide ((slotAt p r.cur).phase = ph)

/-- A green drop judged: in IN_STEP a drop of the current slot's phase begins its clearance and is handed on (R51). -/
def State.judgeDrop (s : State) (ph : Phase) (t : Time) : State :=
  match s.tracker, s.plans.active with
  | .inStep r, some p =>
    if dropsCurrent p r ph then
      (({ s with tracker := .inStep { r with period := .clearance t } }).cause).dropOfSlot r.cur
    else s
  | _, _ => s

/-- GREEN_DROP. Nothing happens while no drop of the phase is due (assumption 3). -/
def execGreenDrop (ph : Phase) (s : State) : Host.Outcome State Fault Refusal :=
  .next (s.whenReleased fun s => s.takeChange ph false fun s t => s.judgeDrop ph t)

end Sys2Proof.Machine
end

