-- ==== Sys2Proof/Machine/Dispatch.lean ====
section
/-! DEFINITION. What each command does: one arm per row of spec/opcode_table.json, in the table's order. -/

namespace Sys2Proof.Machine

/-- The effect of a command on everything but the queue. -/
def exec (i : Instr) (s : State) : Host.Outcome State Fault Refusal :=
  match i with
  | .powerOnReset cpos1 cpos0 => Sys2Proof.Machine.execPowerOnReset cpos1 cpos0 s
  | .startUpIntervalEnd => Sys2Proof.Machine.execStartUpIntervalEnd s
  | .transactionStart => Sys2Proof.Machine.execTransactionStart s
  | .badCommand code => Sys2Proof.Machine.execBadCommand code s
  | .null => Sys2Proof.Machine.execNull s
  | .readStatus => Sys2Proof.Machine.execReadStatus s
  | .readEntry index => Sys2Proof.Machine.execReadEntry index s
  | .readChannel index => Sys2Proof.Machine.execReadChannel index s
  | .readPhase => Sys2Proof.Machine.execReadPhase s
  | .readLink link => Sys2Proof.Machine.execReadLink link s
  | .readFault => Sys2Proof.Machine.execReadFault s
  | .popOutcomes count => Sys2Proof.Machine.execPopOutcomes count s
  | .clearFaults map => Sys2Proof.Machine.execClearFaults map s
  | .setFaultControl mask severity enable settle => Sys2Proof.Machine.execSetFaultControl mask severity enable settle s
  | .contain => Sys2Proof.Machine.execContain s
  | .release => Sys2Proof.Machine.execRelease s
  | .stagePlan cycle count slots => Sys2Proof.Machine.execStagePlan cycle count slots s
  | .setApproach approach flags phase vFree vFloor margin => Sys2Proof.Machine.execSetApproach approach flags phase vFree vFloor margin s
  | .setRoute index route flags mode => Sys2Proof.Machine.execSetRoute index route flags mode s
  | .setClass thresholds => Sys2Proof.Machine.execSetClass thresholds s
  | .setPolicy budget debtCap repay aMin advTol horizon tStale preemption => Sys2Proof.Machine.execSetPolicy budget debtCap repay aMin advTol horizon tStale preemption s
  | .setLink link role rate pollInterval replyWindow missLimit silence ackTimeout nominal tolerance => Sys2Proof.Machine.execSetLink link role rate pollInterval replyWindow missLimit silence ackTimeout nominal tolerance s
  | .setIdent identity => Sys2Proof.Machine.execSetIdent identity s
  | .setPins drive edge filter suspend stuck => Sys2Proof.Machine.execSetPins drive edge filter suspend stuck s
  | .setEvents enables => Sys2Proof.Machine.execSetEvents enables s
  | .linkBreak link => Sys2Proof.Machine.execLinkBreak link s
  | .forceGrant entry action amount => Sys2Proof.Machine.execForceGrant entry action amount s
  | .cancelChannel index => Sys2Proof.Machine.execCancelChannel index s
  | .overrideHoldSet arg => Sys2Proof.Machine.execOverrideHoldSet arg s
  | .overrideHoldClear => Sys2Proof.Machine.execOverrideHoldClear s
  | .flushTable => Sys2Proof.Machine.execFlushTable s
  | .flushVisit => Sys2Proof.Machine.execFlushVisit s
  | .resetCore => Sys2Proof.Machine.execResetCore s
  | .blockReset block => Sys2Proof.Machine.execBlockReset block s
  | .planValidationComplete => Sys2Proof.Machine.execPlanValidationComplete s
  | .characterReceived rx data stop => Sys2Proof.Machine.execCharacterReceived rx data stop s
  | .rxBreak rx => Sys2Proof.Machine.execRxBreak rx s
  | .interCharacterGap rx => Sys2Proof.Machine.execInterCharacterGap rx s
  | .intakeTake => Sys2Proof.Machine.execIntakeTake s
  | .radioFrameApplication => Sys2Proof.Machine.execRadioFrameApplication s
  | .handoffJudgement => Sys2Proof.Machine.execHandoffJudgement s
  | .loopItem => Sys2Proof.Machine.execLoopItem s
  | .staleExpiry entry => Sys2Proof.Machine.execStaleExpiry entry s
  | .staleCheck => Sys2Proof.Machine.execStaleCheck s
  | .unconfirmedExpiry entry => Sys2Proof.Machine.execUnconfirmedExpiry entry s
  | .expiryCheck => Sys2Proof.Machine.execExpiryCheck s
  | .loopActivation approach => Sys2Proof.Machine.execLoopActivation approach s
  | .loopClear approach => Sys2Proof.Machine.execLoopClear approach s
  | .checkoutStuck approach => Sys2Proof.Machine.execCheckoutStuck approach s
  | .greenOnset phase => Sys2Proof.Machine.execGreenOnset phase s
  | .greenDrop phase => Sys2Proof.Machine.execGreenDrop phase s
  | .candidateTurn => Sys2Proof.Machine.execCandidateTurn s
  | .runFromTimeReached channel => Sys2Proof.Machine.execRunFromTimeReached channel s
  | .remainingReachesZero channel => Sys2Proof.Machine.execRemainingReachesZero channel s
  | .deadlineReached channel => Sys2Proof.Machine.execDeadlineReached channel s
  | .ovrRecognisedChange => Sys2Proof.Machine.execOvrRecognisedChange s
  | .suspendLimitExpiry => Sys2Proof.Machine.execSuspendLimitExpiry s
  | .resumeVisit => Sys2Proof.Machine.execResumeVisit s
  | .poll port => Sys2Proof.Machine.execPoll port s
  | .reply port => Sys2Proof.Machine.execReply port s
  | .transmissionEnd port => Sys2Proof.Machine.execTransmissionEnd port s
  | .replyWindowClose port => Sys2Proof.Machine.execReplyWindowClose port s
  | .corridorFrameReceived port bytes => Sys2Proof.Machine.execCorridorFrameReceived port bytes s
  | .corridorFrameCut port => Sys2Proof.Machine.execCorridorFrameCut port s
  | .silenceTimeout port => Sys2Proof.Machine.execSilenceTimeout port s
  | .ackDeadline port id => Sys2Proof.Machine.execAckDeadline port id s
  | .corridorBreak port => Sys2Proof.Machine.execCorridorBreak port s
  | .breakSendEnd port => Sys2Proof.Machine.execBreakSendEnd port s
  | .settleTimeout => Sys2Proof.Machine.execSettleTimeout s
  | .undecidedCharacterLineHigh rx => Sys2Proof.Machine.execUndecidedCharacterLineHigh rx s
  | .timeBaseDecisecond pg chk ovr => Sys2Proof.Machine.execTimeBaseDecisecond pg chk ovr s
  | .rstLow => Sys2Proof.Machine.execRstLow s

end Sys2Proof.Machine
end

