-- ==== Sys2Proof/Safety.lean ====
section
/-! DEFINITION. The terms that claims are stated in: when a command is taken and what answering it leaves, and what the
spec promises of every state, the invariants that a step keeps. Each invariant cites the rule that promises it. -/

namespace Sys2Proof.Machine

/-! ## Commands at the controller port -/

/-- A transaction that began after the start-up interval is in progress, and RST is high: its command is taken
(R168, R170). -/
abbrev State.Takes (s : State) : Prop :=
  s.held = false ∧ ∃ r, s.port.transaction = some { response := r, discard := false }

/-- A command is taken while no long command runs, and so is judged by its own rule (R173). -/
abbrev State.Serves (s : State) : Prop := s.Takes ∧ s.port.command = .idle

/-- A state once its command is answered: the transaction is over and the short slot holds the response (R169). -/
def State.replied (s : State) (echo : Byte) (result : ResultCode) (data : List Byte) : State :=
  { s with port := { s.port with transaction := none, shortSlot := some { echo, result, data } } }

/-- The state with the progress of RESET_CORE after a block's reset: the blocks left, or its completion (R172, R174). -/
def State.afterBlock (s : State) (left : List Block) : State :=
  match left with
  | [] => { s with port := { s.port with longSlot := some { echo := 0x3F, result := .ok, data := [] }, command := .idle,
                                         events := { s.port.events with done := true } } }
  | b :: rest => { s with port := { s.port with command := .resetCore (b :: rest) } }

/-- What a received frame says of a frame sent: type, flag, sender and message as carried (R137, R183). -/
def OutFrame.asReceived (f : OutFrame) : InFrame :=
  { isReply := f.isReply
    contained := f.contained
    sender := f.sender
    msg :=
      match f.msg with
      | none => .none
      | some (.handoff m _ _ _) => .handoff m
      | some (.ack id result) => .ack id (ackCode result) }

/-- The engine's running condition (R80). -/
abbrev State.RunningCondition (s : State) : Prop :=
  s.containment.state = .normal ∧ s.ovr.state = .inactive ∧ ∃ r, s.tracker = .inStep r

/-! ## Invariants -/

/-- The outcome queue never holds more than 32 records (R176). -/
abbrev State.OutcomesBounded (s : State) : Prop := s.port.outcomes.length ≤ outcomeCapacity

/-- A port's queues and list hold no more than their rules allow (R144, R146, R148), each HANDOFF in the outgoing queue
having a place of the awaiting-ack list reserved for it (R145). -/
abbrev CorridorPort.Bounded (x : CorridorPort) : Prop :=
  x.outgoing.length ≤ outgoingCapacity ∧ x.awaiting.length + handoffCount x.outgoing ≤ awaitingCapacity ∧
    x.received.length ≤ receiveCapacity

/-- A frame being sent carries no message or the head of the outgoing queue, which stays there until the frame ends
(R144). -/
abbrev CorridorPort.SendsHead (x : CorridorPort) : Prop :=
  ∀ f m, x.line = .frame f → f.msg = some m → x.outgoing.head? = some m

/-- Both ports are within their bounds. -/
abbrev State.PortsBounded (s : State) : Prop := s.linkA.Bounded ∧ s.linkB.Bounded

/-- The queues of the part are within their bounds, and a frame being sent carries its port's head message. -/
abbrev State.QueuesSound (s : State) : Prop :=
  s.OutcomesBounded ∧ s.PortsBounded ∧ s.linkA.SendsHead ∧ s.linkB.SendsHead

/-- No two live entries hold the same vehicle id (R20). -/
abbrev State.VehiclesDistinct (s : State) : Prop :=
  ∀ i j : EntryIx, ∀ e f : Entry, s.table[i] = some e → s.table[j] = some f → e.vehicle = f.vehicle → i = j

/-- The first-fault pointer is NONE or an unmasked kind whose status is set (R157). -/
abbrev FaultRecorder.PointerSound (f : FaultRecorder) : Prop :=
  match f.pointer with
  | some k => kindBit f.status k = true ∧ kindBit f.mask k = false
  | none => True

/-- While containment is SETTLING or HELD, every channel is IDLE (R161). -/
abbrev State.ContainedIdle (s : State) : Prop :=
  s.containment.state ≠ .normal → ∀ c : ChannelIx, s.channels[c].live = none

/-- A live channel is SUSPENDED (R103). -/
abbrev LiveChannel.IsSuspended (l : LiveChannel) : Prop := ∃ p, l.run = .suspended p

/-- While override is ACTIVE, no channel is ARMED or RUNNING (R126). -/
abbrev State.OverrideSuspends (s : State) : Prop :=
  s.ovr.state = .active → ∀ c : ChannelIx, ∀ l : LiveChannel, s.channels[c].live = some l → l.IsSuspended

/-- A pass is in progress only while the running condition holds (R80, R81). -/
abbrev State.PassMayRun (s : State) : Prop := s.engine.pass ≠ none → s.RunningCondition

/-- Every live channel has one to four riders (R88, R112). -/
abbrev State.RidersBounded (s : State) : Prop :=
  ∀ c : ChannelIx, ∀ l : LiveChannel, s.channels[c].live = some l → 1 ≤ l.riders.length ∧ l.riders.length ≤ 4

/-- The tracker is IN_STEP or UNSYNCED only with an active plan, and NO_PLAN only without one (R48). -/
abbrev State.TrackerHasPlan (s : State) : Prop := s.tracker = .noPlan ↔ s.plans.active = none

/-- Every entry's granted total stays within 65535 ds (R28). -/
abbrev State.TotalsBounded (s : State) : Prop :=
  ∀ i : EntryIx, ∀ e : Entry, s.table[i] = some e → e.grantedTotal ≤ grantedLimit

/-- Every entry's level is 0 to 7 (R14, R28). -/
abbrev State.LevelsBounded (s : State) : Prop :=
  ∀ i : EntryIx, ∀ e : Entry, s.table[i] = some e → e.level ≤ 7

/-- The table holds each vehicle once, with every level and granted total in its range. -/
abbrev State.TableSound (s : State) : Prop := s.VehiclesDistinct ∧ s.TotalsBounded ∧ s.LevelsBounded

/-- What containment, override and the tracker forbid does not stand: a channel live while contained, one ARMED or RUNNING
while override is ACTIVE, a pass without its running condition, a tracker without its plan. -/
abbrev State.Guarded (s : State) : Prop :=
  s.ContainedIdle ∧ s.OverrideSuspends ∧ s.PassMayRun ∧ s.TrackerHasPlan ∧ s.faults.PointerSound ∧ s.RidersBounded

/-- The settings of an approach that bound a window's margin and speed are in range (R18). -/
abbrev ApproachConfig.FormsWindows (c : ApproachConfig) : Prop := 10 ≤ c.vFloor ∧ c.margin ≤ 100

/-- Every stored window has A_e at or before A_l (R67), and the approach records, and the one a radio item carries, are in
range (R18). -/
abbrev State.WindowsOrdered (s : State) : Prop :=
  (∀ i : EntryIx, ∀ e : Entry, s.table[i] = some e → atOrAfter e.windowL e.windowE = true) ∧
  (∀ a : Approach, s.approaches[a].FormsWindows) ∧
  ∀ link r cfg routes classes, s.intake.item = some (.radio link r cfg routes classes) → cfg.FormsWindows

/-- An entry is GRANTED on a channel exactly when it is in the rider list of that channel, which is live and lists it
once (R19, R103). -/
abbrev State.RidersLinked (s : State) : Prop :=
  (∀ (i : EntryIx) (c : ChannelIx) (e : Entry), s.table[i] = some e → e.state = .granted c →
    ∃ l, s.channels[c].live = some l ∧ i ∈ l.riders) ∧
  ∀ (c : ChannelIx) (l : LiveChannel), s.channels[c].live = some l → l.riders.Nodup ∧
    ∀ i ∈ l.riders, ∃ e : Entry, s.table[i] = some e ∧ e.state = .granted c

/-- No two live channels target the same slot, and none charges a slot that another targets (R104). -/
abbrev State.TargetsApart (s : State) : Prop :=
  ∀ (c d : ChannelIx) (l m : LiveChannel), c ≠ d → s.channels[c].live = some l → s.channels[d].live = some m →
    l.slot ≠ m.slot ∧ m.slot ∉ l.charges.map (·.1)

/-- A live extension targets the current slot in GREEN and charges later slots alone, and a live advance targets another
slot (R76, R85, R86, R104). -/
abbrev State.TargetsFollow (s : State) : Prop :=
  ∀ (c : ChannelIx) (l : LiveChannel), s.channels[c].live = some l →
    (isExtend l = true → (∃ r, s.tracker = .inStep r ∧ r.cur = l.slot ∧ r.period = .green) ∧
      ∀ q ∈ l.charges, l.slot < q.1) ∧
    (isExtend l = false → ∀ r, s.tracker = .inStep r → l.slot ≠ r.cur)

/-- In GREEN the input of the current slot's phase is recognised active (R48, R104). -/
abbrev State.GreenRecognised (s : State) : Prop :=
  ∀ r p, s.tracker = .inStep r → r.period = .green → s.plans.active = some p →
    s.inputs[phaseIndex (slotAt p r.cur).phase].recognised = true

/-- While the tracker is not IN_STEP, every channel is IDLE (R53, R103). -/
abbrev State.IdleOutsideStep (s : State) : Prop :=
  (∀ r, s.tracker ≠ .inStep r) → ∀ c : ChannelIx, s.channels[c].live = none

/-- What channels, table, tracker and inputs promise one another while no RESET_CORE is between its block resets
(assumption 14). -/
abbrev State.Linked (s : State) : Prop :=
  s.RidersLinked ∧ s.TargetsApart ∧ s.TargetsFollow ∧ s.GreenRecognised ∧ s.IdleOutsideStep

/-- A plan as R45 lets it be staged: two to six slots of distinct phases in range, whose G plus Y sum to the cycle. -/
abbrev Plan.Valid (p : Plan) : Prop :=
  2 ≤ p.slots.length ∧ p.slots.length ≤ 6 ∧ (p.slots.map (·.phase)).Nodup ∧
  (p.slots.map fun t => t.g + t.y).sum = p.cycle ∧ 300 ≤ p.cycle ∧ p.cycle ≤ 2400 ∧
  ∀ t ∈ p.slots, 10 ≤ t.gmin ∧ t.gmin ≤ t.g ∧ 30 ≤ t.y ∧ t.y ≤ 100 ∧ t.e ≤ 300

/-- The plans in the store are valid (R45). -/
abbrev State.PlansValid (s : State) : Prop :=
  (∀ p, s.plans.active = some p → p.Valid) ∧ ∀ p, s.plans.staged = some p → p.Valid

/-- The budget in force is what is left of it and what the slots are charged this cycle: the model's derivation from R97
and R98, which between the block resets of RESET_CORE rests on assumption 13. -/
abbrev Account.Balanced (a : Account) : Prop := a.budgetLeft + a.charge.toList.sum = a.budgetInForce

/-- The account keeps the three laws of R98 within the plan's limits: the charges of the cycle and the budget remaining
make up the budget in force (assumption 13), no slot gives more than its green above the minimum (R72), and no phase owes
more than the debt cap (R72, R100); and the extension of the current green stays within its slot's limit (R85, R96). -/
abbrev State.AccountSound (s : State) : Prop :=
  s.PlansValid ∧ s.account.Balanced ∧ (∀ k : Fin 6, s.account.debt[k] ≤ s.policy.debtCap) ∧
  (∀ p, s.plans.active = some p →
    (∀ k : SlotIx, s.account.charge[k] ≤ (slotAt p k).g - (slotAt p k).gmin) ∧
    ∀ r, s.tracker = .inStep r → s.account.xcur ≤ (slotAt p r.cur).e)

/-! ## What commands leave, said of the states before and after -/

/-- A grant written on a channel: its record, the charges of its list, x_cur raised by an extension, and the entry riding
it (R93, R94). -/
abbrev State.Granted (s t : State) (c : ChannelIx) (i : EntryIx) (e : Entry) (l : LiveChannel) (mark : ActionMark)
    (p : Plan) (rise : Nat) : Prop :=
  t = { s with
    account := { chargeAll p s.account l.charges with xcur := s.account.xcur + rise }
    channels := t.channels
    table := t.table } ∧
  t.channels[c] = { s.channels[c] with live := some l } ∧ (∀ d, d ≠ c → t.channels[d] = s.channels[d]) ∧
  t.table[i] = some { e with state := .granted c, note := none, wanted := mark, lastAction := mark,
                             grantedTotal := min 65535 (e.grantedTotal + l.amount) } ∧
  ∀ j, j ≠ i → t.table[j] = s.table[j]

/-- The record of an extension of the current slot granted now (R93): RUNNING from the planned end on, else ARMED until
it. -/
abbrev Figures.Extends (f : Figures) (l : LiveChannel) (n : Nat) (i : EntryIx) (level : Nat) (cause : StartCause) : Prop :=
  l = { run := if atOrAfter f.t f.plannedEnd then .running else .armed
        action := .extend n f.plannedEnd
        slot := f.step.cur
        phase := (slotAt f.plan f.step.cur).phase
        cause, amount := n, riders := [i]
        charges := f.allocation f.extensionSlots n
        level, grantTime := f.t }

/-- The record of an advance of a slot granted now (R93): ARMED only while the current slot is GREEN and an extension is
live or the current slot is protected, else RUNNING; its deadline is the time to green, less the advance, plus ADV_TOL
(R75). -/
abbrev Figures.Advances (f : Figures) (l : LiveChannel) (j : SlotIx) (n : Nat) (i : EntryIx) (level : Nat)
    (cause : StartCause) : Prop :=
  l = { run := if f.step.period = .green ∧ f.step.cur ∉ f.truncation j then .armed else .running
        action := .advance (timePlus (f.timeToGreen j) ((f.policy.advTol : Int) - n))
        slot := j
        phase := (slotAt f.plan j).phase
        cause, amount := n, riders := [i]
        charges := f.allocation (f.truncation j) n
        level, grantTime := f.t }

/-- A channel is the lowest-numbered IDLE one (R90). -/
abbrev State.LowestIdle (s : State) (c : ChannelIx) : Prop :=
  s.channels[c].live = none ∧ ∀ d, d < c → s.channels[d].live ≠ none

/-- The last turn of a pass ends it, and a set again-flag is an evaluation cause for the engine then IDLE; before the last
turn the pass goes on (R80). -/
def State.afterTurn (s : State) (rest : List (EntryIx × Vehicle)) : State :=
  match rest with
  | [] => if s.engine.again then State.cause { s with engine := { pass := none, again := false } }
          else { s with engine := { pass := none, again := false } }
  | _ :: _ => s

/-- The live channels that meet a test end one after another, EC0 to EC3 (assumption 4), each for its own reason with its
refund, its riders and its cause (R113). -/
def State.endingThose (s : State) (test : LiveChannel → Bool) (reason : ChannelIx → EndReason) : State :=
  let one (u : State) (c : ChannelIx) : State :=
    match u.channels[c].live with
    | some l => if test l then u.endChannel c (reason c) else u
    | none => u
  one (one (one (one s 0) 1) 2) 3

/-- The counted-out channels that meet a test, as the event that reaches them in their last decisecond finds them
(R107, R126; assumption 10): one after another, EC0 to EC3, each either ends COMPLETE or stands with 1 ds remaining, with
0 ds where its amount is 0 (assumption 34). Only the model's counter of free values moves besides. -/
abbrev State.CountsSettled (s t : State) (test : LiveChannel → Bool) : Prop :=
  let due (l : LiveChannel) : Bool := countedOut l && test l
  ((∀ (c : ChannelIx) l, s.channels[c].live = some l → due l = false) → t = s) ∧
  ((∃ (c : ChannelIx) (l : LiveChannel), s.channels[c].live = some l ∧ due l = true) → ∃ countFirst : ChannelIx → Bool,
    let one (u : State) (c : ChannelIx) : State :=
      match u.channels[c].live with
      | some l =>
        if due l then
          if countFirst c then u.endChannel c .complete
          else u.setChannel c { u.channels[c] with live := some { l with
            action := match l.action with
              | .extend _ runFrom => .extend (if l.amount = 0 then 0 else 1) runFrom
              | .advance deadline => .advance deadline } }
        else u
      | none => u
    t = one (one (one (one { s with freeIndex := s.freeIndex + 4 } 0) 1) 2) 3)

/-- Override becomes ACTIVE (R126): no channel is left ARMED or RUNNING, the suspend-limit timer starts, any pass is
stopped and OVR is raised. That is all once the extensions that meet their last decisecond have settled (R126, R107), and
every channel keeps its record but for its state and prior state. -/
abbrev State.Activates (s t : State) : Prop :=
  t.ovr = { s.ovr with state := .active, suspendExpiry := some (timePlus s.time s.pins.suspendLimit) } ∧
  t.engine = { pass := none, again := false } ∧ t.port.events = { s.port.events with ovr := true } ∧
  t.OverrideSuspends ∧
  (∃ v : State, s.CountsSettled v (fun _ => true) ∧
    t = { v with ovr := t.ovr, engine := t.engine, channels := t.channels, port := t.port } ∧
    t.port = { s.port with events := t.port.events } ∧
    ∀ c : ChannelIx, t.channels[c].lastEnd = v.channels[c].lastEnd ∧
      (v.channels[c].live = none → t.channels[c].live = none) ∧
      (∀ l, v.channels[c].live = some l →
        (l.run = .armed → t.channels[c].live = some { l with run := .suspended .armed }) ∧
        (l.run = .running → t.channels[c].live = some { l with run := .suspended .running }) ∧
        (∀ q, l.run = .suspended q → t.channels[c].live = some l)))

/-- The override state formed anew from the recognised level and the hold (R125). -/
abbrev State.FormsOverride (s t : State) : Prop :=
  let asked : Prop := s.ovr.recognised = true ∨ s.ovr.hold = true
  (s.ovr.state = .inactive → ¬ asked → t = s) ∧ (s.ovr.state = .active → asked → t = s) ∧
  (s.ovr.state = .active → ¬ asked → t = { s with ovr := { s.ovr with state := .resuming 0, suspendExpiry := none } }) ∧
  (∀ c, s.ovr.state = .resuming c → ¬ asked → t = s) ∧ (s.ovr.state ≠ .active → asked → s.Activates t)

/-- A live channel that an event of the tracker ends for a reason: where its last decisecond is being counted as the
event falls, either outcome of R107 may come about. -/
abbrev State.EndsWith (s t : State) (c : ChannelIx) (l : LiveChannel) (r : EndReason) : Prop :=
  if countedOut l then
    t.channels[c] = { live := none, lastEnd := some (r, s.time) } ∨
      t.channels[c] = { live := none, lastEnd := some (.complete, s.time) }
  else t.channels[c] = { live := none, lastEnd := some (r, s.time) }

/-- The adoption of a staged plan at an onset of time t0 (R56), its effects in that rule's order: the store, the tracker,
the channels one after another (assumption 4), the account, the cause, containment and the event. -/
abbrev State.Adopts (s t : State) (p : Plan) (t0 : Time) : Prop :=
  t.plans = { active := some p, staged := none } ∧
  t.tracker = .inStep { cur := 0, period := .green, onset := t0, lastBoundary := t0 } ∧
  (∀ (c : ChannelIx) l, s.channels[c].live = some l → s.EndsWith t c l .planChange) ∧
  (∀ c : ChannelIx, s.channels[c].live = none → t.channels[c] = s.channels[c]) ∧
  (t.account.xcur = 0 ∧ t.account.debt = s.account.debt ∧ t.account.budgetInForce = s.policy.budget ∧
    t.account.budgetLeft = s.policy.budget ∧ ∀ k : SlotIx, t.account.charge[k] = 0) ∧
  (s.containment.state = .normal → s.ovr.state = .inactive →
    (∃ (i : EntryIx) (e : Entry), s.table[i] = some e ∧ (∀ c, e.state ≠ .granted c) ∧ 1 ≤ e.level ∧
      s.approaches[e.approach].enabled = true) → t.engine.pass ≠ none) ∧
  ((∀ r x, s.containment.state ≠ .settling r x) → t.containment = s.containment) ∧
  (∀ r x, s.containment.state = .settling r x →
    t.containment = { s.containment with state := .held r } ∧ t.port.events.cnt = true) ∧
  t.port.events.plan = true ∧ t.faults = s.faults ∧
  ∃ v : State, s.CountsSettled v (fun _ => true) ∧
    let w := State.endingThose { v with plans := t.plans, tracker := t.tracker } (fun _ => true) (fun _ => .planChange)
    t = { State.cause { w with account := t.account } with containment := t.containment, port := t.port } ∧
    t.port = { s.port with events := { s.port.events with plan := true, cnt := t.port.events.cnt } } ∧
    ((∀ r x, s.containment.state ≠ .settling r x) → t.port.events.cnt = s.port.events.cnt)

/-- A cycle boundary at an onset of time t0, but for its cycle-length check (R54, R99): the account's new cycle, the
evaluation cause (R79), the end of an advance to slot 0 with its own cause (R110, R113), and containment's settling. That
the cause comes before the end is the model's choice (assumption 4). -/
abbrev State.Boundary (s t : State) (t0 : Time) : Prop :=
  t = { s with tracker := t.tracker, account := t.account, channels := t.channels, table := t.table, engine := t.engine,
               containment := t.containment, port := t.port } ∧
  t.tracker = .inStep { cur := 0, period := .green, onset := t0, lastBoundary := t0 } ∧
  (t.account.xcur = 0 ∧ t.account.budgetInForce = s.policy.budget ∧ t.account.budgetLeft = s.policy.budget ∧
    ∀ k : Fin 6, t.account.charge[k] = 0 ∧ t.account.debt[k] = s.account.debt[k] - s.policy.repay) ∧
  (∀ (c : ChannelIx) l, s.channels[c].live = some l → l.slot = 0 → isExtend l = false →
    t.channels[c] = { live := none, lastEnd := some (.complete, s.time) }) ∧
  (∀ c : ChannelIx, (∀ l, s.channels[c].live = some l → l.slot ≠ 0 ∨ isExtend l = true) →
    t.channels[c] = s.channels[c]) ∧
  ((∀ r x, s.containment.state ≠ .settling r x) → t.containment = s.containment ∧ t.port = s.port) ∧
  (∀ r x, s.containment.state = .settling r x → t.containment = { s.containment with state := .held r } ∧
    t.port = { s.port with events := { s.port.events with cnt := true } }) ∧
  (let w := State.endingThose (State.cause { s with tracker := t.tracker, account := t.account })
    (fun l => !isExtend l && decide (l.slot = 0)) (fun _ => .complete)
  t = { w with containment := t.containment, port := t.port })

/-- The tracker leaves IN_STEP by a fault (R53): every live channel ends with UNSYNCED, or with CONTAINED where the fault
is a trigger that takes effect (R161), one after another (assumption 4), and then the fault occurs. Which reason a channel
has where both apply is open (assumption 5). -/
abbrev State.LeavesInStep (s t : State) (k : FaultKind) : Prop :=
  t.tracker = .unsynced ∧ t.plans = s.plans ∧ t.engine.pass = none ∧ kindBit t.faults.status k = true ∧
  (∀ c : ChannelIx, t.channels[c].live = none) ∧
  (∀ (c : ChannelIx) l, s.channels[c].live = some l → s.EndsWith t c l .unsynced ∨
    s.wouldTrigger k = true ∧ s.EndsWith t c l .contained) ∧
  (∀ c : ChannelIx, s.channels[c].live = none → t.channels[c] = s.channels[c]) ∧
  ∃ (v : State) (reason : ChannelIx → EndReason), s.CountsSettled v (fun _ => true) ∧
    (∀ c, reason c = .unsynced ∨ s.wouldTrigger k = true ∧ reason c = .contained) ∧
    let w : State := { v with
      tracker := .unsynced
      engine := { pass := none, again := false }
      freeIndex := v.freeIndex + 4 }
    t = (w.endingThose (fun _ => true) reason).occur k .none none

/-- The highest level among the live entries of a list of indices (spec/06, The channel record). -/
abbrev State.IsHighest (s : State) (riders : List EntryIx) (level : Nat) : Prop :=
  (∀ i ∈ riders, ∀ e, s.table[i] = some e → e.level ≤ level) ∧
  (level = 0 ∨ ∃ i ∈ riders, ∃ e, s.table[i] = some e ∧ e.level = level)

end Sys2Proof.Machine
end

