-- ==== Sys2Proof/WellFormed.lean ====
section
/-! DEFINITION. Which terms of Instr stand for something that can happen at the pins or inside the part. -/

namespace Sys2Proof

/-- The number of bytes of a corridor frame after its sync byte: the body its message kind fixes, and two CRC bytes
(R137, R183); kind 3 has the length of kind NONE (R181). -/
def corridorFrameLength (first : Byte) : Nat :=
  match (first.extractLsb' 0 2).toNat with
  | 1 => 15
  | 2 => 6
  | _ => 4

/-- The bytes of a completed corridor frame: as many as its first body byte fixes (R137). -/
def completesFrame : List Byte → Bool
  | [] => false
  | b :: rest => decide ((b :: rest).length = corridorFrameLength b)

/-- A command is well formed: OVERRIDE_HOLD with CLEAR has its own row, and a received corridor frame has the length
its message kind fixes. -/
def Instr.wellFormed : Instr → Bool
  | .overrideHoldSet arg => decide (arg ≠ 0)
  | .corridorFrameReceived _ bytes => completesFrame bytes
  | .powerOnReset _ _ | .startUpIntervalEnd | .transactionStart | .badCommand _ | .null | .readStatus | .readEntry _
  | .readChannel _ | .readPhase | .readLink _ | .readFault | .popOutcomes _ | .clearFaults _
  | .setFaultControl _ _ _ _ | .contain | .release | .stagePlan _ _ _ | .setApproach _ _ _ _ _ _ | .setRoute _ _ _ _
  | .setClass _ | .setPolicy _ _ _ _ _ _ _ _ | .setLink _ _ _ _ _ _ _ _ _ _ | .setIdent _ | .setPins _ _ _ _ _
  | .setEvents _ | .linkBreak _ | .forceGrant _ _ _ | .cancelChannel _ | .overrideHoldClear | .flushTable | .flushVisit
  | .resetCore | .blockReset _ | .planValidationComplete | .characterReceived _ _ _ | .rxBreak _ | .interCharacterGap _
  | .intakeTake | .radioFrameApplication | .handoffJudgement | .loopItem | .staleExpiry _ | .staleCheck
  | .unconfirmedExpiry _ | .expiryCheck | .loopActivation _ | .loopClear _ | .checkoutStuck _ | .greenOnset _
  | .greenDrop _ | .candidateTurn | .runFromTimeReached _ | .remainingReachesZero _ | .deadlineReached _
  | .ovrRecognisedChange | .suspendLimitExpiry | .resumeVisit | .poll _ | .reply _ | .transmissionEnd _
  | .replyWindowClose _ | .corridorFrameCut _ | .silenceTimeout _ | .ackDeadline _ _ | .corridorBreak _
  | .breakSendEnd _ | .settleTimeout | .undecidedCharacterLineHigh _ | .timeBaseDecisecond _ _ _ | .rstLow => true

end Sys2Proof
end

