-- ==== Sys2Proof/Certificates/Slice0/Obligations.lean ====
section
/-! DEFINITION. The statements for the provers. Commands that reach several blocks are stated over the shared operations
`State.cause`, `State.occur`, `State.trigger`, `State.endChannel` and `State.closeEntry`, each of which has a statement
of its own. -/

section ObligationStatements

open Sys2Proof Sys2Proof.Machine

/-! ## The machine as a whole -/

/-- A step runs the command at the front of the queue, on the state with the queue's rest. -/
def Obligations.StepRunsTheFrontCommand : Prop :=
  ∀ (c : Instr) (s : State) (rest : List Instr), step { s with pending := c :: rest } = exec c { s with pending := rest }

/-- No command touches the queue, and only a decisecond, the release of RST and a low RST move the time base
(spec/00_scope.md, Time). -/
def Obligations.CommandsLeaveQueueAndTime : Prop :=
  ∀ (c : Instr) (s t : State), exec c s = .next t →
    t.pending = s.pending ∧
    ((∀ pg chk ovr, c ≠ .timeBaseDecisecond pg chk ovr) → (∀ a b, c ≠ .powerOnReset a b) → c ≠ .rstLow →
      t.time = s.time)

/-- RST low holds the part in reset with its call outputs released, and nothing but RST changes it then (RST_LOW). That
the held state carries the power-on values is the model's choice (assumption 12). -/
def Obligations.RstLowHoldsThePart : Prop :=
  (∀ s : State, ∃ t, exec .rstLow s = .next t ∧ t.held = true ∧ t.port.transaction = none ∧
    (∀ p, t.callDriven p = .released) ∧ (∀ i : EntryIx, t.table[i] = none) ∧ (∀ c : ChannelIx, t.channels[c].live = none)) ∧
  (∀ (c : Instr) (s : State), s.held = true → (∀ a b, c ≠ .powerOnReset a b) → c ≠ .rstLow → exec c s = .next s)

/-- The release of RST completes in every state: it gives the ports the roles of the strap table (R135), opens the
start-up interval (R170), and puts every block and setting at its power-on value (R1, R6, R8, R11, R14 to R16, R18, R41,
R43, R46, R48, R78, R97, R100, R102, R120, R122 to R124, R152, R156, R157, R167, R169, R172, R173, R176 to R178). No port
has a frame, a write, a break or a timer under way, and no recognised change or check waits. -/
def Obligations.PowerOnResetState : Prop :=
  ∀ (s : State) (cpos1 cpos0 : Bool), ∃ t, exec (.powerOnReset cpos1 cpos0) s = .next t ∧
    (t.time = 0 ∧ t.held = false ∧ t.startUpEnd = some 20 ∧ t.identity = 0) ∧
    (t.linkA.settings.role = (if cpos1 then .responder else .off) ∧
      t.linkB.settings.role = (if cpos1 = cpos0 then .off else .poller) ∧
      ∀ p, (t.link p).state = (if (t.link p).settings.role = .off then .off else .syncing) ∧
        (t.link p).settings.rate = .r38400 ∧ (t.link p).settings.pollInterval = 5 ∧
        (t.link p).settings.replyWindow = 2 ∧ (t.link p).settings.missLimit = 3 ∧ (t.link p).settings.silence = 30 ∧
        (t.link p).settings.ackTimeout = 30 ∧ (t.link p).settings.nominal = 0 ∧ (t.link p).settings.tolerance = 100 ∧
        (t.link p).outgoing = [] ∧ (t.link p).awaiting = [] ∧ (t.link p).received = [] ∧ (t.link p).nextId = 0 ∧
        (t.link p).missCount = 0 ∧ (t.link p).peerContained = false ∧ (t.link p).lastPeer = 0 ∧
        (t.link p).acknowledged = false ∧ (t.link p).line = .listening ∧ (t.link p).deferredWrites = [] ∧
        (t.link p).breakWaiting = false ∧ (t.link p).replyDue = false ∧ (t.link p).pollDue = none ∧
        (t.link p).windowClose = none ∧ (t.link p).silenceExpiry = none) ∧
    (∀ r, t.rx r = { enabled := true, rate := .r19200, line := .idle, assembler := .hunt, holding := none }) ∧
    (t.intake.pointer = .loop ∧ t.intake.item = none ∧
      ∀ i : EntryIx, t.table[i] = none ∧ t.intake.staleDue[i] = false ∧ t.intake.expiryDue[i] = false) ∧
    (t.stuckLimit = 300 ∧ ∀ a : Approach, t.loops[a].lastSample = false ∧ t.loops[a].active = false ∧
      t.loops[a].stuckReported = false ∧ t.loops[a].pending = false ∧ t.loops[a].changeAt = none) ∧
    (∀ a : Approach, phaseOfNumber (a.val + 1) = some t.approaches[a].phase ∧
      t.approaches[a] = { enabled := false, link := .rx0, phase := t.approaches[a].phase, entrySide := .none,
                          exitSide := .none, vFree := 120, vFloor := 30, margin := 20, loopUse := false }) ∧
    (t.routes.mode = .openMode ∧ ∀ i : Fin 32,
      t.routes.entries[i] = { route := 0, mask := 0, cap := 0, enabled := false }) ∧
    t.classes = #v[0, 60, 120, 180, 300, 450, 600] ∧
    (t.plans = { active := none, staged := none } ∧ t.tracker = .noPlan ∧
      ∀ i : Fin 6, t.inputs[i] = { lastSample := false, recognised := false, changeAt := none }) ∧
    (t.engine = { pass := none, again := false } ∧ t.account.xcur = 0 ∧ t.account.budgetInForce = 200 ∧
      t.account.budgetLeft = 200 ∧ ∀ k : Fin 6, t.account.charge[k] = 0 ∧ t.account.debt[k] = 0) ∧
    t.policy = { budget := 200, debtCap := 600, repay := 100, aMin := 30, advTol := 50, horizon := 900, tStale := 150,
                 preemption := true } ∧
    (∀ c : ChannelIx, t.channels[c] = { live := none, lastEnd := none }) ∧
    t.pins = { drive := .pushPull, edge := .rising, filter := 5, suspendLimit := 600, stuckLimit := 300 } ∧
    t.ovr = { recognised := false, runCount := 0, changeAt := none, hold := false, state := .inactive,
              suspendExpiry := none } ∧
    t.faults = { status := 0, mask := 0, severity := 0xE000, pointer := none,
                 record := { valid := false, kind := .rx0Framing, time := 0, source := .none, vehicle := none } } ∧
    t.containment = { state := .normal, enable := true, settleTimeout := 1800 } ∧
    (t.port.transaction = none ∧ t.port.shortSlot = none ∧ t.port.longSlot = none ∧ t.port.command = .idle ∧ t.port.collision = false ∧
      t.port.outcomes = [] ∧ t.port.enables = 0x7F ∧ t.eventBits = 0)

/-- The start-up interval's end (R152, R170): the call outputs take their drive, a poller's first POLL falls due unless it
is in ROLE_FAULT, where it sends nothing (R142), and a responder's silence timer starts; nothing else changes. That a
silence timer started already, by a POLL heard in the interval or by the role write of a break in it, is kept, that a
responder that has gone DOWN starts none, and that a break moves no poller's first POLL, are the model's choices
(assumption 23). -/
def Obligations.StartUpIntervalEnds : Prop :=
  ∀ (s : State) (e : Time), s.held = false → s.startUpEnd = some e → atOrAfter s.time e = true →
    ∃ t, exec .startUpIntervalEnd s = .next t ∧
      t = { s with startUpEnd := none, linkA := t.linkA, linkB := t.linkB } ∧
      (∀ p, (s.link p).settings.role = .off → t.link p = s.link p) ∧
      (∀ p, (s.link p).settings.role = .poller →
        let sends : Prop := (s.link p).state = .syncing ∨ (s.link p).state = .up ∨ (s.link p).state = .down
        (sends → t.link p = { s.link p with pollDue := some s.time }) ∧ (¬ sends → t.link p = s.link p)) ∧
      (∀ p, (s.link p).settings.role = .responder →
        let waits : Prop := ((s.link p).state = .syncing ∨ (s.link p).state = .up) ∧ (s.link p).silenceExpiry = none
        (waits →
          t.link p = { s.link p with silenceExpiry := some (timePlus s.time (s.link p).settings.silence) }) ∧
        (¬ waits → t.link p = s.link p)) ∧
      (∀ ph, t.callDriven ph =
        if t.callActive ph then .high else if s.pins.drive = .pushPull then .low else .released)

/-- RESET_CORE is accepted in every command state: the port empties its queue, events, flag and slots, and every block
has its reset to take (R173, R174). -/
def Obligations.ResetCoreIsAccepted : Prop :=
  ∀ s : State, s.Takes →
    exec .resetCore s = .next { s with port := { s.port with
      transaction := none, shortSlot := none, longSlot := none, collision := false, outcomes := []
      command := .resetCore [.rx .rx0, .rx .rx1, .intake, .table, .tracker, .engine, .channels, .overrideMonitor,
        .link .linkA, .link .linkB, .faults]
      events := { ovf := false, flt := false, cnt := false, done := false, plan := false, ovr := false } } }

/-- Each block takes its reset once, and RESET_CORE completes with the last (R174): the receive links (R6), intake and
the loops (R8, R15), the table (R42), the tracker (R61), the engine (R78, R97), the channels (R102), the override
monitor (R133), the ports (R152) and the recorder with containment (R167). Settings are kept. That a block takes its
reset once and the sender gives the order (assumptions 3, 14), what the ports' waiting writes do (assumption 6), and that
the silence timer starts with the timeout then in force (assumption 35), and that a change of a loop or of OVR which waits
for its row is discarded and one of a phase green input kept (assumption 16), are the model's choices. -/
def Obligations.BlocksTakeTheirReset : Prop :=
  ∀ (s : State) (left : List Block), s.held = false → s.port.command = .resetCore left →
    let rest (b : Block) := left.filter fun c => decide (c ≠ b)
    (∀ b, b ∉ left → exec (.blockReset b) s = .next s) ∧
    (∀ r, .rx r ∈ left → exec (.blockReset (.rx r)) s =
      .next (State.afterBlock
        (s.setRx r { s.rx r with line := .idle, assembler := .hunt, holding := none }) (rest (.rx r)))) ∧
    (.intake ∈ left → ∃ t, exec (.blockReset .intake) s = .next t ∧
      t = State.afterBlock { s with intake := { s.intake with pointer := .loop, item := none }, loops := t.loops }
        (rest .intake) ∧
      ∀ a : Approach, t.loops[a].lastSample = false ∧ t.loops[a].active = false ∧ t.loops[a].stuckReported = false ∧
        t.loops[a].pending = false ∧ t.loops[a].changeAt = none) ∧
    (.table ∈ left → ∃ t, exec (.blockReset .table) s = .next t ∧
      t = State.afterBlock { s with table := t.table, intake := t.intake } (rest .table) ∧
      t.intake.pointer = s.intake.pointer ∧ t.intake.item = s.intake.item ∧
      ∀ i : EntryIx, t.table[i] = none ∧ t.intake.staleDue[i] = false ∧ t.intake.expiryDue[i] = false) ∧
    (.tracker ∈ left → exec (.blockReset .tracker) s =
      .next (State.afterBlock { s with
        plans := { s.plans with staged := none }
        tracker := if s.plans.active = none then .noPlan else .unsynced
        engine := { pass := none, again := false } } (rest .tracker))) ∧
    (.engine ∈ left → ∃ t, exec (.blockReset .engine) s = .next t ∧
      t = State.afterBlock { s with engine := { pass := none, again := false }, account := t.account }
        (rest .engine) ∧
      t.account.xcur = 0 ∧ t.account.budgetInForce = s.policy.budget ∧ t.account.budgetLeft = s.policy.budget ∧
      ∀ k : Fin 6, t.account.charge[k] = 0 ∧ t.account.debt[k] = 0) ∧
    (.channels ∈ left → ∃ t, exec (.blockReset .channels) s = .next t ∧
      t = State.afterBlock { s with channels := t.channels } (rest .channels) ∧
      ∀ c : ChannelIx, t.channels[c] = { live := none, lastEnd := none }) ∧
    (.overrideMonitor ∈ left → exec (.blockReset .overrideMonitor) s =
      .next (State.afterBlock { s with ovr :=
        { recognised := false, runCount := 0, changeAt := none, hold := false, state := .inactive,
          suspendExpiry := none } } (rest .overrideMonitor))) ∧
    (∀ p, .link p ∈ left → ∃ t, exec (.blockReset (.link p)) s = .next t ∧
      t = State.afterBlock { s.setLink p (t.link p) with freeIndex := s.freeIndex + 1 } (rest (.link p)) ∧
      ((t.link p).settings = (s.link p).settings ∨ (s.link p).deferredWrites.getLast? = some (t.link p).settings) ∧
      (t.link p).state = (if (t.link p).settings.role = .off then .off else .syncing) ∧ (t.link p).outgoing = [] ∧
      (t.link p).awaiting = [] ∧ (t.link p).received = [] ∧ (t.link p).nextId = 0 ∧ (t.link p).missCount = 0 ∧
      (t.link p).peerContained = false ∧ (t.link p).lastPeer = 0 ∧ (t.link p).acknowledged = false ∧
      (t.link p).line = .listening ∧ (t.link p).deferredWrites = [] ∧ (t.link p).breakWaiting = false ∧
      (t.link p).replyDue = false ∧ (t.link p).windowClose = none ∧
      (t.link p).pollDue = (if (t.link p).settings.role = .poller then some s.time else none) ∧
      (t.link p).silenceExpiry = (if (t.link p).settings.role = .responder
        then some (timePlus s.time (t.link p).settings.silence) else none)) ∧
    (.faults ∈ left → ∃ t, exec (.blockReset .faults) s = .next t ∧
      t = State.afterBlock { s with faults := t.faults, containment := { s.containment with state := .normal } }
        (rest .faults) ∧
      t.faults = { s.faults with
        status := 0, pointer := none
        record := { valid := false, kind := .rx0Framing, time := 0, source := .none, vehicle := none } })

/-! ## The controller port -/

/-- The falling edge of SCS: NOT_READY in the start-up interval with the slots untouched (R170); afterwards the short
slot, the long slot, PENDING or the empty response, the slot it comes from becoming empty (R169). NULL writes no response
and has no effect but to end the transaction (R169, R179); a frame that cannot be read is answered BAD_COMMAND with the
code received, or NULL's where none was, in every command state (R168, R173). The response frame is echo, result coded 0
to 7, data length and data (R184); while SCS is low SDO carries its bytes, then 0, each most significant bit first, and
while it is high nothing (R168). -/
def Obligations.TransactionsChooseResponses : Prop :=
  (∀ s : State, s.held = false → s.port.transaction = none →
    let opened (p : ControllerPort) (r : Response) (discard : Bool) : State :=
      { s with port := { p with transaction := some { response := r, discard } } }
    let empty : Response := { echo := 0x00, result := .ok, data := [] }
    (∀ e, s.startUpEnd = some e →
      exec .transactionStart s = .next (opened s.port { echo := 0x00, result := .notReady, data := [] } true)) ∧
    (∀ r, s.startUpEnd = none → s.port.shortSlot = some r →
      exec .transactionStart s = .next (opened { s.port with shortSlot := none } r false)) ∧
    (∀ r, s.startUpEnd = none → s.port.shortSlot = none → s.port.longSlot = some r →
      exec .transactionStart s = .next (opened { s.port with longSlot := none } r false)) ∧
    (s.startUpEnd = none → s.port.shortSlot = none → s.port.longSlot = none →
      (s.port.command = .idle → exec .transactionStart s = .next (opened s.port empty false)) ∧
      (∀ raw, s.port.command = .stagePlan raw → exec .transactionStart s =
        .next (opened s.port { echo := 0x20, result := .pending, data := [] } false)) ∧
      (∀ i n, s.port.command = .flushTable i n → exec .transactionStart s =
        .next (opened s.port { echo := 0x34, result := .pending, data := [] } false)) ∧
      (∀ left, s.port.command = .resetCore left → exec .transactionStart s =
        .next (opened s.port { echo := 0x3F, result := .pending, data := [] } false)))) ∧
  (∀ s : State, s.held = false → exec .null s = .next { s with port := { s.port with transaction := none } }) ∧
  (∀ s : State, s.Takes → (∀ code, exec (.badCommand (some code)) s = .next (s.replied code .badCommand [])) ∧
    exec (.badCommand none) s = .next (s.replied 0x00 .badCommand [])) ∧
  (∀ r : Response, responseFrame r =
    [r.echo, BitVec.ofNat 8 ([ResultCode.ok, .pending, .collided, .badCommand, .badArg, .badState, .notFound,
      .notReady].idxOf r.result), BitVec.ofNat 8 r.data.length] ++ r.data) ∧
  (∀ (s : State) (n : Nat),
    (s.port.transaction = none → s.sdoByte n = none ∧ s.sdoBit n = none) ∧
    (∀ t, s.port.transaction = some t →
      (n < (responseFrame t.response).length → s.sdoByte n = (responseFrame t.response)[n]?) ∧
      ((responseFrame t.response).length ≤ n → s.sdoByte n = some 0) ∧
      ∀ k : Fin 8, s.sdoBit (8 * n + k.val) = (s.sdoByte n).map fun b => b.getLsbD (7 - k.val)))

/-- READ_STATUS is served in either command state: it answers the status record as captured and clears the six sticky
events and the collision flag, and no more (R173, R175). The other reads answer the record captured and change nothing
(R41, R62, R121, R153, R166), but that READ_LINK sets the acknowledged flag of a port it reports in ROLE_FAULT (R143); a
name out of range is BAD_ARG. What a FREE entry's record holds is the model's choice (assumption 9). -/
def Obligations.ReadsAnswerRecords : Prop :=
  (∀ s : State, s.Takes →
    exec .readStatus s = .next (State.replied { s with port := { s.port with
      collision := false
      events := { ovf := false, flt := false, cnt := false, done := false, plan := false, ovr := false } } }
      0x01 .ok s.statusRecord)) ∧
  ∀ s : State, s.Serves →
    (∀ i : EntryIx, exec (.readEntry (BitVec.ofNat 8 i.val)) s =
      .next (s.replied 0x02 .ok (entryRecord i s.table[i]))) ∧
    (∀ b : Byte, 16 ≤ b.toNat → exec (.readEntry b) s = .next (s.replied 0x02 .badArg [])) ∧
    (∀ c : ChannelIx, exec (.readChannel (BitVec.ofNat 8 c.val)) s =
      .next (s.replied 0x03 .ok (channelRecord c s.channels[c] s.callBits))) ∧
    (∀ b : Byte, 4 ≤ b.toNat → exec (.readChannel b) s = .next (s.replied 0x03 .badArg []) ∧
      exec (.readLink b) s = .next (s.replied 0x05 .badArg [])) ∧
    exec .readPhase s = .next (s.replied 0x04 .ok s.phaseRecord) ∧
    exec .readFault s = .next (s.replied 0x06 .ok s.faultRecordBytes) ∧
    exec (.readLink 0) s = .next (s.replied 0x05 .ok (rxRecord .rx0 s.rx0)) ∧
    exec (.readLink 1) s = .next (s.replied 0x05 .ok (rxRecord .rx1 s.rx1)) ∧
    (∀ p b, b = (if p = .linkA then 2 else 3 : Byte) →
      ((s.link p).state ≠ .roleFault →
        exec (.readLink b) s = .next (s.replied 0x05 .ok (portRecord p (s.link p)))) ∧
      ((s.link p).state = .roleFault → exec (.readLink b) s =
        .next ((s.setLink p { s.link p with acknowledged := true }).replied 0x05 .ok (portRecord p (s.link p)))))

/-- Every record has the size and the fields its layout gives, in order, each with its code: the outcome record of 18
bytes (R185), the entry record of 41, the channel record of 48, the phase record of 61, the link records of 52 and 4, the
status record of 15 and the fault record of 29 (R186). A field of two or four bytes goes high byte first, a flag stands
at its bit, an absent field is 0, and places past a list's end are 0 (R180, R186). That the unused bits of a flag, level
or event byte are 0 (assumption 39), and that a FREE entry's record carries its index (assumption 9), are the model's
choices. -/
def Obligations.RecordsHaveTheirSizes : Prop :=
  (∀ r : OutcomeRecord, (outcomeBytes r).length = 18) ∧
  (∀ i e, (entryRecord i e).length = 41) ∧
  (∀ c ch calls, (channelRecord c ch calls).length = 48) ∧
  (∀ s : State, s.phaseRecord.length = 61) ∧
  (∀ p x, (portRecord p x).length = 52) ∧
  (∀ r x, (rxRecord r x).length = 4) ∧
  (∀ s : State, s.statusRecord.length = 15) ∧
  (∀ s : State, s.faultRecordBytes.length = 29) ∧
  (let byte (n : Nat) : Byte := BitVec.ofNat 8 n
   let two (n : Nat) : List Byte := [byte (n / 256), byte n]
   let signed (x : Int) : List Byte := [BitVec.ofInt 8 (x / 256), BitVec.ofInt 8 x]
   let three (m : BitVec 19) : List Byte := [byte (m.toNat / 65536), byte (m.toNat / 256), byte m.toNat]
   let four (t : Time) : List Byte :=
     [byte (t.toNat / 16777216), byte (t.toNat / 65536), byte (t.toNat / 256), byte t.toNat]
   let bits (fs : List Bool) : Byte := byte (fs.foldr (fun b n => 2 * n + if b then 1 else 0) 0)
   let flag (b : Bool) : Byte := if b then 1 else 0
   let mark (m : ActionMark) : Byte := byte ([ActionMark.none, .extend, .advance].idxOf m)
   let phases : List Phase := [.p1, .p2, .p3, .p4, .p5, .p6]
   let notes : List Note := [.denied .noneNeeded, .denied .far, .denied .noPhase, .denied .nextCycle, .denied .extLimit,
     .denied .advShort, .denied .budget, .denied .capacity, .denied .conflict, .denied .noChannel, .denied .ridersFull,
     .ended .complete, .ended .greenEnded, .ended .missed, .ended .released, .ended .cancelled, .ended .preempted,
     .ended .unsynced, .ended .planChange, .ended .contained, .ended .overridden, .ended .overrideLong]
   let kinds : List FaultKind := [.rx0Framing, .rx0Overrun, .rx0Check, .rx1Framing, .rx1Overrun, .rx1Check, .rxSource,
     .linkADown, .linkARole, .linkACrc, .linkBDown, .linkBRole, .linkBCrc, .phaseConflict, .sequenceBreak, .planMissing,
     .cycleLength, .advMissed, .checkoutStuck]
   let kindOr31 (k : Option FaultKind) : Byte := k.elim 31 fun k => byte (kinds.idxOf k)
   let tracker (x : Tracker) : Byte := match x with
     | .noPlan => 0
     | .unsynced => 1
     | .inStep _ => 2
   let calls (s : State) : Byte := bits (phases.map s.callActive)
   (∀ r : OutcomeRecord,
     let head (kind reason sub : Byte) : List Byte := kind :: (four r.time ++ two r.vehicle.toNat ++ two r.route.toNat ++
       [byte r.approach.val, reason, sub, byte r.level])
     (∀ why act total, r.body = .closed why act total .radio → outcomeBytes r =
       head 0 (byte ([CloseReason.servedRadio, .servedLoop, .cancelled, .stale, .unconfirmedExpired, .evicted,
         .flushed].idxOf why)) 0 ++ mark act :: (two total ++ [0, 0])) ∧
     (∀ why act total id, r.body = .closed why act total (.handoff id) → outcomeBytes r =
       head 0 (byte ([CloseReason.servedRadio, .servedLoop, .cancelled, .stale, .unconfirmedExpired, .evicted,
         .flushed].idxOf why)) 0 ++ mark act :: (two total ++ [1, id])) ∧
     (∀ why, r.body = .rejected why → outcomeBytes r =
       head 1 (byte ([RejectReason.route, .approach, .full].idxOf why)) 0 ++ [0, 0, 0, 0, 0]) ∧
     (∀ a, r.body = .handoff (.acked a) → outcomeBytes r =
       head 2 (byte ([AckResult.accepted, .duplicate, .full, .noApproach, .route].idxOf a)) 0 ++ [0, 0, 0, 0, 0]) ∧
     (r.body = .handoff .unconfirmed → outcomeBytes r = head 2 5 0 ++ [0, 0, 0, 0, 0]) ∧
     (∀ why, r.body = .handoff (.notSent why) → outcomeBytes r =
       head 2 6 (byte ([NotSent.noExit, .linkNotUp, .peerContained, .queueFull].idxOf why + 1)) ++ [0, 0, 0, 0, 0])) ∧
   (∀ i : EntryIx, entryRecord i none = byte i.val :: List.replicate 40 0) ∧
   (∀ (i : EntryIx) (e : Entry),
     let channel : Option ChannelIx := match e.state with
       | .granted c => some c
       | _ => none
     let origin : Option Byte := match e.origin with
       | .handoff id => some id
       | .radio => none
     entryRecord i (some e) =
       [byte i.val, if e.state = .tracking then 1 else if e.state = .pending then 2 else 3] ++ two e.vehicle.toNat ++
       two e.route.toNat ++ [byte e.approach.val, byte e.level] ++ signed e.lateness ++ [byte e.seq.toNat] ++
       two e.distance ++ two e.speed ++
       [bits [e.confirmed, origin.isSome, e.stopFlag, e.note.isSome, channel.isSome]] ++ two e.dwell ++
       four e.lastUpdate ++ four e.windowE ++ four e.windowL ++
       [origin.getD 0, mark e.wanted, e.note.elim 0 fun n => byte (notes.idxOf n + 1),
         channel.elim 0 fun c => byte c.val, mark e.lastAction] ++ two e.grantedTotal ++ four e.created) ∧
   (∀ (c : ChannelIx) (x : Channel) (pc : Byte),
     let lastEnd : List Byte := x.lastEnd.elim [0, 0, 0, 0, 0] fun z => byte (notes.idxOf (.ended z.1) + 1) :: four z.2
     (x.live = none → channelRecord c x pc =
       [byte c.val, 0, bits [false, x.lastEnd.isSome]] ++ List.replicate 39 0 ++ lastEnd ++ [pc]) ∧
     (∀ l, x.live = some l →
       let state : List Byte := match l.run with
         | .armed => [1, 0]
         | .running => [2, 0]
         | .suspended .armed => [3, 1]
         | .suspended .running => [3, 2]
       let action : Byte × Nat × Time := match l.action with
         | .extend remaining runFrom => (1, remaining, runFrom)
         | .advance deadline => (2, 0, deadline)
       let riders : List Byte := l.riders.map fun i => byte i.val
       let pairs : List (List Byte) := l.charges.map fun q => byte q.1.val :: two q.2
       channelRecord c x pc =
         [byte c.val, state.getD 0 0, bits [decide (state.getD 1 0 ≠ 0), x.lastEnd.isSome], action.1, byte l.slot.val,
           byte (phases.idxOf l.phase + 1), if l.cause = .decision then 0 else 1] ++ two l.amount ++ two action.2.1 ++
         four action.2.2 ++ [byte l.riders.length] ++ (riders ++ [0, 0, 0, 0]).take 4 ++
         [byte l.charges.length] ++
         ((pairs ++ List.replicate 5 [0, 0, 0]).take 5).flatten ++
         [byte l.level] ++ four l.grantTime ++ [state.getD 1 0] ++ lastEnd ++ [pc])) ∧
   (∀ s : State,
     let step : Option StepRecord := match s.tracker with
       | .inStep r => some r
       | _ => none
     let drop : Option Time := step.bind fun r => match r.period with
       | .green => none
       | .clearance d => some d
     let plan (p : Option Plan) : List Byte := p.elim [0, 0, 0] fun p => two p.cycle ++ [byte p.slots.length]
     let phase : Byte := match s.plans.active, step with
       | some p, some r => byte (phases.idxOf (slotAt p r.cur).phase + 1)
       | _, _ => 0
     let staging : Bool := match s.port.command with
       | .stagePlan _ => true
       | _ => false
     let charge (k : Fin 6) : Nat := s.plans.active.elim 0 fun p => if k.val < p.slots.length then s.account.charge[k] else 0
     s.phaseRecord =
       [tracker s.tracker, bits [step.isSome, step.isSome, drop.isSome, step.isSome, s.plans.active.isSome,
         s.plans.staged.isSome, staging], step.elim 0 fun r => byte r.cur.val,
         phase, flag drop.isSome] ++ four ((step.map (·.onset)).getD 0) ++ four (drop.getD 0) ++
       four ((step.map (·.lastBoundary)).getD 0) ++
       [bits [s.inputs[0].recognised, s.inputs[1].recognised, s.inputs[2].recognised, s.inputs[3].recognised,
         s.inputs[4].recognised, s.inputs[5].recognised]] ++ plan s.plans.active ++ plan s.plans.staged ++
       [bits [s.engine.pass.isSome, s.engine.again]] ++ two s.account.budgetInForce ++ two s.policy.budget ++
       two s.account.budgetLeft ++ two (charge 0) ++ two (charge 1) ++ two (charge 2) ++ two (charge 3) ++
       two (charge 4) ++ two (charge 5) ++ two s.account.xcur ++ two s.account.debt[0] ++ two s.account.debt[1] ++
       two s.account.debt[2] ++ two s.account.debt[3] ++ two s.account.debt[4] ++ two s.account.debt[5] ++
       two s.policy.debtCap ++ two s.policy.repay) ∧
   (∀ (p : PortId) (x : CorridorPort),
     let outgoing : List (List Byte) := x.outgoing.map fun m => match m with
       | .handoff h _ _ _ => [1, h.id]
       | .ack id _ => [2, id]
     let awaiting : List (List Byte) := x.awaiting.map fun i => i.id :: four i.deadline
     portRecord p x =
     [if p = .linkA then 2 else 3, byte ([Role.off, .poller, .responder].idxOf x.settings.role),
       byte ([LinkState.off, .syncing, .up, .down, .roleFault].idxOf x.state),
       byte ([LineRate.r9600, .r19200, .r38400, .r115200].idxOf x.settings.rate)] ++ two x.settings.pollInterval ++
     two x.settings.replyWindow ++ [byte x.settings.missLimit] ++ two x.settings.silence ++ two x.settings.ackTimeout ++
     two x.settings.nominal ++ two x.settings.tolerance ++
     [bits [x.peerContained, decide (x.line = .sendingBreak)], x.lastPeer, byte x.missCount, x.nextId,
       byte x.outgoing.length] ++
     ((outgoing ++ List.replicate 4 [0, 0]).take 4).flatten ++ [byte x.awaiting.length] ++
     ((awaiting ++ List.replicate 4 [0, 0, 0, 0, 0]).take 4).flatten ++
     [byte x.received.length]) ∧
   (∀ (r : RxId) (x : RxLink), rxRecord r x =
     [if r = .rx0 then 0 else 1, flag x.enabled, byte ([LineRate.r9600, .r19200, .r38400, .r115200].idxOf x.rate),
       flag x.holding.isSome]) ∧
   (∀ s : State,
     let running : Byte := match s.port.command with
       | .idle => 0
       | .stagePlan _ => 0x20
       | .flushTable _ _ => 0x34
       | .resetCore _ => 0x3F
     let override : Byte := match s.ovr.state with
       | .inactive => 0
       | .active => 1
       | .resuming _ => 2
     let contained : Byte := match s.containment.state with
       | .normal => 0
       | .settling _ _ => 1
       | .held _ => 2
     let reason : List Byte := match s.containment.state with
       | .normal => [0, 31]
       | .settling (.fault k) _ | .held (.fault k) => [1, byte (kinds.idxOf k)]
       | .settling .software _ | .held .software => [2, 31]
     let settle : Option Time := match s.containment.state with
       | .settling _ t => some t
       | _ => none
     let source : Byte := match s.faults.record.source with
       | .none => 0
       | .rx .rx0 => 1
       | .rx .rx1 => 2
       | .link .linkA => 3
       | .link .linkB => 4
       | .approach a => byte (8 + a.val)
     s.callBits = calls s ∧
     s.eventBits = bits [decide (s.port.outcomes ≠ []), s.port.events.ovf, s.port.events.flt, s.port.events.cnt,
       s.port.events.done, s.port.events.plan, s.port.events.ovr] ∧
     s.statusRecord = four s.time ++ [if s.port.command = .idle then 0 else 1, running,
       bits [s.port.longSlot.isSome, s.port.collision], s.eventBits, byte s.port.enables.toNat,
       byte s.port.outcomes.length, contained, tracker s.tracker, override,
       bits [s.ovr.recognised, s.ovr.hold, s.ovr.suspendExpiry.isSome], kindOr31 s.faults.pointer] ∧
     s.faultRecordBytes = three s.faults.status ++ three s.faults.mask ++ three s.faults.severity ++
       [kindOr31 s.faults.pointer, bits [s.faults.record.valid, s.faults.record.vehicle.isSome, settle.isSome],
         byte (kinds.idxOf s.faults.record.kind)] ++ four s.faults.record.time ++ [source] ++
       two ((s.faults.record.vehicle.map (·.toNat)).getD 0) ++ [contained] ++ reason ++ four (settle.getD 0) ++
       [flag s.containment.enable] ++ two s.containment.settleTimeout))

/-- POP_OUTCOMES removes the oldest records, up to a count from 1 to 4, and answers their number and the records oldest
first; any other count is BAD_ARG (R176). A push appends its record while fewer than 32 are held, and else the record is
lost, the queue unchanged and OVF raised (R176). -/
def Obligations.PopOutcomesTakesTheOldest : Prop :=
  (∀ (s : State) (b : Byte), s.Serves →
    (1 ≤ b.toNat → b.toNat ≤ 4 → exec (.popOutcomes b) s =
      .next (State.replied { s with port := { s.port with outcomes := s.port.outcomes.drop b.toNat } } 0x07 .ok
        (BitVec.ofNat 8 (min b.toNat s.port.outcomes.length) ::
          ((s.port.outcomes.take b.toNat).map outcomeBytes).flatten))) ∧
    ((b.toNat = 0 ∨ 5 ≤ b.toNat) → exec (.popOutcomes b) s = .next (s.replied 0x07 .badArg []))) ∧
  (∀ (s : State) (r : OutcomeRecord),
    (s.port.outcomes.length < 32 →
      s.pushOutcome r = { s with port := { s.port with outcomes := s.port.outcomes ++ [r] } }) ∧
    (32 ≤ s.port.outcomes.length →
      s.pushOutcome r = { s with port := { s.port with events := { s.port.events with ovf := true } } }))

/-- While a long command runs, every command of the port but NULL, READ_STATUS and RESET_CORE is answered COLLIDED and
sets the collision flag, whatever its arguments (R173). The echo is the code of the command's frame (R184). A command
whose transaction began in the start-up interval is discarded without being judged (R170). -/
def Obligations.CommandsTurnedAway : Prop :=
  (∀ (c : Instr) (s : State) (code : Byte) (rest : List Byte), s.Takes → s.port.command ≠ .idle →
    encodeFrame c = some (code :: rest) → code ≠ 0x00 → code ≠ 0x01 → code ≠ 0x3F →
    exec c s = .next (State.replied { s with port := { s.port with collision := true } } code .collided [])) ∧
  (∀ (c : Instr) (s : State) (r : Response), s.held = false →
    s.port.transaction = some { response := r, discard := true } →
    (encodeFrame c ≠ none ∨ ∃ code, c = .badCommand code) →
    exec c s = .next { s with port := { s.port with transaction := none } })

/-! ## Encodings -/

/-- The frame of every controller command reads as that command, from its bytes and from the bits SDI carries, most
significant first: no bit of an argument is dropped, bytes after the frame are ignored, and a byte that the transaction
ends partway through is discarded (R168, R184). -/
def Obligations.CommandFramesRoundTrip : Prop :=
  (∀ (c : Instr) (frame extra : List Byte), c.wellFormed = true → encodeFrame c = some frame →
    decodeFrame (frame ++ extra) = c ∧
    ∀ cut : List Bool, cut.length < 8 →
      decodeBits (((frame ++ extra).flatMap fun b =>
        (List.range 8).map fun k => b.getLsbD (7 - k)) ++ cut) = c) ∧
  ∀ (bytes : List Byte) (cut : List Bool), cut.length < 8 →
    wholeBytes ((bytes.flatMap fun b => (List.range 8).map fun k => b.getLsbD (7 - k)) ++ cut) = bytes

/-- A corridor frame that a port sends is received whole and valid by its peer, its length is the one its message kind
fixes, and every field is read as it was sent, for every lateness, nominal and tolerance a message can carry (R137, R138,
R183). -/
def Obligations.CorridorFramesRoundTrip : Prop :=
  ∀ f : OutFrame,
    (∀ m a level ackTimeout, f.msg = some (.handoff m a level ackTimeout) →
      -32768 ≤ m.lateness ∧ m.lateness ≤ 32767 ∧ m.nominal < 65536 ∧ m.tolerance < 65536) →
    completesFrame (frameBytes f) = true ∧ receiveFrame (frameBytes f) = .valid f.asReceived

/-! ## Operations that several commands share -/

/-- An evaluation cause (R80, R82): in a pass it sets the again-flag; with the running condition it starts a pass over
exactly the candidates of the table, sorted by level, A_e*, approach and index, and an empty pass ends as it starts; else
it is dropped. -/
def Obligations.CauseStartsASortedPass : Prop :=
  ∀ s : State,
    (s.engine.pass ≠ none → s.cause = { s with engine := { s.engine with again := true } }) ∧
    (s.engine.pass = none → ¬ s.RunningCondition → s.cause = s) ∧
    (s.engine.pass = none → s.RunningCondition → ∃ l : List (EntryIx × Vehicle),
      s.cause = { s with engine := { pass := if l = [] then none else some l, again := false } } ∧
      (∀ i v, (i, v) ∈ l ↔ ∃ e, s.table[i] = some e ∧ e.vehicle = v ∧
        ((e.state = .tracking ∨ e.state = .pending) ∧ 1 ≤ e.level ∧ s.approaches[e.approach].enabled = true ∨
          ∃ c ch remaining runFrom, e.state = .granted c ∧ s.channels[c].live = some ch ∧ i ∈ ch.riders ∧
            ch.action = .extend remaining runFrom)) ∧
      l.Pairwise fun x y => ∀ e f, s.table[x.1] = some e → s.table[y.1] = some f →
        f.level < e.level ∨ f.level = e.level ∧
          (isLater (laterOf f.windowE s.time) (laterOf e.windowE s.time) = true ∨
            laterOf f.windowE s.time = laterOf e.windowE s.time ∧
              (e.approach < f.approach ∨ e.approach = f.approach ∧ x.1 < y.1)))

/-- An occurrence at the fault recorder (R154, R157, R159): the status is set; a masked kind does nothing more; an
unmasked one raises FLT, takes the pointer with the whole record only while it is NONE, and with severity CONTAIN is a
trigger. -/
def Obligations.OccurrenceIsRecorded : Prop :=
  ∀ (s : State) (k : FaultKind) (src : FaultSource) (v : Option Vehicle),
    let status := s.faults.status ||| kindMap k
    let recorded : State := { s with
      faults := { s.faults with
        status
        pointer := if s.faults.pointer = none then some k else s.faults.pointer
        record := if s.faults.pointer = none then { valid := true, kind := k, time := s.time, source := src, vehicle := v }
          else s.faults.record }
      port := { s.port with events := { s.port.events with flt := true } } }
    kindBit status k = true ∧ (∀ j, j ≠ k → kindBit status j = kindBit s.faults.status j) ∧
    (kindBit s.faults.mask k = true → s.occur k src v = { s with faults := { s.faults with status } }) ∧
    (kindBit s.faults.mask k = false → kindBit s.faults.severity k = false → s.occur k src v = recorded) ∧
    (kindBit s.faults.mask k = false → kindBit s.faults.severity k = true →
      s.occur k src v = recorded.trigger (.fault k))

/-- A containment trigger (R160, R161): it is ignored with the enable OFF and outside NORMAL; else every live channel
ends with CONTAINED at this time with its refund, its riders return to TRACKING with that note, the state is SETTLING with
the reason and the settle timer's expiry, any pass is stopped and CNT is raised. The order of the channels' ends and of the blocks
is the model's choice (assumption 4). -/
def Obligations.TriggerContains : Prop :=
  ∀ (s : State) (reason : ContainReason),
    (s.containment.enable = false ∨ s.containment.state ≠ .normal → s.trigger reason = s) ∧
    (s.containment.enable = true → s.containment.state = .normal → ∃ t, s.trigger reason = t ∧
      t = { s with
        containment := { s.containment with state := .settling reason (timePlus s.time s.containment.settleTimeout) }
        engine := { pass := none, again := false }
        port := { s.port with events := { s.port.events with cnt := true } }
        channels := t.channels, table := t.table, account := t.account } ∧
      t = { State.endingThose { s with containment := t.containment, engine := t.engine } (fun _ => true)
              (fun _ => .contained) with port := t.port } ∧
      (∀ (c : ChannelIx) l, s.channels[c].live = some l → t.channels[c] = { live := none, lastEnd := some (.contained, s.time) }) ∧
      (∀ c : ChannelIx, s.channels[c].live = none → t.channels[c] = s.channels[c]) ∧
      (∀ (i : EntryIx) e, s.table[i] = some e → (∃ (c : ChannelIx) (l : LiveChannel), s.channels[c].live = some l ∧ i ∈ l.riders) →
        t.table[i] = some { e with state := .tracking, note := some (.ended .contained) }) ∧
      (∀ i : EntryIx, (∀ (c : ChannelIx) l, s.channels[c].live = some l → i ∉ l.riders) → t.table[i] = s.table[i]))

/-- The end of a live channel (R113): it becomes IDLE with the reason and time as its last end, its riders return to
TRACKING with the reason as note, and a cause reaches the engine. The refund (R114, R115): an ADVANCE, COMPLETE and
PLAN_CHANGE leave the account alone; any other end of an EXTEND gives its remaining time back to the budget and to the
slots and phases of its charge list, from the last pair backwards (R98, R115), and takes it off x_cur unless an onset has
moved the current slot. That every rider listed returns to TRACKING (assumption 30), that x_cur falls also where the
extension ends outside IN_STEP (assumption 28), and that no slot gives back more than it is charged (assumption 13), are
the model's choices. -/
def Obligations.ChannelEnds : Prop :=
  ∀ (s : State) (c : ChannelIx) (l : LiveChannel) (r : EndReason), s.channels[c].live = some l →
    ∃ t, s.endChannel c r = State.cause t ∧
      t = { s with account := t.account, table := t.table, channels := t.channels } ∧
      t.channels[c] = { live := none, lastEnd := some (r, s.time) } ∧
      (∀ d, d ≠ c → t.channels[d] = s.channels[d]) ∧
      (∀ (i : EntryIx) e, i ∈ l.riders → s.table[i] = some e →
        t.table[i] = some { e with state := .tracking, note := some (.ended r) }) ∧
      (∀ i : EntryIx, i ∉ l.riders ∨ s.table[i] = none → t.table[i] = s.table[i]) ∧
      ((∃ d, l.action = .advance d) ∨ r = .complete ∨ r = .planChange ∨ s.plans.active = none → t.account = s.account) ∧
      (∀ remaining runFrom p, l.action = .extend remaining runFrom → r ≠ .complete → r ≠ .planChange →
        s.plans.active = some p →
        let refunded := refundAll p s.account l.charges remaining
        ((∃ g, s.tracker = .inStep g ∧ g.cur ≠ l.slot) → t.account = refunded) ∧
        ((∀ g, s.tracker = .inStep g → g.cur = l.slot) →
          t.account = { refunded with xcur := s.account.xcur - remaining })) ∧
      (∀ remaining runFrom p, l.action = .extend remaining runFrom → r ≠ .complete → r ≠ .planChange →
        s.plans.active = some p → remaining ≤ (l.charges.map (·.2)).sum → (l.charges.map (·.1)).Nodup →
        (∀ q ∈ l.charges, q.2 ≤ s.account.charge[q.1]) →
        t.account.budgetLeft = s.account.budgetLeft + remaining ∧ t.account.budgetInForce = s.account.budgetInForce ∧
        ((∃ g, s.tracker = .inStep g ∧ g.cur ≠ l.slot) → t.account.xcur = s.account.xcur) ∧
        ((∀ g, s.tracker = .inStep g → g.cur = l.slot) → t.account.xcur = s.account.xcur - remaining))

/-- A closure is one write (R29): the entry becomes FREE, its CLOSED record is pushed with the fields of R30, and a served
one requests a handoff (R33, R145), enqueued with the port's next id at its exit port or refused by a NOT_SENT record that
follows, with every port unchanged. A record that finds 32 held is lost and raises OVF, and the closure goes on (R176).
Nothing changes but table, channels, account, engine, the exit port, the outcome queue and OVF. An entry that rides no
channel leaves every other entry, channel and the account alone, as does one whose channel is IDLE, which only the block
resets of RESET_CORE can bring about (assumption 14). A GRANTED one leaves its rider list (R112): the riders that remain
keep their order and give the channel the highest level among them, and without any the channel ends with RELEASED and the
refund of that end (R113). That its cause follows the whole write is the model's choice (assumption 4). -/
def Obligations.ClosureIsOneWrite : Prop :=
  ∀ (s : State) (i : EntryIx) (e : Entry) (r : CloseReason), s.table[i] = some e → ∃ t, s.closeEntry i e r = t ∧
    t.table[i] = none ∧
    t = { s with
      account := t.account, table := t.table, channels := t.channels, engine := t.engine, linkA := t.linkA
      linkB := t.linkB, port := { s.port with outcomes := t.port.outcomes, events := t.port.events } } ∧
    ((∀ c, e.state = .granted c → s.channels[c].live = none) → (∀ j, j ≠ i → t.table[j] = s.table[j]) ∧ t.channels = s.channels ∧
      t.account = s.account ∧ t.engine = s.engine) ∧
    (∀ c l, e.state = .granted c → s.channels[c].live = some l →
      (∀ d, d ≠ c → t.channels[d] = s.channels[d]) ∧ (∀ j, j ≠ i → t.table[j] = s.table[j]) ∧
      (l.riders.filter (fun j => decide (j ≠ i)) ≠ [] →
        (∃ level, t.channels[c] = { s.channels[c] with
            live := some { l with riders := l.riders.filter (fun j => decide (j ≠ i)), level } } ∧
          s.IsHighest (l.riders.filter fun j => decide (j ≠ i)) level) ∧
        t.engine = s.engine ∧ t.account = s.account) ∧
      (l.riders.filter (fun j => decide (j ≠ i)) = [] →
        t.channels[c] = { live := none, lastEnd := some (.released, s.time) } ∧
        t.account = (s.endChannel c .released).account ∧ ∃ u : State, t = State.cause u ∧ u.engine = s.engine)) ∧
    (let closed : OutcomeRecord :=
       { time := s.time, vehicle := e.vehicle, route := e.route, approach := e.approach, level := e.level,
         body := .closed r e.lastAction e.grantedTotal e.origin }
     let unsent (why : NotSent) : OutcomeRecord :=
       { time := s.time, vehicle := e.vehicle, route := e.route, approach := e.approach, level := e.level,
         body := .handoff (.notSent why) }
     let pushes (records : List OutcomeRecord) : Prop :=
       t.port.outcomes = s.port.outcomes ++ records.take (32 - s.port.outcomes.length) ∧
       t.port.events = if s.port.outcomes.length + records.length ≤ 32 then s.port.events
         else { s.port.events with ovf := true }
     let kept : Prop := ∀ p, t.link p = s.link p
     ((r ≠ .servedRadio ∧ r ≠ .servedLoop) → pushes [closed] ∧ kept) ∧
     ((r = .servedRadio ∨ r = .servedLoop) →
       (s.approaches[e.approach].exitSide = .none → pushes [closed, unsent .noExit] ∧ kept) ∧
       (∀ p, s.approaches[e.approach].exitSide = (if p = .linkA then .toA else .toB) →
         ((s.link p).state ≠ .up → pushes [closed, unsent .linkNotUp] ∧ kept) ∧
         ((s.link p).state = .up → (s.link p).peerContained = true → pushes [closed, unsent .peerContained] ∧ kept) ∧
         ((s.link p).state = .up → (s.link p).peerContained = false →
           (4 ≤ (s.link p).outgoing.length ∨ 4 ≤ (s.link p).awaiting.length + handoffCount (s.link p).outgoing →
             pushes [closed, unsent .queueFull] ∧ kept) ∧
           ((s.link p).outgoing.length < 4 → (s.link p).awaiting.length + handoffCount (s.link p).outgoing < 4 →
             pushes [closed] ∧ (∀ q, q ≠ p → t.link q = s.link q) ∧
             t.link p = { s.link p with
               nextId := (s.link p).nextId + 1
               outgoing := (s.link p).outgoing ++ [.handoff
                 { id := (s.link p).nextId, vehicle := e.vehicle, route := e.route, lateness := e.lateness,
                   nominal := (s.link p).settings.nominal, tolerance := (s.link p).settings.tolerance }
                 e.approach e.level (s.link p).settings.ackTimeout] })))))

/-! ## Faults and containment -/

/-- CLEAR_FAULTS clears the statuses flagged and answers those that stand (R155); SET_FAULT_CONTROL replaces masks,
severities, enable and settle timeout, touching no status and no containment state (R156). In both the pointer returns to
NONE exactly when the kind it names is cleared or masked, the record keeping its fields but its valid flag (R158). -/
def Obligations.FaultControls : Prop :=
  ∀ s : State, s.Serves →
    let released (m : BitVec 19) : Prop := ∃ k, s.faults.pointer = some k ∧ kindBit m k = true
    let invalid : FaultRecord := { s.faults.record with valid := false }
    (∀ map : BitVec 24,
      let m : BitVec 19 := map.extractLsb' 0 19
      let f : FaultRecorder := { s.faults with status := s.faults.status &&& ~~~m }
      (released m → exec (.clearFaults map) s = .next
        (State.replied { s with faults := { f with pointer := none, record := invalid } } 0x10 .ok (mapBytes f.status))) ∧
      (¬ released m → exec (.clearFaults map) s = .next
        (State.replied { s with faults := f } 0x10 .ok (mapBytes f.status)))) ∧
    (∀ (mask severity : BitVec 24) (enable : Byte) (settle : Half),
      let m : BitVec 19 := mask.extractLsb' 0 19
      let f : FaultRecorder := { s.faults with mask := m, severity := severity.extractLsb' 0 19 }
      (∀ d, duration settle = some d → 100 ≤ d → d ≤ 6000 → enable = 0 ∨ enable = 1 →
        let c : Containment := { s.containment with enable := decide (enable = 1), settleTimeout := d }
        (released m → exec (.setFaultControl mask severity enable settle) s = .next
          (State.replied { s with faults := { f with pointer := none, record := invalid }, containment := c } 0x11 .ok
            [])) ∧
        (¬ released m → exec (.setFaultControl mask severity enable settle) s = .next
          (State.replied { s with faults := f, containment := c } 0x11 .ok []))) ∧
      ((∀ d, duration settle = some d → d < 100 ∨ 6000 < d) ∨ (enable ≠ 0 ∧ enable ≠ 1) →
        exec (.setFaultControl mask severity enable settle) s = .next (s.replied 0x11 .badArg [])))

/-- CONTAIN (R162): BAD_STATE with the enable OFF; else a trigger with reason SOFTWARE, answered with the state and
reason then in force. The settle timer's expiry makes SETTLING HELD with its reason kept and raises CNT; before it, and
in any other state, nothing changes (R163). That the event changes nothing before its time is the model's choice
(assumption 3). -/
def Obligations.ContainAndSettle : Prop :=
  (∀ s : State, s.Serves →
    (s.containment.enable = false → exec .contain s = .next (s.replied 0x12 .badState [])) ∧
    (s.containment.enable = true → s.containment.state = .normal →
      exec .contain s = .next (State.replied (s.trigger .software) 0x12 .ok [1, 2, 31])) ∧
    (∀ k e, s.containment.enable = true → s.containment.state = .settling (.fault k) e →
      exec .contain s = .next (s.replied 0x12 .ok [1, 1, BitVec.ofNat 8 (faultIndex k).val])) ∧
    (∀ e, s.containment.enable = true → s.containment.state = .settling .software e →
      exec .contain s = .next (s.replied 0x12 .ok [1, 2, 31])) ∧
    (∀ k, s.containment.enable = true → s.containment.state = .held (.fault k) →
      exec .contain s = .next (s.replied 0x12 .ok [2, 1, BitVec.ofNat 8 (faultIndex k).val])) ∧
    (s.containment.enable = true → s.containment.state = .held .software →
      exec .contain s = .next (s.replied 0x12 .ok [2, 2, 31]))) ∧
  (∀ s : State, s.held = false →
    (∀ r e, s.containment.state = .settling r e → atOrAfter s.time e = true → exec .settleTimeout s = .next
      { s with containment := { s.containment with state := .held r }
               port := { s.port with events := { s.port.events with cnt := true } } }) ∧
    (∀ r e, s.containment.state = .settling r e → atOrAfter s.time e = false → exec .settleTimeout s = .next s) ∧
    ((∀ r e, s.containment.state ≠ .settling r e) → exec .settleTimeout s = .next s))

/-- RELEASE (R165): OK with no effect in NORMAL, BAD_STATE in SETTLING, and in HELD BAD_STATE while some unmasked kind of
severity CONTAIN has its status set, else NORMAL with the reason absent and an evaluation cause. -/
def Obligations.ReleaseIsJudged : Prop :=
  ∀ s : State, s.Serves →
    let blocked : Prop := ∃ k, kindBit s.faults.status k = true ∧ kindBit s.faults.mask k = false ∧
      kindBit s.faults.severity k = true
    (s.containment.state = .normal → exec .release s = .next (s.replied 0x13 .ok [])) ∧
    (∀ r e, s.containment.state = .settling r e → exec .release s = .next (s.replied 0x13 .badState [])) ∧
    (∀ r, s.containment.state = .held r → blocked → exec .release s = .next (s.replied 0x13 .badState [])) ∧
    (∀ r, s.containment.state = .held r → ¬ blocked → exec .release s = .next
      (State.replied (State.cause { s with containment := { s.containment with state := .normal } }) 0x13 .ok []))

/-! ## Configuration -/

/-- SET_APPROACH (R18): arguments out of range are BAD_ARG, a live entry with the approach is BAD_STATE, and nothing
changes; else the whole record is replaced, and the loop is reset unless the approach stays enabled with loop use
(R15). That a change of the loop which waits for its row is discarded with that reset is the model's choice
(assumption 16). -/
def Obligations.SetApproachReplacesTheRecord : Prop :=
  ∀ (s : State) (ap flags phase : Byte) (vFree vFloor margin : Half), s.Serves →
    let f : Instr := .setApproach ap flags phase vFree vFloor margin
    let legal (m : Nat) : Prop := ap.toNat < 4 ∧ flags.extractLsb' 2 2 ≠ 3 ∧ flags.extractLsb' 0 2 ≠ 3 ∧
      1 ≤ phase.toNat ∧ phase.toNat ≤ 6 ∧ 20 ≤ vFree.toNat ∧ vFree.toNat ≤ 300 ∧ 10 ≤ vFloor.toNat ∧
      vFloor.toNat ≤ vFree.toNat ∧ duration margin = some m ∧ m ≤ 100
    ((∀ m, ¬ legal m) → exec f s = .next (s.replied 0x21 .badArg [])) ∧
    (∀ m (a : Approach), legal m → a.val = ap.toNat → (∃ (i : EntryIx) (e : Entry), s.table[i] = some e ∧ e.approach = a) →
      exec f s = .next (s.replied 0x21 .badState [])) ∧
    (∀ m (a : Approach), legal m → a.val = ap.toNat →
      (∀ (i : EntryIx) (e : Entry), s.table[i] = some e → e.approach ≠ a) → ∃ t, exec f s = .next t ∧
        t = State.replied { s with approaches := t.approaches, loops := t.loops } 0x21 .ok [] ∧
        (∀ b, b ≠ a → t.approaches[b] = s.approaches[b] ∧ t.loops[b] = s.loops[b]) ∧
        some t.approaches[a].phase = phaseOfNumber phase.toNat ∧ t.approaches[a].enabled = flags.getLsbD 7 ∧
        t.approaches[a].link = (if flags.getLsbD 6 then .rx1 else .rx0) ∧
        t.approaches[a].loopUse = flags.getLsbD 5 ∧
        t.approaches[a].entrySide = (if flags.extractLsb' 2 2 = 0 then .none
          else if flags.extractLsb' 2 2 = 1 then .fromA else .fromB) ∧
        t.approaches[a].exitSide = (if flags.extractLsb' 0 2 = 0 then .none
          else if flags.extractLsb' 0 2 = 1 then .toA else .toB) ∧
        t.approaches[a].vFree = vFree.toNat ∧ t.approaches[a].vFloor = vFloor.toNat ∧ t.approaches[a].margin = m ∧
        (flags.getLsbD 7 = true ∧ flags.getLsbD 5 = true → t.loops[a] = s.loops[a]) ∧
        (flags.getLsbD 7 = false ∨ flags.getLsbD 5 = false → t.loops[a].lastSample = false ∧
          t.loops[a].active = false ∧ t.loops[a].pending = false))

/-- SET_ROUTE (R11) writes one entry and the mode, refused with BAD_ARG out of range and with BAD_STATE where another
enabled entry holds the route id it enables; SET_CLASS (R14) writes the seven thresholds, refused where one is out of
range or lower than the one before. That bit n of the approach mask stands for approach n is the model's reading
(assumption 25). -/
def Obligations.RouteAndClassTables : Prop :=
  ∀ s : State, s.Serves →
    (∀ (ix : Byte) (route : Half) (flags mode : Byte),
      let f : Instr := .setRoute ix route flags mode
      let clash (i : Fin 32) : Prop := flags.getLsbD 7 = true ∧ ∃ j : Fin 32, j ≠ i ∧
        s.routes.entries[j].enabled = true ∧ s.routes.entries[j].route.toNat = route.toNat
      (32 ≤ ix.toNat ∨ 1024 ≤ route.toNat ∨ (mode ≠ 0 ∧ mode ≠ 1) → exec f s = .next (s.replied 0x22 .badArg [])) ∧
      (∀ i : Fin 32, i.val = ix.toNat → route.toNat < 1024 → mode = 0 ∨ mode = 1 →
        (clash i → exec f s = .next (s.replied 0x22 .badState [])) ∧
        (¬ clash i → ∃ t, exec f s = .next t ∧ t = State.replied { s with routes := t.routes } 0x22 .ok [] ∧
          t.routes.mode = (if mode = 0 then .openMode else .strict) ∧
          t.routes.entries[i] = { route := route.setWidth 10, mask := flags.extractLsb' 0 4,
                                  cap := (flags.extractLsb' 4 3).toNat, enabled := flags.getLsbD 7 } ∧
          ∀ j, j ≠ i → t.routes.entries[j] = s.routes.entries[j]))) ∧
    (∀ th : Vector Half 7,
      let legal : Prop := (∀ i : Fin 7, -3000 ≤ th[i].toInt ∧ th[i].toInt ≤ 3000) ∧
        ∀ i j : Fin 7, i.val + 1 = j.val → th[i].toInt ≤ th[j].toInt
      (¬ legal → exec (.setClass th) s = .next (s.replied 0x23 .badArg [])) ∧
      (legal → ∃ t, exec (.setClass th) s = .next t ∧ t = State.replied { s with classes := t.classes } 0x23 .ok [] ∧
        ∀ i : Fin 7, t.classes[i] = th[i].toInt))

/-- SET_POLICY (R36, R100) replaces its eight settings, brings every debt down to the new cap and raises a cause; a
setting out of range or a duration with scale 3 refuses the whole. -/
def Obligations.SetPolicyReplacesSettings : Prop :=
  ∀ (s : State) (b d r a v h t : Half) (pre : Byte), s.Serves →
    let within (w : Half) (lo hi n : Nat) : Prop := duration w = some n ∧ lo ≤ n ∧ n ≤ hi
    let legal (nb nd nr na nv nh nt : Nat) : Prop := within b 0 600 nb ∧ within d 0 3000 nd ∧ within r 0 600 nr ∧
      within a 0 100 na ∧ within v 10 100 nv ∧ within h 100 1200 nh ∧ within t 10 600 nt ∧ (pre = 0 ∨ pre = 1)
    ((∀ nb nd nr na nv nh nt, ¬ legal nb nd nr na nv nh nt) →
      exec (.setPolicy b d r a v h t pre) s = .next (s.replied 0x24 .badArg [])) ∧
    (∀ nb nd nr na nv nh nt, legal nb nd nr na nv nh nt → ∃ debt : Vector Nat 6,
      (∀ k : Fin 6, debt[k] = min s.account.debt[k] nd) ∧
      exec (.setPolicy b d r a v h t pre) s = .next (State.replied (State.cause { s with
        policy := { budget := nb, debtCap := nd, repay := nr, aMin := na, advTol := nv, horizon := nh, tStale := nt,
                    preemption := decide (pre = 1) }
        account := { s.account with debt } }) 0x24 .ok []))

/-- SET_IDENT (R152) takes every identity; SET_EVENTS (R178, R181) takes bits 0 to 6 and no flag changes; SET_PINS (R16,
R120, R123) replaces five settings, beginning the OVR run count anew where edge or filter time changes and keeping the
recognised level, and is refused whole where one is out of range. That an OVR run goes on where edge and filter time
keep their values (assumption 20), and that one begun anew discards a change that waits for its row (assumption 16), are
the model's readings. ATTN is active exactly while some event flag is set and enabled
(R178). The call of a phase is active exactly while a RUNNING channel targets it (R119), and its output is released until
the start-up interval ends and then high while active, else low or released by the call drive (R120). -/
def Obligations.IdentityPinsAndEvents : Prop :=
  (∀ s : State, s.attn = true ↔
    s.port.outcomes ≠ [] ∧ s.port.enables.getLsbD 0 = true ∨
    s.port.events.ovf = true ∧ s.port.enables.getLsbD 1 = true ∨
    s.port.events.flt = true ∧ s.port.enables.getLsbD 2 = true ∨
    s.port.events.cnt = true ∧ s.port.enables.getLsbD 3 = true ∨
    s.port.events.done = true ∧ s.port.enables.getLsbD 4 = true ∨
    s.port.events.plan = true ∧ s.port.enables.getLsbD 5 = true ∨
    s.port.events.ovr = true ∧ s.port.enables.getLsbD 6 = true) ∧
  (∀ (s : State) (ph : Phase),
    let active : Prop := ∃ (c : ChannelIx) (l : LiveChannel), s.channels[c].live = some l ∧ l.run = .running ∧ l.phase = ph
    (s.callActive ph = true ↔ active) ∧
    (s.held = true ∨ s.startUpEnd ≠ none → s.callDriven ph = .released) ∧
    (s.held = false → s.startUpEnd = none →
      (active → s.callDriven ph = .high) ∧
      (¬ active → s.pins.drive = .pushPull → s.callDriven ph = .low) ∧
      (¬ active → s.pins.drive = .openDrain → s.callDriven ph = .released))) ∧
  ∀ s : State, s.Serves →
    (∀ i, exec (.setIdent i) s = .next (State.replied { s with identity := i } 0x26 .ok [])) ∧
    (∀ e, exec (.setEvents e) s =
      .next (State.replied { s with port := { s.port with enables := e.extractLsb' 0 7 } } 0x28 .ok [])) ∧
    (∀ (drive edge : Byte) (filter suspend stuck : Half),
      let f : Instr := .setPins drive edge filter suspend stuck
      let legal (nf ns nk : Nat) : Prop := (drive = 0 ∨ drive = 1) ∧ (edge = 0 ∨ edge = 1) ∧
        (duration filter = some nf ∧ 1 ≤ nf ∧ nf ≤ 15) ∧ (duration suspend = some ns ∧ 10 ≤ ns ∧ ns ≤ 6000) ∧
        duration stuck = some nk ∧ 10 ≤ nk ∧ nk ≤ 600
      ((∀ nf ns nk, ¬ legal nf ns nk) → exec f s = .next (s.replied 0x27 .badArg [])) ∧
      (∀ nf ns nk, legal nf ns nk →
        let pins : PinSettings :=
          { drive := if drive = 0 then .pushPull else .openDrain, edge := if edge = 0 then .rising else .falling,
            filter := nf, suspendLimit := ns, stuckLimit := nk }
        (pins.edge = s.pins.edge ∧ pins.filter = s.pins.filter →
          exec f s = .next (State.replied { s with pins } 0x27 .ok [])) ∧
        (¬ (pins.edge = s.pins.edge ∧ pins.filter = s.pins.filter) → exec f s = .next (State.replied { s with
          pins, ovr := { s.ovr with runCount := 0, changeAt := none } } 0x27 .ok []))))

/-- STAGE_PLAN (R44, R172) discards the staged plan at its acceptance; its validation (R45) stages exactly a plan of two to
six slots in range, with distinct phases, whose G plus Y sum to the cycle length, and else answers BAD_ARG with the
verdict and the sub-reason of the first check that fails: slot count, range, duplicate phase, sum. Both raise DONE. -/
def Obligations.PlansAreStagedWhenValid : Prop :=
  (∀ (s : State) (cycle : Half) (count : Byte) (slots : Vector RawSlot 6), s.Serves →
    exec (.stagePlan cycle count slots) s = .next { s with
      plans := { s.plans with staged := none }
      port := { s.port with transaction := none, longSlot := none, command := .stagePlan { cycle, count, slots } } }) ∧
  (∀ (s : State) (raw : RawPlan), s.held = false → s.port.command = .stagePlan raw →
    let done (r : Response) : ControllerPort := { s.port with
      longSlot := some r, command := .idle, events := { s.port.events with done := true } }
    let counted : Prop := 2 ≤ raw.count.toNat ∧ raw.count.toNat ≤ 6
    let ranged (p : Plan) : Prop := duration raw.cycle = some p.cycle ∧ 300 ≤ p.cycle ∧
      p.cycle ≤ 2400 ∧ p.slots.length = raw.count.toNat ∧
      (∀ k : Fin 6, k.val < raw.count.toNat → ∃ t : Slot, p.slots[k.val]? = some t ∧
        phaseOfNumber raw.slots[k].phase.toNat = some t.phase ∧ duration raw.slots[k].g = some t.g ∧
        duration raw.slots[k].gmin = some t.gmin ∧ 10 ≤ t.gmin ∧ t.gmin ≤ t.g ∧
        duration raw.slots[k].y = some t.y ∧ 30 ≤ t.y ∧ t.y ≤ 100 ∧ duration raw.slots[k].e = some t.e ∧ t.e ≤ 300)
    let distinct (p : Plan) : Prop := (p.slots.map (·.phase)).Nodup
    let sums (p : Plan) : Prop := (p.slots.map fun t => t.g + t.y).sum = p.cycle
    let invalid (why : Byte) : Prop := exec .planValidationComplete s = .next { s with
      port := done { echo := 0x20, result := .badArg, data := [1, why] } }
    (∀ p, counted → ranged p → distinct p → sums p → exec .planValidationComplete s = .next { s with
      plans := { s.plans with staged := some p }, port := done { echo := 0x20, result := .ok, data := [] } }) ∧
    (¬ counted → invalid 1) ∧ (counted → (∀ p, ¬ ranged p) → invalid 2) ∧
    (∀ p, counted → ranged p → ¬ distinct p → invalid 3) ∧
    (∀ p, counted → ranged p → distinct p → ¬ sums p → invalid 4))

/-- SET_LINK on a receive link (R1, R181): it uses the first three bytes alone; a change of enable or rate discards the
partial frame and keeps the holding buffer's; the rate 115200 is refused. What becomes of an undecided character at a
change of rate is open (assumption 7), so the line state is not stated there. That a write which changes neither leaves
the link alone is the model's reading (assumption 20). -/
def Obligations.SetLinkOnReceiveLinks : Prop :=
  ∀ (s : State) (r : RxId) (en rate : Byte) (p w : Half) (m : Byte) (si ak no tl : Half), s.Serves →
    let f : Instr := .setLink (if r = .rx0 then 0 else 1) en rate p w m si ak no tl
    ((en ≠ 0 ∧ en ≠ 1) ∨ 3 ≤ rate.toNat → exec f s = .next (s.replied 0x25 .badArg [])) ∧
    (∀ lr, (en = 0 ∨ en = 1) → rate.toNat < 3 → rateOfByte rate = some lr →
      ((s.rx r).enabled = decide (en = 1) ∧ (s.rx r).rate = lr → exec f s = .next (s.replied 0x25 .ok [])) ∧
      (¬ ((s.rx r).enabled = decide (en = 1) ∧ (s.rx r).rate = lr) → ∃ t, exec f s = .next t ∧
        t = State.replied { s.setRx r (t.rx r) with freeIndex := s.freeIndex + 1 } 0x25 .ok [] ∧
        t.rx r = { enabled := decide (en = 1), rate := lr, line := (t.rx r).line, assembler := .hunt,
                   holding := (s.rx r).holding } ∧
        ((s.rx r).line ≠ .undecided → (s.rx r).enabled = decide (en = 1) → (t.rx r).line = (s.rx r).line) ∧
        ((s.rx r).enabled ≠ decide (en = 1) → (t.rx r).line = .idle)))

/-- SET_LINK on a corridor port (R134, R136, R143): BAD_STATE in ROLE_FAULT until READ_LINK has reported it; else
BAD_ARG out of range, as is a link byte above 3 (R181); else the nine settings are written at once with their role write, or wait for the transmission in
progress behind any write that waits already. A role write to OFF gives each HANDOFF it discards a NOT_SENT record with
LINK_NOT_UP; one to POLLER or RESPONDER enters SYNCING with the queues kept. What OFF keeps, and that a REPLY still due is
kept by a write to RESPONDER alone (R141; assumption 22), that the writes that wait are all made (assumption 21), that
the silence timer starts with the timeout written (assumption 35), and the time of the NOT_SENT records (assumption 37)
are the model's readings. -/
def Obligations.SetLinkOnCorridorPorts : Prop :=
  (∀ (s : State) (p : PortId) (st : PortSettings),
    let x := s.link p
    (st.role = .poller → s.writeSettings p st = s.setLink p { x with
      settings := st, state := .syncing, missCount := 0, windowClose := none, peerContained := false
      pollDue := some s.time, silenceExpiry := none, replyDue := false }) ∧
    (st.role = .responder → s.writeSettings p st = s.setLink p { x with
      settings := st, state := .syncing, missCount := 0, windowClose := none, peerContained := false, pollDue := none
      silenceExpiry := some (timePlus s.time st.silence) }) ∧
    (st.role = .off → ∃ records : List OutcomeRecord,
      s.writeSettings p st = (s.setLink p { x with
        settings := st, state := .off, outgoing := [], windowClose := none, pollDue := none, silenceExpiry := none
        replyDue := false }).pushOutcomes records ∧
      records = x.outgoing.filterMap fun m => match m with
        | .handoff h a level _ => some { time := s.time, vehicle := h.vehicle, route := h.route, approach := a, level,
                                         body := .handoff (.notSent .linkNotUp) }
        | .ack _ _ => none)) ∧
  (∀ (s : State) (b role rate : Byte) (po wi : Half) (ml : Byte) (si ak no tl : Half), s.Serves → 4 ≤ b.toNat →
    exec (.setLink b role rate po wi ml si ak no tl) s = .next (s.replied 0x25 .badArg [])) ∧
  ∀ (s : State) (p : PortId) (role rate : Byte) (po wi : Half) (ml : Byte) (si ak no tl : Half), s.Serves →
    let f : Instr := .setLink (if p = .linkA then 2 else 3) role rate po wi ml si ak no tl
    let x := s.link p
    let within (w : Half) (lo hi n : Nat) : Prop := duration w = some n ∧ lo ≤ n ∧ n ≤ hi
    let legal (st : PortSettings) : Prop :=
      (role = 0 ∧ st.role = .off ∨ role = 1 ∧ st.role = .poller ∨ role = 2 ∧ st.role = .responder) ∧
      (rate = 2 ∧ st.rate = .r38400 ∨ rate = 3 ∧ st.rate = .r115200) ∧ within po 2 50 st.pollInterval ∧
      within wi 1 10 st.replyWindow ∧ ml.toNat = st.missLimit ∧ 1 ≤ st.missLimit ∧ st.missLimit ≤ 15 ∧
      within si 10 600 st.silence ∧ within ak 5 600 st.ackTimeout ∧ within no 0 6000 st.nominal ∧
      within tl 0 1200 st.tolerance
    (x.state = .roleFault → x.acknowledged = false → exec f s = .next (s.replied 0x25 .badState [])) ∧
    ((x.state ≠ .roleFault ∨ x.acknowledged = true) →
      ((∀ st, ¬ legal st) → exec f s = .next (s.replied 0x25 .badArg [])) ∧
      (∀ st, legal st → x.line ≠ .listening →
        exec f s = .next ((s.setLink p { x with deferredWrites := x.deferredWrites ++ [st] }).replied 0x25 .ok [])) ∧
      (∀ st, legal st → x.line = .listening → exec f s = .next ((s.writeSettings p st).replied 0x25 .ok [])))

/-! ## The account -/

/-- A charge and a refund of an amount to a slot (R98); a refund is floored at 0 in the debt. A refund of a total runs
off the charge list from its last pair backwards, each pair giving as much as it can (R115). An allocation over slots
has each in turn give the smaller of its slack and what is left before the next one gives; it leaves out the slots that
give nothing, and sums to the amount when the slacks reach it (R76). Pairs merged into a charge list are taken in order,
each added to the pair already held for its slot, or a new one at the end (R89, R106). That a refund takes no more from a slot than it is charged is the
model's choice (assumption 13). The green-time figures are formed in IN_STEP with an active plan alone (R69), each by its
formula: effective green, planned end and reference end (R70), the time to green with the slots between (R71), the slack
of a slot (R72, R73), the truncation set and both capacities (R74), and the advance amount (R75). -/
def Obligations.AccountOperations : Prop :=
  (∀ (p : Plan) (a : Account) (k : SlotIx) (n : Nat),
    let ph := phaseIndex (slotAt p k).phase
    let b := chargeSlot p a k n
    let c := refundSlot p a k n
    let m := min n a.charge[k]
    (b.charge[k] = a.charge[k] + n ∧ b.debt[ph] = a.debt[ph] + n ∧ b.budgetLeft = a.budgetLeft - n) ∧
    (c.charge[k] = a.charge[k] - m ∧ c.debt[ph] = a.debt[ph] - m ∧ c.budgetLeft = a.budgetLeft + m) ∧
    (b.xcur = a.xcur ∧ b.budgetInForce = a.budgetInForce ∧ c.xcur = a.xcur ∧ c.budgetInForce = a.budgetInForce) ∧
    (∀ j, j ≠ k → b.charge[j] = a.charge[j] ∧ c.charge[j] = a.charge[j]) ∧
    (∀ q, q ≠ ph → b.debt[q] = a.debt[q] ∧ c.debt[q] = a.debt[q])) ∧
  (∀ (p : Plan) (a : Account) (charges : List (SlotIx × Nat)) (k : SlotIx) (n total : Nat),
    refundAll p a (charges ++ [(k, n)]) total =
      refundAll p (refundSlot p a k (min n total)) charges (total - min n total)) ∧
  (∀ (p : Plan) (a : Account) (total : Nat), refundAll p a [] total = a) ∧
  (∀ (f : Figures) (ks : List SlotIx) (n : Nat),
    let pairs := f.allocation ks n
    (pairs.map (·.1)).Sublist ks ∧ (∀ q ∈ pairs, 1 ≤ q.2 ∧ q.2 ≤ f.slack q.1) ∧
    (pairs.map (·.2)).sum = min n (ks.map f.slack).sum ∧
    f.allocation [] n = [] ∧
    (∀ k : SlotIx, let gives := min (f.slack k) n
      (gives = 0 → f.allocation (k :: ks) n = pairs) ∧
      (gives ≠ 0 → f.allocation (k :: ks) n = (k, gives) :: f.allocation ks (n - gives)))) ∧
  (∀ (held more : List (SlotIx × Nat)) (k : SlotIx) (n : Nat),
    mergePairs held [] = held ∧ mergePairs held ((k, n) :: more) = mergePairs (mergePairs held [(k, n)]) more ∧
    (k ∉ held.map (·.1) → mergePairs held [(k, n)] = held ++ [(k, n)]) ∧
    (∀ (first last : List (SlotIx × Nat)) (m : Nat), held = first ++ (k, m) :: last → k ∉ first.map (·.1) →
      mergePairs held [(k, n)] = first ++ (k, m + n) :: last)) ∧
  (∀ s : State,
    (∀ p r, s.plans.active = some p → s.tracker = .inStep r → s.figures = some
      { t := s.time, plan := p, step := r, account := s.account, channels := s.channels, policy := s.policy }) ∧
    (s.plans.active = none ∨ (∀ r, s.tracker ≠ .inStep r) → s.figures = none)) ∧
  (∀ (f : Figures),
    let cur := f.step.cur
    let G (k : SlotIx) : Int := (slotAt f.plan k).g
    let Y (k : SlotIx) : Int := (slotAt f.plan k).y
    let gmin (k : SlotIx) : Int := (slotAt f.plan k).gmin
    let c (k : SlotIx) : Int := f.account.charge[k]
    let owes (k : SlotIx) : Int := f.account.debt[phaseIndex (slotAt f.plan k).phase]
    let later (x y : Time) : Time := if 0 ≤ (x - y).toInt then x else y
    let plus (x : Time) (d : Int) : Time := x + BitVec.ofInt 32 d
    let e := plus f.step.onset (G cur - c cur + f.account.xcur)
    let isProtected (k : SlotIx) : Prop := ∃ (b : ChannelIx) (l : LiveChannel), f.channels[b].live = some l ∧ l.slot = k
    let extending : Prop := ∃ (b : ChannelIx) (l : LiveChannel) (rem : Nat) (rf : Time),
      f.channels[b].live = some l ∧ l.action = .extend rem rf
    let limit (k : SlotIx) : Int := min (G k - c k - gmin k) (f.policy.debtCap - owes k)
    (f.effectiveGreen cur = G cur - c cur + f.account.xcur) ∧
    (∀ k, k ≠ cur → f.effectiveGreen k = G k - c k) ∧
    f.plannedEnd = e ∧ f.referenceEnd = later f.t e ∧
    (f.step.period = .green → f.start = plus (later e f.t) (Y cur)) ∧
    (∀ drop, f.step.period = .clearance drop → f.start = later (plus drop (Y cur)) f.t) ∧
    (∀ j : SlotIx,
      (∀ k, k ∈ f.between j ↔ k.val < f.plan.slots.length ∧ cur < k ∧ (j = 0 ∨ k < j)) ∧
      (f.between j).Pairwise (· < ·) ∧
      f.timeToGreen j = plus f.start ((f.between j).map fun k => f.effectiveGreen k + Y k).sum) ∧
    (∀ k, (isProtected k → f.slack k = 0) ∧
      (¬ isProtected k → k ≠ cur → f.slack k = (limit k).toNat) ∧
      (¬ isProtected k → k = cur → (∀ drop, f.step.period = .clearance drop → f.slack k = 0) ∧
        (f.step.period = .green →
          f.slack k = (min (limit k) (e - later f.t (plus f.step.onset (gmin cur))).toInt).toNat))) ∧
    (∀ k, k ∈ f.extensionSlots ↔ k.val < f.plan.slots.length ∧ cur < k ∧ ¬ isProtected k) ∧
    f.extensionSlots.Pairwise (· < ·) ∧ f.sExt = (f.extensionSlots.map f.slack).sum ∧
    (∀ j : SlotIx,
      (∀ k, k ∈ f.truncation j ↔
        (k = cur ∧ f.step.period = .green ∧ ¬ extending ∨ k ∈ f.between j) ∧ ¬ isProtected k) ∧
      (f.truncation j).Pairwise (· < ·) ∧ f.sAdv j = ((f.truncation j).map f.slack).sum ∧
      ∀ need : Nat, f.advanceAmount j need = min need (min (f.sAdv j) f.account.budgetLeft)))

/-! ## Forced grants, cancelled channels and the channels' own events -/

/-- FORCE_GRANT (R95, R96): BAD_ARG out of range; NOT_FOUND on a FREE entry; BAD_STATE on every condition of R95; else the
amount clipped to the limits of its case is granted on the lowest-numbered IDLE channel and answered with its index. -/
def Obligations.ForceGrantIsJudged : Prop :=
  ∀ (s : State) (entry action : Byte) (amount : Half), s.Serves →
    let f : Instr := .forceGrant entry action amount
    let result (t : State) (r : ResultCode) (data : List Byte) := exec f s = .next (t.replied 0x31 r data)
    ((16 ≤ entry.toNat ∨ (action ≠ 1 ∧ action ≠ 2) ∨ ∀ d, duration amount = some d → d < 1 ∨ 300 < d) →
      result s .badArg []) ∧
    (∀ (i : EntryIx) (d : Nat), entry.toNat = i.val → (action = 1 ∨ action = 2) → duration amount = some d → 1 ≤ d →
      d ≤ 300 →
      (s.table[i] = none → result s .notFound []) ∧
      (∀ e : Entry, s.table[i] = some e →
        ((¬ s.RunningCondition ∨ (∃ c, e.state = .granted c)) → result s .badState []) ∧
        (∀ g : Figures, s.figures = some g → slotOf g.plan s.approaches[e.approach].phase = none →
          result s .badState []) ∧
        (∀ (g : Figures) (j : SlotIx), s.RunningCondition → (∀ c, e.state ≠ .granted c) → s.figures = some g →
          slotOf g.plan s.approaches[e.approach].phase = some j →
          let n := if action = 1 then min d (min ((slotAt g.plan j).e - s.account.xcur) (min g.sExt s.account.budgetLeft))
            else min d (min (g.sAdv j) s.account.budgetLeft)
          let fits : Prop := 1 ≤ n ∧ (∃ c : ChannelIx, s.channels[c].live = none) ∧
            (∀ (c : ChannelIx) l, s.channels[c].live = some l → l.slot ≠ j) ∧
            (action = 1 → g.step.cur = j ∧ g.step.period = .green ∧ ∀ (c : ChannelIx) l dl,
              s.channels[c].live = some l → l.action = .advance dl → j ∉ l.charges.map (·.1)) ∧
            (action = 2 → (g.step.cur < j ∨ j = 0 ∧ g.step.cur ≠ 0) ∧ ∀ (c : ChannelIx) l,
              s.channels[c].live = some l → j ∉ l.charges.map (·.1))
          (¬ fits → result s .badState []) ∧
          (fits → ∀ c, s.LowestIdle c → ∃ t l, result t .ok [BitVec.ofNat 8 c.val, BitVec.ofNat 8 (n / 256),
              BitVec.ofNat 8 n] ∧
            (action = 1 → g.Extends l n i e.level .forced ∧ s.Granted t c i e l .extend g.plan n) ∧
            (action = 2 → g.Advances l j n i e.level .forced ∧ s.Granted t c i e l .advance g.plan 0)))))

/-- CANCEL_CHANNEL (R118): BAD_ARG, NOT_FOUND on an IDLE channel, else the end with CANCELLED answered with the refund:
an extension's remaining time, nothing for an advance. The channels' own events end or start a channel that meets their
condition and change nothing else: a run-from time reached starts an ARMED extension, whose call becomes active (R105,
R119), no remaining time completes a RUNNING one (R107), and a deadline misses an advance that is not SUSPENDED, naming
its first rider in the fault (R111). That an event whose condition does not hold changes nothing is the model's choice
(assumption 3). -/
def Obligations.ChannelEventsAndCancel : Prop :=
  ∀ s : State,
    (s.Serves →
      (∀ b : Byte, 4 ≤ b.toNat → exec (.cancelChannel b) s = .next (s.replied 0x32 .badArg [])) ∧
      (∀ c : ChannelIx, s.channels[c].live = none →
        exec (.cancelChannel (BitVec.ofNat 8 c.val)) s = .next (s.replied 0x32 .notFound [])) ∧
      (∀ (c : ChannelIx) l, s.channels[c].live = some l → ∀ n : Nat,
        (∀ rem rf, l.action = .extend rem rf → n = rem) → (∀ d, l.action = .advance d → n = 0) →
        exec (.cancelChannel (BitVec.ofNat 8 c.val)) s =
          .next ((s.endChannel c .cancelled).replied 0x32 .ok [BitVec.ofNat 8 (n / 256), BitVec.ofNat 8 n]))) ∧
    (s.held = false → ∀ c : ChannelIx,
      let starts (l : LiveChannel) : Prop :=
        l.run = .armed ∧ ∃ rem rf, l.action = .extend rem rf ∧ atOrAfter s.time rf = true
      let completes (l : LiveChannel) : Prop := l.run = .running ∧ ∃ rf, l.action = .extend 0 rf
      let misses (l : LiveChannel) : Prop :=
        (l.run = .armed ∨ l.run = .running) ∧ ∃ d, l.action = .advance d ∧ atOrAfter s.time d = true
      (∀ l, s.channels[c].live = some l → starts l → ∃ t, exec (.runFromTimeReached c) s = .next t ∧
        t = s.setChannel c { s.channels[c] with live := some { l with run := .running } } ∧
        t.callActive l.phase = true) ∧
      ((∀ l, s.channels[c].live = some l → ¬ starts l) → exec (.runFromTimeReached c) s = .next s) ∧
      (∀ l, s.channels[c].live = some l → completes l →
        exec (.remainingReachesZero c) s = .next (s.endChannel c .complete)) ∧
      ((∀ l, s.channels[c].live = some l → ¬ completes l) → exec (.remainingReachesZero c) s = .next s) ∧
      (∀ l i riders e, s.channels[c].live = some l → misses l → l.riders = i :: riders → s.table[i] = some e →
        exec (.deadlineReached c) s = .next ((s.endChannel c .missed).occur .advMissed (.approach e.approach)
          (some e.vehicle))) ∧
      ((∀ l, s.channels[c].live = some l → ¬ misses l) → exec (.deadlineReached c) s = .next s))

/-- FLUSH_TABLE (R39, R172) begins at index 0; each visit closes a live entry with FLUSHED or passes over a FREE one,
and the visit to index 15 completes the command with the number closed and DONE. That a visit without a flush changes
nothing is the model's choice (assumption 3). -/
def Obligations.FlushVisitsEveryEntry : Prop :=
  (∀ s : State, s.Serves → exec .flushTable s = .next { s with
    port := { s.port with transaction := none, longSlot := none, command := .flushTable 0 0 } }) ∧
  (∀ (s : State) (i : EntryIx) (n : Nat), s.held = false → s.port.command = .flushTable i n →
    let visited (u : State) (m : Nat) : State :=
      if i = 15 then { u with port := { u.port with
        longSlot := some { echo := 0x34, result := .ok, data := [BitVec.ofNat 8 m] }, command := .idle
        events := { u.port.events with done := true } } }
      else { u with port := { u.port with command := .flushTable (i + 1) m } }
    (s.table[i] = none → exec .flushVisit s = .next (visited s n)) ∧
    (∀ e, s.table[i] = some e → exec .flushVisit s = .next (visited (s.closeEntry i e .flushed) (n + 1)))) ∧
  (∀ s : State, s.held = false → (∀ i n, s.port.command ≠ .flushTable i n) → exec .flushVisit s = .next s)

/-! ## Override -/

/-- A recognised change of OVR and OVERRIDE_HOLD form the override state anew where they change the level or the hold
(R122, R124, R125, R126, R131); OVERRIDE_HOLD is answered with the state that stands after it, and any argument but SET
and CLEAR is BAD_ARG. The suspend limit's expiry while ACTIVE ends every SUSPENDED channel with OVERRIDE_LONG and
override stays ACTIVE (R127). That an event whose condition does not hold changes nothing (assumption 3), that channels
end from EC0 to EC3 (assumption 4), and what a last decisecond that meets the suspension comes to (assumptions 10, 34), are
the model's choices. -/
def Obligations.OverrideEvents : Prop :=
  ∀ s : State,
    (s.held = false →
      (s.ovr.changeAt = none → exec .ovrRecognisedChange s = .next s) ∧
      (∀ u, s.ovr.changeAt = some u → ∃ t, exec .ovrRecognisedChange s = .next t ∧
        State.FormsOverride { s with ovr := { s.ovr with
          recognised := !s.ovr.recognised, runCount := 0, changeAt := none } } t)) ∧
    (s.Serves →
      let code (o : OverrideState) : Byte := if o = .inactive then 0 else if o = .active then 1 else 2
      (∀ b : Byte, 2 ≤ b.toNat → exec (.overrideHoldSet b) s = .next (s.replied 0x33 .badArg [])) ∧
      (s.ovr.hold = true → exec (.overrideHoldSet 1) s = .next (s.replied 0x33 .ok [code s.ovr.state])) ∧
      (s.ovr.hold = false → ∃ t, exec (.overrideHoldSet 1) s = .next (t.replied 0x33 .ok [code t.ovr.state]) ∧
        State.FormsOverride { s with ovr := { s.ovr with hold := true } } t) ∧
      (s.ovr.hold = false → exec .overrideHoldClear s = .next (s.replied 0x33 .ok [code s.ovr.state])) ∧
      (s.ovr.hold = true → ∃ t, exec .overrideHoldClear s = .next (t.replied 0x33 .ok [code t.ovr.state]) ∧
        State.FormsOverride { s with ovr := { s.ovr with hold := false } } t)) ∧
    (s.held = false →
      (∀ e, s.ovr.state = .active → s.ovr.suspendExpiry = some e → atOrAfter s.time e = true →
        ∃ t, exec .suspendLimitExpiry s = .next t ∧
          t = { s.endingThose (fun l => match l.run with | .suspended _ => true | _ => false) (fun _ => .overrideLong) with
                ovr := { s.ovr with suspendExpiry := none } } ∧
          t = { s with ovr := { s.ovr with suspendExpiry := none }, channels := t.channels, table := t.table,
                       account := t.account, engine := t.engine } ∧
          (s.engine.pass = none → t.engine = s.engine) ∧
          ∀ c : ChannelIx,
            (∀ l, s.channels[c].live = some l → l.IsSuspended →
              t.channels[c] = { live := none, lastEnd := some (.overrideLong, s.time) } ∧
              ∀ (i : EntryIx) e, i ∈ l.riders → s.table[i] = some e →
                t.table[i] = some { e with state := .tracking, note := some (.ended .overrideLong) }) ∧
            ((∀ l, s.channels[c].live = some l → ¬ l.IsSuspended) → t.channels[c] = s.channels[c])) ∧
      ((∀ e, s.ovr.suspendExpiry = some e → s.ovr.state ≠ .active ∨ atOrAfter s.time e = false) →
        exec .suspendLimitExpiry s = .next s))

/-- A visit of the resume check (R128 to R132): it passes over a channel that is not SUSPENDED; resumes an extension
whose target is the current slot in GREEN, with at most the time its slot's limit leaves; resumes an advance before its
deadline, ARMED only where it was ARMED and a green shows with an extension live; ends any other with OVERRIDDEN; and
after channel 3 makes override INACTIVE, with a cause and OVR. That a visit outside RESUMING changes nothing is the
model's choice (assumption 3). -/
def Obligations.ResumeCheckVisits : Prop :=
  ∀ s : State, s.held = false →
    ((∀ c, s.ovr.state ≠ .resuming c) → exec .resumeVisit s = .next s) ∧
    (∀ c, s.ovr.state = .resuming c →
      let onward (u : State) : State :=
        if c = 3 then
          let v := State.cause { u with ovr := { u.ovr with state := .inactive } }
          { v with port := { v.port with events := { v.port.events with ovr := true } } }
        else { u with ovr := { u.ovr with state := .resuming (c + 1) } }
      let keep (l : LiveChannel) : State := s.setChannel c { s.channels[c] with live := some l }
      let onGreen (l : LiveChannel) : Prop := ∃ r, s.tracker = .inStep r ∧ r.cur = l.slot ∧ r.period = .green
      let waits (q : PriorState) : Prop := q = .armed ∧ (∃ r, s.tracker = .inStep r ∧ r.period = .green) ∧
        ∃ (d : ChannelIx) (m : LiveChannel) (rem : Nat) (rf : Time), s.channels[d].live = some m ∧
          m.action = .extend rem rf
      ((∀ l, s.channels[c].live = some l → ¬ l.IsSuspended) → exec .resumeVisit s = .next (onward s)) ∧
      (∀ l q rem rf, s.channels[c].live = some l → l.run = .suspended q → l.action = .extend rem rf →
        (¬ onGreen l → exec .resumeVisit s = .next (onward (s.endChannel c .overridden))) ∧
        (onGreen l → ∀ p, s.plans.active = some p → exec .resumeVisit s = .next (onward (keep { l with
          action := .extend (min rem (((slotAt p l.slot).e : Int) - (s.account.xcur - rem)).toNat) rf
          run := if atOrAfter s.time rf then .running else .armed })))) ∧
      (∀ l q d, s.channels[c].live = some l → l.run = .suspended q → l.action = .advance d →
        (atOrAfter s.time d = true → exec .resumeVisit s = .next (onward (s.endChannel c .overridden))) ∧
        (atOrAfter s.time d = false → waits q → exec .resumeVisit s = .next (onward (keep { l with run := .armed }))) ∧
        (atOrAfter s.time d = false → ¬ waits q →
          exec .resumeVisit s = .next (onward (keep { l with run := .running })))))

/-! ## Receive links -/

/-- A receive link and its assembler (R1 to R5): nothing while it is disabled or holds a character undecided; 0xA5 opens
a frame and is data inside one; the twelfth byte after it closes the frame, whose bytes must sum to 0 modulo 256 for it
to be held, an occupied buffer overrunning; a low stop bit is a framing error unless every data bit is 0, when the
character is undecided until a break discards the partial frame or the line's return makes a framing error of it; a gap
inside a frame is a framing error. That an event a link is not ready for changes nothing is the model's choice
(assumption 3). -/
def Obligations.ReceiveLinksAssembleFrames : Prop :=
  ∀ (s : State) (r : RxId), s.held = false →
    let x := s.rx r
    let char (b : Byte) (stop : Bool) := exec (.characterReceived r b stop) s
    let framing : FaultKind := if r = .rx0 then .rx0Framing else .rx1Framing
    let overrun : FaultKind := if r = .rx0 then .rx0Overrun else .rx1Overrun
    let check : FaultKind := if r = .rx0 then .rx0Check else .rx1Check
    (x.enabled = false → (∀ b stop, char b stop = .next s) ∧ exec (.rxBreak r) s = .next s ∧
      exec (.interCharacterGap r) s = .next s ∧ exec (.undecidedCharacterLineHigh r) s = .next s) ∧
    (x.enabled = true → x.line = .undecided →
      (∀ b stop, char b stop = .next s) ∧ exec (.interCharacterGap r) s = .next s ∧
      exec (.rxBreak r) s = .next (s.setRx r { x with line := .inBreak, assembler := .hunt }) ∧
      exec (.undecidedCharacterLineHigh r) s =
        .next ((s.setRx r { x with line := .idle, assembler := .hunt }).occur framing (.rx r) none)) ∧
    (x.enabled = true → x.line ≠ .undecided →
      exec (.rxBreak r) s = .next s ∧ exec (.undecidedCharacterLineHigh r) s = .next s ∧
      (x.assembler = .hunt → exec (.interCharacterGap r) s = .next s ∧
        char 0xA5 true = .next (s.setRx r { x with line := .idle, assembler := .collect [] }) ∧
        ∀ b, b ≠ 0xA5 → char b true = .next (s.setRx r { x with line := .idle })) ∧
      (∀ b, b ≠ 0 → char b false =
        .next ((s.setRx r { x with line := .idle, assembler := .hunt }).occur framing (.rx r) none)) ∧
      char 0 false = .next (s.setRx r { x with line := .undecided }) ∧
      (∀ st, x.assembler = .collect st →
        exec (.interCharacterGap r) s = .next ((s.setRx r { x with assembler := .hunt }).occur framing (.rx r) none) ∧
        (∀ b, st.length < 11 → char b true =
          .next (s.setRx r { x with line := .idle, assembler := .collect (st ++ [b]) })) ∧
        (∀ b, st.length = 11 → (st.foldl (· + ·) 0 + b) ≠ 0 → char b true =
          .next ((s.setRx r { x with line := .idle, assembler := .hunt }).occur check (.rx r) none)) ∧
        (∀ b, st.length = 11 → (st.foldl (· + ·) 0 + b) = 0 → ∀ old, x.holding = some old → char b true =
          .next ((s.setRx r { x with line := .idle, assembler := .hunt }).occur overrun (.rx r) none)) ∧
        (∀ b b1 b2 b3 b4 b5 b6 b7 b8 b9 b10 b11, st = [b1, b2, b3, b4, b5, b6, b7, b8, b9, b10, b11] →
          (st.foldl (· + ·) 0 + b) = 0 → x.holding = none → ∃ g : RequestFrame,
            char b true = .next (s.setRx r { x with line := .idle, assembler := .hunt, holding := some g }) ∧
            g.approach.val = b1.toNat / 64 ∧
            g.kind = (if b1.toNat / 16 % 4 = 0 then .checkIn else if b1.toNat / 16 % 4 = 1 then .update
              else if b1.toNat / 16 % 4 = 2 then .checkOut else .cancel) ∧
            g.seq.toNat = b1.toNat % 16 ∧ g.vehicle.toNat = 256 * b2.toNat + b3.toNat ∧
            g.route.toNat = (256 * b4.toNat + b5.toNat) / 64 ∧ g.stopFlag = decide (b5.toNat / 32 % 2 = 1) ∧
            g.lateness.toNat = (256 * b6.toNat + b7.toNat) / 8 ∧ g.distance.toNat = (256 * b8.toNat + b9.toNat) / 32 ∧
            g.speed.toNat = (256 * b9.toNat + b10.toNat) / 16 % 512 ∧
            g.dwell.toNat = (256 * b10.toNat + b11.toNat) / 2 % 2048)))

/-! ## Intake and the request table -/

/-- Intake's take (R8, R37): nothing while it is BUSY, while a check waits or while no source is ready; else the first
ready source in ring order from the position after the pointer, which the pointer then names. A frame leaves its buffer,
with the reductions of R7 and the configuration in force now (R9, R10); a message leaves its receive queue; a loop item
is the lowest-numbered pending flag. That a take which cannot happen changes nothing, and which configuration an item
keeps, are the model's choices (assumptions 3, 17). -/
def Obligations.IntakeTakesInRingOrder : Prop :=
  let ring : List Source := [.rx .rx0, .rx .rx1, .link .linkA, .link .linkB, .loop]
  (∀ p : Source, sourcesAfter p = ring.rotate (ring.idxOf p + 1)) ∧
  ∀ s : State, s.held = false →
    let isReady (q : Source) : Prop :=
      match q with
      | .rx r => (s.rx r).holding ≠ none
      | .link p => (s.link p).received ≠ []
      | .loop => ∃ a : Approach, s.loops[a].pending = true
    let waiting : Prop := ∃ i : EntryIx, s.intake.staleDue[i] = true ∨ s.intake.expiryDue[i] = true
    ((s.intake.item ≠ none ∨ waiting ∨ ∀ q, ¬ isReady q) → exec .intakeTake s = .next s) ∧
    (∀ pre src post, s.intake.item = none → ¬ waiting → sourcesAfter s.intake.pointer = pre ++ src :: post →
      (∀ q ∈ pre, ¬ isReady q) →
      (∀ r g, src = .rx r → (s.rx r).holding = some g → ∃ report : Report,
        exec .intakeTake s = .next { s.setRx r { s.rx r with holding := none } with intake := { s.intake with
          pointer := .rx r
          item := some (.radio r report s.approaches[g.approach] s.routes s.classes) } } ∧
        report = { approach := g.approach, kind := g.kind, seq := g.seq, vehicle := g.vehicle, route := g.route,
                   stopFlag := g.stopFlag, lateness := max (-3000) (min 3000 g.lateness.toInt),
                   distance := g.distance.toNat, speed := min 300 g.speed.toNat, dwell := min 1200 g.dwell.toNat }) ∧
      (∀ p m sender more, src = .link p → (s.link p).received = (m, sender) :: more →
        exec .intakeTake s = .next { s.setLink p { s.link p with received := more } with intake := { s.intake with
          pointer := .link p, item := some (.handoff p m sender false) } }) ∧
      (∀ a : Approach, src = .loop → s.loops[a].pending = true → (∀ b, b < a → s.loops[b].pending = false) →
        ∃ t, exec .intakeTake s = .next t ∧
          t = { s with intake := { s.intake with pointer := .loop, item := some (.loop a) }, loops := t.loops } ∧
          t.loops[a] = { s.loops[a] with pending := false } ∧ ∀ b, b ≠ a → t.loops[b] = s.loops[b]))

/-- The arrival windows (R65, R66): the late time uses the speed raised to its floor and rounds up, the early one the
free-flow speed as well and rounds down, each with the dwell of a stop and within 4095 ds; the margin follows the late
time. A handoff's window is the travel nominal less and plus its tolerance, floored at 0. The level of a lateness is the
number of thresholds it reaches (R14). The route lookup gives the cap of the first enabled entry with the route, or
APPROACH where that entry's mask bars the approach; without one it gives level cap 1 in OPEN mode and ROUTE in STRICT
mode (R12). That bit n of the mask stands for approach n is the model's reading (assumption 25). -/
def Obligations.WindowsAndLevels : Prop :=
  (∀ (r : Report) (cfg : ApproachConfig) (t : Time), 1 ≤ cfg.vFloor →
    let w : Nat := if r.stopFlag then r.dwell else 0
    let slow := max r.speed cfg.vFloor
    let fast := max slow cfg.vFree
    ∃ late early : Nat, (radioWindow r cfg t).2 = timePlus t (min 4095 (late + w) + cfg.margin : Nat) ∧
      (radioWindow r cfg t).1 = timePlus t (min 4095 (early + w) : Nat) ∧
      (100 * r.distance ≤ late * slow ∧ late * slow < 100 * r.distance + slow) ∧
      early * fast ≤ 100 * r.distance ∧ 100 * r.distance < (early + 1) * fast) ∧
  (∀ (n tol : Nat) (t : Time), handoffWindow n tol t =
    (timePlus t ((if tol ≤ n then (n : Int) - tol else 0)), timePlus t ((n : Int) + tol))) ∧
  (∀ (ts : Vector Int 7) (x : Int), levelOf ts x ≤ 7 ∧ ((∀ i : Fin 7, ts[i] ≤ x) → levelOf ts x = 7) ∧
    ((∀ i : Fin 7, x < ts[i]) → levelOf ts x = 0) ∧
    ∀ k : Fin 7, (∀ i j : Fin 7, i ≤ j → ts[i] ≤ ts[j]) → ts[k] ≤ x → (∀ j : Fin 7, k < j → x < ts[j]) →
      levelOf ts x = k.val + 1) ∧
  (∀ (t : RouteTable) (route : Route) (a : Approach),
    let missing : Prop := ∀ k : Fin 32, t.entries[k].enabled = true → t.entries[k].route ≠ route
    (∀ j : Fin 32, t.entries[j].enabled = true → t.entries[j].route = route →
      (∀ k, k < j → t.entries[k].enabled = true → t.entries[k].route ≠ route) →
      (t.entries[j].mask.getLsbD a.val = true → lookupRoute t route a = .ok t.entries[j].cap) ∧
      (t.entries[j].mask.getLsbD a.val = false → lookupRoute t route a = .error .approach)) ∧
    (missing → t.mode = .openMode → lookupRoute t route a = .ok 1) ∧
    (missing → t.mode = .strict → lookupRoute t route a = .error .route))

/-- An accepted CHECK_IN or UPDATE of a vehicle that no live entry holds (R9, R10, R12, R20 to R23): a disabled approach
discards it; the wrong link is RX_SOURCE; a route the table refuses is a REJECTED record; else the lowest FREE entry, or
the victim of R22, which closes with EVICTED, is written whole and intake raises a cause; a full table without a victim
gives REJECTED with FULL. The victim is judged for entries created within half the time base's range. That bit n of a
route's mask stands for approach n is the model's reading (assumption 25). -/
def Obligations.RadioFramesCreateEntries : Prop :=
  ∀ (s : State) (link : RxId) (r : Report) (cfg : ApproachConfig) (routes : RouteTable) (classes : Vector Int 7),
    s.held = false → s.intake.item = some (.radio link r cfg routes classes) →
    let idle : State := { s with intake := { s.intake with item := none } }
    let run := exec .radioFrameApplication s
    let rejected (why : RejectReason) (level : Nat) : OutcomeRecord :=
      { time := s.time, vehicle := r.vehicle, route := r.route, approach := r.approach, level, body := .rejected why }
    (cfg.enabled = false → run = .next idle) ∧
    (cfg.enabled = true → cfg.link ≠ link → run = .next (idle.occur .rxSource (.rx link) (some r.vehicle))) ∧
    (cfg.enabled = true → cfg.link = link → (r.kind = .checkIn ∨ r.kind = .update) →
      (∀ (i : EntryIx) e, s.table[i] = some e → e.vehicle ≠ r.vehicle) →
      let count := levelOf classes r.lateness
      let found (j : Fin 32) : Prop := routes.entries[j].enabled = true ∧ routes.entries[j].route = r.route ∧
        ∀ k, k < j → routes.entries[k].enabled = true → routes.entries[k].route ≠ r.route
      let missing : Prop := ∀ k : Fin 32, routes.entries[k].enabled = true → routes.entries[k].route ≠ r.route
      (∀ j, found j → routes.entries[j].mask.getLsbD r.approach.val = false →
        run = .next (idle.pushOutcome (rejected .approach count))) ∧
      (missing → routes.mode = .strict → run = .next (idle.pushOutcome (rejected .route count))) ∧
      (∀ cap : Nat, ((∃ j, found j ∧ routes.entries[j].mask.getLsbD r.approach.val = true ∧ cap = routes.entries[j].cap) ∨
          (missing ∧ routes.mode = .openMode ∧ cap = 1)) →
        let level := min count cap
        let created : Entry :=
          { state := .tracking, vehicle := r.vehicle, route := r.route, approach := r.approach, level
            lateness := r.lateness, seq := r.seq, distance := r.distance, speed := r.speed, stopFlag := r.stopFlag
            dwell := r.dwell, lastUpdate := s.time, windowE := (radioWindow r cfg s.time).1
            windowL := (radioWindow r cfg s.time).2, origin := .radio, confirmed := true, wanted := .none, note := none
            lastAction := .none, grantedTotal := 0, created := s.time }
        (∀ i : EntryIx, s.table[i] = none → (∀ j, j < i → s.table[j] ≠ none) →
          run = .next (State.cause (idle.setEntry i (some created)))) ∧
        ((∀ i : EntryIx, s.table[i] ≠ none) →
          let eligible (i : EntryIx) (e : Entry) : Prop := s.table[i] = some e ∧ e.state = .tracking ∧ e.level < level
          ((∀ i e, ¬ eligible i e) → run = .next (idle.pushOutcome (rejected .full level))) ∧
          ((∃ i e, eligible i e) → (∀ (i : EntryIx) e, s.table[i] = some e → atOrAfter s.time e.created = true) →
            ∃ i e, eligible i e ∧
              run = .next (State.cause ((idle.closeEntry i e .evicted).setEntry i (some created))) ∧
              ∀ j g, eligible j g → j ≠ i →
                (e.confirmed = false ∧ g.confirmed = true) ∨ e.confirmed = g.confirmed ∧
                  (e.level < g.level ∨ e.level = g.level ∧
                    (isLater g.created e.created = true ∨ g.created = e.created ∧ i < j))))))

/-- A CHECK_IN or UPDATE of a live vehicle (R12, R13, R24 to R26): one whose sequence number is not 1 to 7 ahead of a
confirmed entry's is ignored; one whose route the table refuses is a REJECTED record and the entry keeps every field;
else the entry takes the frame's fields and becomes confirmed, intake is IDLE again and raises a cause. On the same
approach it keeps state and note, but that level 0 returns a PENDING entry to TRACKING; a change of approach returns it to
TRACKING with its note absent, a GRANTED one leaving its channel, which takes the highest level of the riders that remain
or ends with RELEASED, its refund and its cause (R112, R113). A channel takes its level from its riders. That the cause
of a channel so RELEASED, which the candidate list shows, is raised after the whole move, and the frame's own after it, is
the model's choice (assumption 4): R26 orders only the leaving. -/
def Obligations.RadioFramesUpdateEntries : Prop :=
  ∀ (s : State) (link : RxId) (r : Report) (cfg : ApproachConfig) (routes : RouteTable) (classes : Vector Int 7)
    (i : EntryIx) (e : Entry),
    s.held = false → s.intake.item = some (.radio link r cfg routes classes) → cfg.enabled = true → cfg.link = link →
    (r.kind = .checkIn ∨ r.kind = .update) → s.VehiclesDistinct → s.table[i] = some e → e.vehicle = r.vehicle →
    let idle : State := { s with intake := { s.intake with item := none } }
    let run := exec .radioFrameApplication s
    let accepted : Prop := e.confirmed = false ∨ (1 ≤ (r.seq - e.seq).toNat ∧ (r.seq - e.seq).toNat ≤ 7)
    let count := levelOf classes r.lateness
    (¬ accepted → run = .next idle) ∧
    (∀ why, accepted → lookupRoute routes r.route r.approach = .error why → run = .next (idle.pushOutcome
      { time := s.time, vehicle := r.vehicle, route := r.route, approach := r.approach, level := count
        body := .rejected why })) ∧
    (∀ cap, accepted → lookupRoute routes r.route r.approach = .ok cap →
      let level := min count cap
      let updated (st : EntryState) (note : Option Note) : Entry :=
        { e with state := st, note, route := r.route, approach := r.approach, level, lateness := r.lateness, seq := r.seq
                 distance := r.distance, speed := r.speed, stopFlag := r.stopFlag, dwell := r.dwell, lastUpdate := s.time
                 windowE := (radioWindow r cfg s.time).1, windowL := (radioWindow r cfg s.time).2, confirmed := true }
      (r.approach = e.approach →
        ((e.state = .tracking ∨ e.state = .pending ∧ 1 ≤ level) →
          run = .next (State.cause (idle.setEntry i (some (updated e.state e.note))))) ∧
        (e.state = .pending → level = 0 →
          run = .next (State.cause (idle.setEntry i (some (updated .tracking none))))) ∧
        (∀ c l, e.state = .granted c → s.channels[c].live = some l → ∃ h,
          run = .next (State.cause ((idle.setEntry i (some (updated e.state e.note))).setChannel c
            { s.channels[c] with live := some { l with level := h } })) ∧
          (idle.setEntry i (some (updated e.state e.note))).IsHighest l.riders h)) ∧
      (r.approach ≠ e.approach →
        ((∀ c, e.state ≠ .granted c) → run = .next (State.cause (idle.setEntry i (some (updated .tracking none))))) ∧
        (∀ c l, e.state = .granted c → s.channels[c].live = some l →
          let others := l.riders.filter fun j => decide (j ≠ i)
          (others ≠ [] → ∃ h, s.IsHighest others h ∧ run = .next (State.cause ((idle.setChannel c { s.channels[c] with
            live := some { l with riders := others, level := h } }).setEntry i (some (updated .tracking none))))) ∧
          (others = [] → ∃ v : State, run = .next (State.cause (State.cause v)) ∧
            v = { idle with table := v.table, channels := v.channels, account := v.account } ∧
            v.table[i] = some (updated .tracking none) ∧ (∀ j, j ≠ i → v.table[j] = s.table[j]) ∧
            v.channels[c] = { live := none, lastEnd := some (.released, s.time) } ∧
            (∀ d, d ≠ c → v.channels[d] = s.channels[d]) ∧ v.account = (s.endChannel c .released).account))))

/-- CHECK_OUT and CANCEL close the entry of their vehicle, wherever it stands, unless the sequence test ignores them,
and are dropped where no live entry holds it (R9, R31); a loop item closes the entry of its approach with the earliest
A_e, the lowest index among equals, and is dropped where the approach has none (R17). The earliest is judged for windows
within a quarter of the time base's range of now. That an application without its item changes nothing is the model's
choice (assumption 3). -/
def Obligations.CheckOutsCloseEntries : Prop :=
  ∀ s : State, s.held = false →
    let idle : State := { s with intake := { s.intake with item := none } }
    (∀ (link : RxId) (r : Report) (cfg : ApproachConfig) (routes : RouteTable) (classes : Vector Int 7),
      s.intake.item = some (.radio link r cfg routes classes) → cfg.enabled = true → cfg.link = link →
      (r.kind = .checkOut ∨ r.kind = .cancel) →
      let run := exec .radioFrameApplication s
      ((∀ (i : EntryIx) e, s.table[i] = some e → e.vehicle ≠ r.vehicle) → run = .next idle) ∧
      (∀ (i : EntryIx) e, s.VehiclesDistinct → s.table[i] = some e → e.vehicle = r.vehicle →
        let accepted : Prop := e.confirmed = false ∨ (1 ≤ (r.seq - e.seq).toNat ∧ (r.seq - e.seq).toNat ≤ 7)
        (accepted → run = .next (idle.closeEntry i e (if r.kind = .checkOut then .servedRadio else .cancelled))) ∧
        (¬ accepted → run = .next idle))) ∧
    (∀ a : Approach, s.intake.item = some (.loop a) →
      ((∀ (i : EntryIx) e, s.table[i] = some e → e.approach ≠ a) → exec .loopItem s = .next idle) ∧
      ((∃ (i : EntryIx) (e : Entry), s.table[i] = some e ∧ e.approach = a) →
        (∀ (i : EntryIx) e, s.table[i] = some e → (timeDiff e.windowE s.time).natAbs < 2 ^ 30) →
        ∃ i e, s.table[i] = some e ∧ e.approach = a ∧ exec .loopItem s = .next (idle.closeEntry i e .servedLoop) ∧
          ∀ (j : EntryIx) (g : Entry), s.table[j] = some g → g.approach = a → j ≠ i →
            isLater g.windowE e.windowE = true ∨ g.windowE = e.windowE ∧ i < j)) ∧
    ((∀ link r cfg routes classes, s.intake.item ≠ some (.radio link r cfg routes classes)) →
      exec .radioFrameApplication s = .next s) ∧
    ((∀ a, s.intake.item ≠ some (.loop a)) → exec .loopItem s = .next s)

/-- The judgement of a received handoff (R149, R27): NO_APPROACH, ROUTE and DUPLICATE change no entry; else the lowest
FREE entry, or the victim of R22, which closes with EVICTED, takes an unconfirmed entry with the handoff's window and the
result is ACCEPTED, or a full table without a victim gives FULL. The victim is judged for entries created within half the
time base's range. The ACK follows on the port unless it is OFF, has recognised a break since the take, or has four
messages queued. The configuration read is that in force at the judgement, the model's reading (assumption 17). -/
def Obligations.HandoffsAreJudged : Prop :=
  ∀ (s : State) (p : PortId) (m : HandoffMsg) (sender : Byte) (broken : Bool),
    s.held = false → s.intake.item = some (.handoff p m sender broken) →
    let idle : State := { s with intake := { s.intake with item := none } }
    let acked (u : State) (r : AckResult) : State :=
      if broken = true ∨ (s.link p).settings.role = .off ∨ 4 ≤ (s.link p).outgoing.length then u
      else u.setLink p { s.link p with outgoing := (s.link p).outgoing ++ [.ack m.id r] }
    let run := exec .handoffJudgement s
    let serves (a : Approach) : Prop := s.approaches[a].enabled = true ∧
      s.approaches[a].entrySide = (if p = .linkA then .fromA else .fromB)
    ((∀ a, ¬ serves a) → run = .next (acked idle .noApproach)) ∧
    (∀ a : Approach, serves a → (∀ b, b < a → ¬ serves b) →
      (∀ why, lookupRoute s.routes m.route a = .error why → run = .next (acked idle .route)) ∧
      (∀ cap, lookupRoute s.routes m.route a = .ok cap →
        ((∃ (i : EntryIx) (e : Entry), s.table[i] = some e ∧ e.vehicle = m.vehicle) →
          run = .next (acked idle .duplicate)) ∧
        ((∀ (i : EntryIx) e, s.table[i] = some e → e.vehicle ≠ m.vehicle) →
          let late := max (-3000) (min 3000 m.lateness)
          let level := min (levelOf s.classes late) cap
          let w := handoffWindow (min 6000 m.nominal) (min 1200 m.tolerance) s.time
          let created : Entry :=
            { state := .tracking, vehicle := m.vehicle, route := m.route, approach := a, level, lateness := late
              seq := 0, distance := 0, speed := 0, stopFlag := false, dwell := 0, lastUpdate := s.time
              windowE := w.1, windowL := w.2, origin := .handoff sender, confirmed := false, wanted := .none
              note := none, lastAction := .none, grantedTotal := 0, created := s.time }
          (∀ i : EntryIx, s.table[i] = none → (∀ j, j < i → s.table[j] ≠ none) →
            run = .next (acked (State.cause (idle.setEntry i (some created))) .accepted)) ∧
          ((∀ i : EntryIx, s.table[i] ≠ none) →
            let eligible (i : EntryIx) (e : Entry) : Prop := s.table[i] = some e ∧ e.state = .tracking ∧ e.level < level
            ((∀ i e, ¬ eligible i e) → run = .next (acked idle .full)) ∧
            ((∃ i e, eligible i e) → (∀ (i : EntryIx) e, s.table[i] = some e → atOrAfter s.time e.created = true) →
              ∃ i e, eligible i e ∧
                run = .next (acked (State.cause ((idle.closeEntry i e .evicted).setEntry i (some created))) .accepted) ∧
                ∀ j g, eligible j g → j ≠ i →
                  (e.confirmed = false ∧ g.confirmed = true) ∨ e.confirmed = g.confirmed ∧
                    (e.level < g.level ∨ e.level = g.level ∧
                      (isLater g.created e.created = true ∨ g.created = e.created ∧ i < j)))))))

/-- The table's timers and checks (R34, R35, R37). An entry falls due for a stale check T_stale after its last update,
and an unconfirmed one for an expiry check once its A_l is passed; intake, when it is IDLE, makes the waiting check of
the lowest index, which closes the entry only where it is still due, and does nothing else. The flags of checks that
wait are the model's own (assumption 27), as is an event that changes nothing (assumption 3). -/
def Obligations.StaleAndExpiryChecks : Prop :=
  ∀ s : State, s.held = false →
    let stale (e : Entry) : Prop := e.confirmed = true ∧ (s.policy.tStale : Int) ≤ timeDiff s.time e.lastUpdate
    let expired (e : Entry) : Prop := e.confirmed = false ∧ 0 < timeDiff s.time e.windowL
    (∀ i : EntryIx,
      (∀ e, s.table[i] = some e → stale e → ∃ t, exec (.staleExpiry i) s = .next t ∧
        t = { s with intake := { s.intake with staleDue := t.intake.staleDue } } ∧
        t.intake.staleDue[i] = true ∧ ∀ j, j ≠ i → t.intake.staleDue[j] = s.intake.staleDue[j]) ∧
      ((∀ e, s.table[i] = some e → ¬ stale e) → exec (.staleExpiry i) s = .next s) ∧
      (∀ e, s.table[i] = some e → expired e → ∃ t, exec (.unconfirmedExpiry i) s = .next t ∧
        t = { s with intake := { s.intake with expiryDue := t.intake.expiryDue } } ∧
        t.intake.expiryDue[i] = true ∧ ∀ j, j ≠ i → t.intake.expiryDue[j] = s.intake.expiryDue[j]) ∧
      ((∀ e, s.table[i] = some e → ¬ expired e) → exec (.unconfirmedExpiry i) s = .next s)) ∧
    (∀ i : EntryIx, s.intake.item = none →
      (∀ j, j < i → s.intake.staleDue[j] = false ∧ s.intake.expiryDue[j] = false) →
      (s.intake.staleDue[i] = true → ∃ u : State, u = { s with intake := { s.intake with staleDue := u.intake.staleDue } } ∧
        u.intake.staleDue[i] = false ∧ (∀ j, j ≠ i → u.intake.staleDue[j] = s.intake.staleDue[j]) ∧
        (∀ e, s.table[i] = some e → stale e → exec .staleCheck s = .next (u.closeEntry i e .stale)) ∧
        ((∀ e, s.table[i] = some e → ¬ stale e) → exec .staleCheck s = .next u)) ∧
      (s.intake.expiryDue[i] = true → ∃ u : State,
        u = { s with intake := { s.intake with expiryDue := u.intake.expiryDue } } ∧
        u.intake.expiryDue[i] = false ∧ (∀ j, j ≠ i → u.intake.expiryDue[j] = s.intake.expiryDue[j]) ∧
        (∀ e, s.table[i] = some e → expired e → exec .expiryCheck s = .next (u.closeEntry i e .unconfirmedExpired)) ∧
        ((∀ e, s.table[i] = some e → ¬ expired e) → exec .expiryCheck s = .next u))) ∧
    (s.intake.item ≠ none → exec .staleCheck s = .next s ∧ exec .expiryCheck s = .next s)

/-- The check-out loops (R15, R16): a change that two equal samples have asked for makes an ARMED loop ACTIVE from the
first of them, with its pending flag set and its stuck-reported flag clear, or an ACTIVE one ARMED; an activation longer
than the stuck limit in force since the last sample is reported once, with the approach as the fault's source. A change
waits for its event, and an event without one changes nothing, by the model's choice (assumptions 3, 16). -/
def Obligations.LoopsRecogniseCrossings : Prop :=
  ∀ (s : State) (a : Approach), s.held = false →
    let l := s.loops[a]
    let stuck : Prop := l.active = true ∧ l.stuckReported = false ∧ (s.stuckLimit : Int) < timeDiff s.time l.activation
    (∀ u, l.changeAt = some u → l.active = false → exec (.loopClear a) s = .next s ∧
      ∃ t, exec (.loopActivation a) s = .next t ∧ t = { s with loops := t.loops } ∧
        t.loops[a] = { l with active := true, activation := u - 1, stuckReported := false, pending := true,
                              changeAt := none } ∧ ∀ b, b ≠ a → t.loops[b] = s.loops[b]) ∧
    (∀ u, l.changeAt = some u → l.active = true → exec (.loopActivation a) s = .next s ∧
      ∃ t, exec (.loopClear a) s = .next t ∧ t = { s with loops := t.loops } ∧
        t.loops[a] = { l with active := false, changeAt := none } ∧ ∀ b, b ≠ a → t.loops[b] = s.loops[b]) ∧
    (l.changeAt = none → exec (.loopActivation a) s = .next s ∧ exec (.loopClear a) s = .next s) ∧
    (stuck → ∃ u : State, exec (.checkoutStuck a) s = .next (u.occur .checkoutStuck (.approach a) none) ∧
      u = { s with loops := u.loops } ∧ u.loops[a] = { l with stuckReported := true } ∧
      ∀ b, b ≠ a → u.loops[b] = s.loops[b]) ∧
    (¬ stuck → exec (.checkoutStuck a) s = .next s)

/-! ## The phase tracker -/

/-- A green onset in NO_PLAN that is no conflict (R50, R55, R56): one of the staged plan's slot-0 phase adopts the staged
plan, and the tracker enters IN_STEP with no fault; any other raises PLAN_MISSING, and the tracker stays in NO_PLAN. That
an adoption ends channels from EC0 to EC3 (assumption 4), finds a last decisecond either way (assumptions 10, 34), and
that of two onsets of one decisecond each is judged as it is given (assumption 40), are the model's choices. -/
def Obligations.OnsetWithoutPlan : Prop :=
  ∀ (s : State) (ph : Phase) (t0 : Time), s.held = false → s.tracker = .noPlan →
    s.inputs[phaseIndex ph].changeAt = some t0 → s.inputs[phaseIndex ph].recognised = false →
    (∀ q, q ≠ ph → s.inputs[phaseIndex q].recognised = false) →
    ∃ u : State, u = { s with inputs := u.inputs } ∧
      u.inputs[phaseIndex ph] = { s.inputs[phaseIndex ph] with recognised := true, changeAt := none } ∧
      (∀ q, q ≠ ph → u.inputs[phaseIndex q] = s.inputs[phaseIndex q]) ∧
      (∀ p, s.plans.staged = some p → (p.slots.head?).map (·.phase) = some ph →
        ∃ t, exec (.greenOnset ph) s = .next t ∧ u.Adopts t p t0) ∧
      ((∀ p, s.plans.staged = some p → (p.slots.head?).map (·.phase) ≠ some ph) →
        exec (.greenOnset ph) s = .next (u.occur .planMissing .none none) ∧
        (u.occur .planMissing .none none).tracker = .noPlan)

/-- A green onset with a plan active (R46, R47, R49, R52 to R56). One that finds another input ACTIVE is a conflict. In
UNSYNCED the staged plan is adopted at its slot-0 phase, the active plan's slot-0 phase is a cycle boundary without a
length check, and any other onset has no effect. In IN_STEP the staged plan is adopted where the onset is legal; else
slot 0 is a boundary, with CYCLE_LENGTH where the interval differs from C by more than 100 ds; a later slot becomes the
current one; and any other phase is a SEQUENCE_BREAK, which takes the tracker to UNSYNCED. A boundary and a move raise an
evaluation cause (R79), and an advance to the slot ends COMPLETE with its own cause (R110, R113). An onset that no input
waits for changes nothing (assumption 3), the blocks take an onset in R57's order and the channels theirs from EC0 to EC3
(assumption 4), a last decisecond and a trigger's reason fall either way (assumptions 5, 10, 34), and of two onsets of one
decisecond each is judged as it is given (assumption 40), by the model's choice. -/
def Obligations.OnsetsFollowTheRing : Prop :=
  ∀ (s : State) (ph : Phase), s.held = false →
    let x := s.inputs[phaseIndex ph]
    let run := exec (.greenOnset ph) s
    (x.changeAt = none ∨ x.recognised = true → run = .next s) ∧
    (∀ t0, x.changeAt = some t0 → x.recognised = false → ∃ u : State, u = { s with inputs := u.inputs } ∧
      u.inputs[phaseIndex ph] = { x with recognised := true, changeAt := none } ∧
      (∀ q, q ≠ ph → u.inputs[phaseIndex q] = s.inputs[phaseIndex q]) ∧
      let another : Prop := ∃ q, q ≠ ph ∧ s.inputs[phaseIndex q].recognised = true
      let coordinates (p : Plan) : Prop := (p.slots.head?).map (·.phase) = some ph
      (another → (∀ r, s.tracker ≠ .inStep r) → run = .next (u.occur .phaseConflict .none none)) ∧
      (∀ r, another → s.tracker = .inStep r → ∃ t, run = .next t ∧ u.LeavesInStep t .phaseConflict) ∧
      (¬ another → s.tracker = .unsynced →
        (∀ q, s.plans.staged = some q → coordinates q → ∃ t, run = .next t ∧ u.Adopts t q t0) ∧
        ((∀ q, s.plans.staged = some q → ¬ coordinates q) → ∀ p, s.plans.active = some p →
          (coordinates p → ∃ t, run = .next t ∧ u.Boundary t t0) ∧ (¬ coordinates p → run = .next u))) ∧
      (∀ r p, ¬ another → s.tracker = .inStep r → s.plans.active = some p →
        let at_ := slotOf p ph
        let adoptable (q : Plan) : Prop := s.plans.staged = some q ∧ coordinates q ∧ ∃ k, at_ = some k ∧ (k = 0 ∨ r.cur < k)
        (∀ q, adoptable q → ∃ t, run = .next t ∧ u.Adopts t q t0) ∧
        ((∀ q, ¬ adoptable q) →
          (at_ = some 0 → ∃ v, u.Boundary v t0 ∧
            ((timeDiff t0 r.lastBoundary - p.cycle).natAbs ≤ 100 → run = .next v) ∧
            (100 < (timeDiff t0 r.lastBoundary - p.cycle).natAbs → run = .next (v.occur .cycleLength .none none))) ∧
          (∀ k, at_ = some k → k ≠ 0 → r.cur < k → ∃ t, run = .next t ∧
            t = State.endingThose (State.cause { u with
                tracker := .inStep { r with cur := k, period := .green, onset := t0 }
                account := { s.account with xcur := 0 } })
              (fun l => !isExtend l && decide (l.slot = k)) (fun _ => .complete) ∧
            t = { u with tracker := .inStep { r with cur := k, period := .green, onset := t0 }
                         account := { s.account with xcur := 0 }
                         channels := t.channels, table := t.table, engine := t.engine } ∧
            (∀ (c : ChannelIx) l, s.channels[c].live = some l → l.slot = k → isExtend l = false →
              t.channels[c] = { live := none, lastEnd := some (.complete, s.time) }) ∧
            (∀ c : ChannelIx, (∀ l, s.channels[c].live = some l → l.slot ≠ k ∨ isExtend l = true) →
              t.channels[c] = s.channels[c])) ∧
          ((at_ = none ∨ ∃ k, at_ = some k ∧ k ≠ 0 ∧ k ≤ r.cur) →
            ∃ t, run = .next t ∧ u.LeavesInStep t .sequenceBreak))))

/-- A green drop (R46, R51): one of the current slot's phase while GREEN begins its clearance at the drop's time, ends
an extension of that slot with GREEN_ENDED, its refund, its riders and its cause (R108, R113, R115), and starts every
ARMED advance (R109); any other changes nothing but the recognised level. The drop itself raises a cause (R51, R79), here
before the channels take it (R57; assumption 4). A drop that no input waits for changes nothing, by the model's choice
(assumption 3); which outcome a last decisecond has is free (assumptions 10, 34). -/
def Obligations.DropsBeginClearance : Prop :=
  ∀ (s : State) (ph : Phase), s.held = false →
    let x := s.inputs[phaseIndex ph]
    let run := exec (.greenDrop ph) s
    let current (r : StepRecord) (p : Plan) : Prop :=
      s.tracker = .inStep r ∧ s.plans.active = some p ∧ r.period = .green ∧ (slotAt p r.cur).phase = ph
    (x.changeAt = none ∨ x.recognised = false → run = .next s) ∧
    (∀ t0, x.changeAt = some t0 → x.recognised = true → ∃ t, run = .next t ∧
      t.inputs[phaseIndex ph] = { x with recognised := false, changeAt := none } ∧
      (∀ q, q ≠ ph → t.inputs[phaseIndex q] = s.inputs[phaseIndex q]) ∧
      ((∀ r p, ¬ current r p) → t = { s with inputs := t.inputs }) ∧
      (∀ r p, current r p →
        t = { s with inputs := t.inputs, tracker := .inStep { r with period := .clearance t0 }, channels := t.channels
                     table := t.table, account := t.account, engine := t.engine, freeIndex := t.freeIndex } ∧
        ∀ c : ChannelIx, (s.channels[c].live = none → t.channels[c] = s.channels[c]) ∧
          ∀ l, s.channels[c].live = some l →
            (isExtend l = true → l.slot = r.cur → s.EndsWith t c l .greenEnded) ∧
            (isExtend l = true → l.slot ≠ r.cur → t.channels[c] = s.channels[c]) ∧
            (isExtend l = false → l.run = .armed →
              t.channels[c] = { s.channels[c] with live := some { l with run := .running } }) ∧
            (isExtend l = false → l.run ≠ .armed → t.channels[c] = s.channels[c])) ∧
      (∀ r p, current r p → ∃ v : State,
        (State.cause { s with inputs := t.inputs, tracker := .inStep { r with period := .clearance t0 } }).CountsSettled v
          (fun l => decide (l.slot = r.cur)) ∧
        let w := v.endingThose (fun l => isExtend l && decide (l.slot = r.cur)) (fun _ => .greenEnded)
        t = { w with channels := t.channels } ∧
        ∀ c : ChannelIx, (w.channels[c].live = none → t.channels[c] = w.channels[c]) ∧
          ∀ l, w.channels[c].live = some l →
            (isExtend l = false → l.run = .armed →
              t.channels[c] = { w.channels[c] with live := some { l with run := .running } }) ∧
            (isExtend l = true ∨ l.run ≠ .armed → t.channels[c] = w.channels[c])))

/-! ## The decision engine -/

/-- A turn of the pass (R80 to R87, R90, R93, R94): nothing without a pass, and a pass without its running condition
stops. A FREE entry, another vehicle's, one of level 0 and a rider of an advance are skipped. An extension of the
current green, with no channel on its slot and no channel in its way, is needed where A_l* is after the planned end, and
is granted whole on the lowest-numbered IDLE channel or denied by the first of its four checks; an advance, with no
channel on its slot or charging it, is needed where A_e* is before the time to green, and is granted up to the capacity
and budget unless that is under Amin. A denial leaves the entry PENDING where it stands for resources, else TRACKING.
CONFLICT and CAPACITY stand without preemption, and with it where some channel in the way has the candidate's level or
more, or none is in the way (R92). That a turn without a pass changes nothing, that a pass stops at a turn, and that a
need may be 0, are the model's choices (assumptions 3, 29, 34). -/
def Obligations.TurnsGrantOrDeny : Prop :=
  ∀ s : State, s.held = false →
    let run := exec .candidateTurn s
    (s.engine.pass = none → run = .next s) ∧
    (s.engine.pass ≠ none → ¬ s.RunningCondition → run = .next { s with engine := { pass := none, again := false } }) ∧
    (∀ (i : EntryIx) (v : Vehicle) rest f, s.engine.pass = some ((i, v) :: rest) → s.RunningCondition →
      s.figures = some f →
      let u : State := { s with engine := { s.engine with pass := some rest } }
      let skipped : Prop := run = .next (u.afterTurn rest)
      (s.table[i] = none → skipped) ∧
      (∀ e : Entry, s.table[i] = some e →
        (e.vehicle ≠ v ∨ e.level = 0 → skipped) ∧
        (∀ c l d, e.state = .granted c → s.channels[c].live = some l → l.action = .advance d → skipped) ∧
        (e.vehicle = v → 1 ≤ e.level → (∀ c, e.state ≠ .granted c) →
          let denied (d : Denial) (st : EntryState) (w : ActionMark) : Prop :=
            run = .next ((u.setEntry i (some { e with state := st, note := some (.denied d), wanted := w })).afterTurn rest)
          let aE := laterOf e.windowE s.time
          let aL := laterOf e.windowL s.time
          let ph := s.approaches[e.approach].phase
          (slotOf f.plan ph = none → denied .noPhase .tracking .none) ∧
          (∀ j : SlotIx, slotOf f.plan ph = some j →
            let untouched : Prop := ∀ (c : ChannelIx) l, s.channels[c].live = some l → l.slot ≠ j
            let inWay (l : LiveChannel) : Prop := j ∈ l.charges.map (·.1) ∨
              j = f.step.cur ∧ l.slot.val < f.plan.slots.length ∧ f.step.cur < l.slot
            let stands : Prop := s.policy.preemption = false ∨
              (∃ (c : ChannelIx) (l : LiveChannel), s.channels[c].live = some l ∧ inWay l ∧ e.level ≤ l.level) ∨
              ∀ (c : ChannelIx) l, s.channels[c].live = some l → ¬ inWay l
            ((s.policy.horizon : Int) < timeDiff aE s.time → denied .far .tracking .none) ∧
            (timeDiff aE s.time ≤ s.policy.horizon →
              ((j = f.step.cur ∧ f.step.period ≠ .green ∨ j < f.step.cur ∧ j ≠ 0) → denied .nextCycle .tracking .none) ∧
              (j = f.step.cur → f.step.period = .green → untouched →
                (atOrAfter f.plannedEnd aL = true → denied .noneNeeded .tracking .none) ∧
                (atOrAfter f.plannedEnd aL = false →
                  let n := (timeDiff aL f.referenceEnd).toNat
                  let charged : Prop := ∃ (c : ChannelIx) (l : LiveChannel), s.channels[c].live = some l ∧
                    isExtend l = false ∧ j ∈ l.charges.map (·.1)
                  ((slotAt f.plan j).e < s.account.xcur + n → denied .extLimit .tracking .extend) ∧
                  (s.account.xcur + n ≤ (slotAt f.plan j).e → ¬ charged →
                    (f.sExt < n → stands → denied .capacity .pending .extend) ∧
                    (n ≤ f.sExt → s.account.budgetLeft < n → denied .budget .pending .extend) ∧
                    (n ≤ f.sExt → n ≤ s.account.budgetLeft →
                      (∀ c, s.LowestIdle c → ∃ t l, run = .next (t.afterTurn rest) ∧
                        f.Extends l n i e.level .decision ∧ u.Granted t c i e l .extend f.plan n) ∧
                      ((∀ c : ChannelIx, s.channels[c].live ≠ none) → s.policy.preemption = false →
                        denied .noChannel .pending .extend))) ∧
                  (s.account.xcur + n ≤ (slotAt f.plan j).e → charged → stands →
                    denied .conflict .pending .extend))) ∧
              ((f.step.cur < j ∨ j = 0 ∧ f.step.cur ≠ 0) → untouched →
                let charged : Prop := ∃ (c : ChannelIx) (l : LiveChannel), s.channels[c].live = some l ∧
                  j ∈ l.charges.map (·.1)
                (charged → stands → denied .conflict .pending .advance) ∧
                (¬ charged →
                  (atOrAfter aE (f.timeToGreen j) = true → denied .noneNeeded .tracking .none) ∧
                  (atOrAfter aE (f.timeToGreen j) = false →
                    let n := min (timeDiff (f.timeToGreen j) aE).toNat (min (f.sAdv j) s.account.budgetLeft)
                    (n = 0 ∨ n < s.policy.aMin → denied .advShort .tracking .advance) ∧
                    (1 ≤ n → s.policy.aMin ≤ n →
                      (∀ c, s.LowestIdle c → ∃ t l, run = .next (t.afterTurn rest) ∧
                        f.Advances l j n i e.level .decision ∧ u.Granted t c i e l .advance f.plan 0) ∧
                      ((∀ c : ChannelIx, s.channels[c].live ≠ none) → s.policy.preemption = false →
                        denied .noChannel .pending .advance))))))))))

/-- Joins, top-ups and preemption (R83, R88 to R92). A candidate joins the channel of its action on its slot unless it
needs none of it or four ride already, and takes the channel's whole amount; an extension joined past its planned end is
topped up by the need under the four checks of R85 (R89), as at a rider's own turn, where a failed one is its note. A
feasible grant with no IDLE channel takes the eligible channel of lowest level, then latest grant, then highest number,
where it stays feasible after that channel's end (R91). CONFLICT and CAPACITY end every channel in the way, all of lower
level, in number order, where the candidate is then feasible (R92). That a top-up leaves the rider's note (assumption 26),
and that a need may be 0 (assumption 34), are the model's readings. -/
def Obligations.TurnsJoinTopUpAndPreempt : Prop :=
  (∀ (f : Figures) (aE aL : Time) (j : SlotIx) (n : Nat),
    let live (P : LiveChannel → Prop) : Prop := ∃ (c : ChannelIx) (l : LiveChannel), f.channels[c].live = some l ∧ P l
    (f.judgeCase (aE, aL) j = .feasible (.extend n) ↔
      j = f.step.cur ∧ f.step.period = .green ∧ ¬ live (fun l => isExtend l = true ∧ l.slot = j) ∧
      atOrAfter f.plannedEnd aL = false ∧ n = (timeDiff aL f.referenceEnd).toNat ∧
      f.account.xcur + n ≤ (slotAt f.plan j).e ∧ ¬ live (fun l => isExtend l = false ∧ j ∈ l.charges.map (·.1)) ∧
      n ≤ f.sExt ∧ n ≤ f.account.budgetLeft) ∧
    ∀ k, f.judgeCase (aE, aL) j = .feasible (.advance k n) ↔
      k = j ∧ (f.step.cur < j ∨ j = 0 ∧ f.step.cur ≠ 0) ∧ ¬ live (fun l => isExtend l = false ∧ l.slot = j) ∧
      ¬ live (fun l => j ∈ l.charges.map (·.1)) ∧ atOrAfter aE (f.timeToGreen j) = false ∧
      n = min (timeDiff (f.timeToGreen j) aE).toNat (min (f.sAdv j) f.account.budgetLeft) ∧ 1 ≤ n ∧ f.policy.aMin ≤ n) ∧
  ∀ (s : State) (i : EntryIx) (v : Vehicle) (rest : List (EntryIx × Vehicle)) (f : Figures) (e : Entry), s.held = false →
    s.engine.pass = some ((i, v) :: rest) → s.RunningCondition → s.figures = some f → s.table[i] = some e →
    e.vehicle = v → 1 ≤ e.level →
    let run := exec .candidateTurn s
    let u : State := { s with engine := { s.engine with pass := some rest } }
    let aE := laterOf e.windowE s.time
    let aL := laterOf e.windowL s.time
    let denied (d : Denial) (st : EntryState) (w : ActionMark) : Prop :=
      run = .next ((u.setEntry i (some { e with state := st, note := some (.denied d), wanted := w })).afterTurn rest)
    let need := (timeDiff aL f.referenceEnd).toNat
    let pairs := f.allocation f.extensionSlots need
    let fits : Prop := s.account.xcur + need ≤ (slotAt f.plan f.step.cur).e
    let charged : Prop := ∃ (b : ChannelIx) (m : LiveChannel), s.channels[b].live = some m ∧ isExtend m = false ∧
      f.step.cur ∈ m.charges.map (·.1)
    let passes : Prop := fits ∧ ¬ charged ∧ need ≤ f.sExt ∧ need ≤ s.account.budgetLeft
    let full (j : SlotIx) : Prop := (∀ g, e.state ≠ .granted g) ∧ timeDiff aE s.time ≤ s.policy.horizon ∧
      slotOf f.plan s.approaches[e.approach].phase = some j
    let alone (c : ChannelIx) (j : SlotIx) : Prop :=
      ∀ (b : ChannelIx) m, b ≠ c → s.channels[b].live = some m → m.slot ≠ j
    let rides (c : ChannelIx) (w : ActionMark) (amount : Nat) : Entry :=
      { e with state := .granted c, note := none, wanted := w, lastAction := w
               grantedTotal := min 65535 (e.grantedTotal + amount) }
    let joins (c : ChannelIx) (l : LiveChannel) (w : ActionMark) : Prop := ∃ h,
      let joined := u.setEntry i (some (rides c w l.amount))
      run = .next ((joined.setChannel c { s.channels[c] with
        live := some { l with riders := l.riders ++ [i], level := h } }).afterTurn rest) ∧
      joined.IsHighest (l.riders ++ [i]) h
    (∀ (c : ChannelIx) l d j, full j → (f.step.cur < j ∨ j = 0 ∧ f.step.cur ≠ 0) → s.channels[c].live = some l →
      l.action = .advance d → l.slot = j → alone c j →
      let without := timePlus (f.timeToGreen j) l.amount
      (4 ≤ l.riders.length → denied .ridersFull .pending .advance) ∧
      (l.riders.length < 4 → atOrAfter aE without = true → denied .noneNeeded .tracking .none) ∧
      (l.riders.length < 4 → atOrAfter aE without = false → joins c l .advance)) ∧
    (∀ (c : ChannelIx) l rem rf j, full j → j = f.step.cur → f.step.period = .green → s.channels[c].live = some l →
      l.action = .extend rem rf → l.slot = j → alone c j →
      let without := timePlus f.plannedEnd (-(l.amount : Int))
      (4 ≤ l.riders.length → denied .ridersFull .pending .extend) ∧
      (l.riders.length < 4 → atOrAfter without aL = true → denied .noneNeeded .tracking .none) ∧
      (l.riders.length < 4 → atOrAfter without aL = false →
        (atOrAfter f.plannedEnd aL = true → joins c l .extend) ∧
        (atOrAfter f.plannedEnd aL = false →
          (¬ fits → denied .extLimit .tracking .extend) ∧ (fits → charged → denied .conflict .pending .extend) ∧
          (fits → ¬ charged → f.sExt < need → denied .capacity .pending .extend) ∧
          (fits → ¬ charged → need ≤ f.sExt → s.account.budgetLeft < need → denied .budget .pending .extend) ∧
          (passes → need = 0 → joins c l .extend) ∧
          (passes → 1 ≤ need → l.riders.Nodup → i ∉ l.riders → ∃ t : State, run = .next (t.afterTurn rest) ∧
            t = { u with account := { chargeAll f.plan s.account pairs with xcur := s.account.xcur + need }
                         channels := t.channels, table := t.table } ∧
            (∃ h, t.channels[c] = { s.channels[c] with live := some { l with
              amount := l.amount + need, action := .extend (rem + need) rf, charges := mergePairs l.charges pairs
              riders := l.riders ++ [i], level := h } } ∧ t.IsHighest (l.riders ++ [i]) h) ∧
            (∀ b, b ≠ c → t.channels[b] = s.channels[b]) ∧
            t.table[i] = some (rides c .extend (l.amount + need)) ∧
            (∀ (k : EntryIx) g, k ∈ l.riders → s.table[k] = some g →
              t.table[k] = some { g with grantedTotal := min 65535 (g.grantedTotal + need) }) ∧
            ∀ k, k ∉ l.riders → k ≠ i → t.table[k] = s.table[k])))) ∧
    (∀ (c : ChannelIx) l rem rf, e.state = .granted c → s.channels[c].live = some l → i ∈ l.riders →
      l.action = .extend rem rf →
      let kept (d : Denial) : Prop := denied d e.state .extend
      (atOrAfter f.plannedEnd aL = true → run = .next (u.afterTurn rest)) ∧
      (atOrAfter f.plannedEnd aL = false →
        (¬ fits → kept .extLimit) ∧ (fits → charged → kept .conflict) ∧
        (fits → ¬ charged → f.sExt < need → kept .capacity) ∧
        (fits → ¬ charged → need ≤ f.sExt → s.account.budgetLeft < need → kept .budget) ∧
        (passes → l.riders.Nodup → ∃ t : State, run = .next (t.afterTurn rest) ∧
          t = { u with account := { chargeAll f.plan s.account pairs with xcur := s.account.xcur + need }
                       channels := t.channels, table := t.table } ∧
          (∃ h, t.channels[c] = { s.channels[c] with live := some { l with
            amount := l.amount + need, action := .extend (rem + need) rf, charges := mergePairs l.charges pairs
            level := h } } ∧ s.IsHighest l.riders h) ∧
          (∀ b, b ≠ c → t.channels[b] = s.channels[b]) ∧
          (∀ (k : EntryIx) g, k ∈ l.riders → s.table[k] = some g →
            t.table[k] = some { g with grantedTotal := min 65535 (g.grantedTotal + need) }) ∧
          ∀ k, k ∉ l.riders → t.table[k] = s.table[k]))) ∧
    (∀ j, full j → s.policy.preemption = true →
      let granted (v : State) (g : Figures) (c : ChannelIx) (p : Proposal) : Prop := ∃ t k, run = .next (t.afterTurn rest) ∧
        (∀ n, p = .extend n → g.Extends k n i e.level .decision ∧ v.Granted t c i e k .extend g.plan n) ∧
        ∀ n, p = .advance j n → g.Advances k j n i e.level .decision ∧ v.Granted t c i e k .advance g.plan 0
      let w : ActionMark := if j = f.step.cur then .extend else .advance
      (∀ p, (∀ c : ChannelIx, s.channels[c].live ≠ none) → f.judgeCase (aE, aL) j = .feasible p →
        ((∀ (c : ChannelIx) l, s.channels[c].live = some l → e.level ≤ l.level) → denied .noChannel .pending w) ∧
        (∀ (c : ChannelIx) l, s.channels[c].live = some l → l.level < e.level →
          (∀ (b : ChannelIx) m, b ≠ c → s.channels[b].live = some m → m.level < e.level →
            l.level < m.level ∨ l.level = m.level ∧
              (isLater l.grantTime m.grantTime = true ∨ l.grantTime = m.grantTime ∧ b < c)) →
          ∀ g, (u.endChannel c .preempted).figures = some g →
            ((∀ q, g.judgeCase (aE, aL) j ≠ .feasible q) → denied .noChannel .pending w) ∧
            (∀ q, g.judgeCase (aE, aL) j = .feasible q → granted (u.endChannel c .preempted) g c q))) ∧
      (∀ d x, (d = .conflict ∨ d = .capacity) → f.judgeCase (aE, aL) j = .deny d x →
        (∀ (c : ChannelIx) l, s.channels[c].live = some l → isExtend l = true → j = f.step.cur → l.slot ≠ j) →
        let inWay (l : LiveChannel) : Bool := decide (j ∈ l.charges.map (·.1)) ||
          decide (j = f.step.cur ∧ l.slot.val < f.plan.slots.length ∧ f.step.cur < l.slot)
        let cleared : State := ([0, 1, 2, 3] : List ChannelIx).foldl (fun (v : State) (c : ChannelIx) => match s.channels[c].live with
          | some l => if inWay l then v.endChannel c .preempted else v
          | none => v) u
        ((∃ (c : ChannelIx) (l : LiveChannel), s.channels[c].live = some l ∧ inWay l = true ∧ e.level ≤ l.level) →
          denied d .pending w) ∧
        ((∀ (c : ChannelIx) l, s.channels[c].live = some l → inWay l = true → l.level < e.level) →
          ∀ g, cleared.figures = some g →
            ((∀ q, g.judgeCase (aE, aL) j ≠ .feasible q) → denied d .pending w) ∧
            (∀ q c, g.judgeCase (aE, aL) j = .feasible q → cleared.LowestIdle c → granted cleared g c q))))

/-! ## Corridor ports -/

/-- A poller's POLL begins when its poll timer has expired, and a responder's REPLY after a valid POLL, on a line that
is not in use (R139, R141): each carries the identity, the contained flag and, while the link is UP, the head of the
outgoing queue (R144, R152). At its last character the message leaves the queue, a HANDOFF for the end of the
awaiting-ack list (R144, R146), and a POLL opens the reply window (R139); then the writes that wait are made in order, and
a break that waits begins (R134, R136, R150). An event that cannot happen changes nothing (assumption 3), the waiting
writes are all made and come before a waiting break (assumption 21), and no POLL or REPLY begins in the start-up interval
(assumption 23), by the model's choice. -/
def Obligations.PortsSendFrames : Prop :=
  ∀ (s : State) (p : PortId), s.held = false →
    let x := s.link p
    let frame (isReply : Bool) : OutFrame :=
      { isReply, sender := s.identity, contained := decide (s.containment.state ≠ .normal)
        msg := if x.state = .up then x.outgoing.head? else none }
    let free : Prop := (x.state = .syncing ∨ x.state = .up ∨ x.state = .down) ∧ x.line = .listening ∧ s.startUpEnd = none
    let pollable : Prop := free ∧ x.settings.role = .poller ∧ x.windowClose = none ∧
      ∃ d, x.pollDue = some d ∧ atOrAfter s.time d = true
    (pollable → exec (.poll p) s =
      .next (s.setLink p { x with line := .frame (frame false), pollDue := none, pollStart := s.time })) ∧
    (¬ pollable → exec (.poll p) s = .next s) ∧
    (free → x.replyDue = true → exec (.reply p) s =
      .next (s.setLink p { x with line := .frame (frame true), replyDue := false })) ∧
    (¬ free ∨ x.replyDue = false → exec (.reply p) s = .next s) ∧
    (∀ g, x.line = .frame g →
      let sent : CorridorPort := { x with
        line := .listening, deferredWrites := []
        windowClose := if g.isReply then x.windowClose else some (timePlus s.time x.settings.replyWindow) }
      let ends (y : CorridorPort) : Prop :=
        let written := x.deferredWrites.foldl (fun v st => v.writeSettings p st) (s.setLink p y)
        (x.breakWaiting = false → exec (.transmissionEnd p) s = .next written) ∧
        (x.breakWaiting = true → exec (.transmissionEnd p) s =
          .next (written.setLink p { written.link p with line := .sendingBreak, breakWaiting := false }))
      (g.msg = none → ends sent) ∧
      (∀ id r, g.msg = some (.ack id r) → ends { sent with outgoing := x.outgoing.tail }) ∧
      (∀ m a level tmo, g.msg = some (.handoff m a level tmo) → ends { sent with
        outgoing := x.outgoing.tail
        awaiting := x.awaiting ++ [{ id := m.id, deadline := timePlus s.time tmo, vehicle := m.vehicle
                                     route := m.route, approach := a, level }] })) ∧
    ((∀ g, x.line ≠ .frame g) → exec (.transmissionEnd p) s = .next s)

/-- A reply window that closes unanswered is a miss, and at the miss limit a link in SYNCING or UP goes DOWN with its
fault (R140), the next POLL due at the later of the poll interval's end and the close (R139); a responder whose silence
timer expires goes DOWN with its fault (R141); an awaiting item whose deadline is reached leaves the list with an
UNCONFIRMED record (R146, R147). An event before its time changes nothing, by the model's choice (assumption 3). -/
def Obligations.WindowsSilenceAndDeadlines : Prop :=
  ∀ (s : State) (p : PortId), s.held = false →
    let x := s.link p
    let down : FaultKind := if p = .linkA then .linkADown else .linkBDown
    let alive : Prop := x.state = .syncing ∨ x.state = .up
    (∀ w, x.windowClose = some w → atOrAfter s.time w = true →
      let n := min (x.missCount + 1) x.settings.missLimit
      let y : CorridorPort := { x with
        windowClose := none, missCount := n
        pollDue := some (laterOf (timePlus x.pollStart x.settings.pollInterval) s.time) }
      (alive ∧ n = x.settings.missLimit → exec (.replyWindowClose p) s =
        .next ((s.setLink p { y with state := .down }).occur down (.link p) none)) ∧
      (¬ (alive ∧ n = x.settings.missLimit) → exec (.replyWindowClose p) s = .next (s.setLink p y))) ∧
    ((∀ w, x.windowClose = some w → atOrAfter s.time w = false) → exec (.replyWindowClose p) s = .next s) ∧
    (∀ w, x.silenceExpiry = some w → atOrAfter s.time w = true → alive → exec (.silenceTimeout p) s =
      .next ((s.setLink p { x with silenceExpiry := none, state := .down }).occur down (.link p) none)) ∧
    ((¬ alive ∨ ∀ w, x.silenceExpiry = some w → atOrAfter s.time w = false) →
      exec (.silenceTimeout p) s = .next s) ∧
    (∀ id i, i ∈ x.awaiting → i.id = id → (∀ j ∈ x.awaiting, j.id = id → j = i) →
      (atOrAfter s.time i.deadline = true → exec (.ackDeadline p id) s =
        .next ((s.setLink p { x with awaiting := x.awaiting.filter fun j => decide (j.id ≠ id) }).pushOutcome
          { time := s.time, vehicle := i.vehicle, route := i.route, approach := i.approach, level := i.level
            body := .handoff .unconfirmed })) ∧
      (atOrAfter s.time i.deadline = false → exec (.ackDeadline p id) s = .next s)) ∧
    (∀ id, (∀ i ∈ x.awaiting, i.id ≠ id) → exec (.ackDeadline p id) s = .next s)

/-- A completed frame at a port that watches its line (R137 to R142, R144, R146, R148, R181). The kind bits of its first
byte fix the body length, and the CRC of the body is the two bytes after it (R137, R138, R183): one whose CRC does not
match raises the CRC fault, as a frame cut short does. A valid one gives the port its contained flag and sender (R138).
One of kind 3 then raises the CRC fault and has no further effect, which of these two rules' effects is the model's
reading (assumption 36); another has no further effect in ROLE_FAULT or at a port that does not expect its type. A REPLY inside the window answers a
poller, a POLL makes a responder UP with its REPLY due, and a POLL puts a poller in ROLE_FAULT. Their HANDOFF is queued
while two are not held, and their ACK ends the item it matches. A frame that a port does not watch for changes nothing
(assumption 3), nor do bytes too few or too many for their kind (assumption 18), and a POLL in the start-up interval has no REPLY (assumption 23), by the model's choice. -/
def Obligations.FramesAreActedOn : Prop :=
  ∀ (s : State) (p : PortId) (bytes : List Byte), s.held = false →
    let x := s.link p
    let run := exec (.corridorFrameReceived p bytes) s
    let watches : Prop := x.state ≠ .off ∧ x.line = .listening
    let bad := s.occur (if p = .linkA then .linkACrc else .linkBCrc) (.link p) none
    let active : Prop := x.state = .syncing ∨ x.state = .up ∨ x.state = .down
    (¬ watches → run = .next s ∧ exec (.corridorFrameCut p) s = .next s) ∧
    (watches → exec (.corridorFrameCut p) s = .next bad) ∧
    (receiveFrame bytes = .incomplete → run = .next s) ∧
    (watches → receiveFrame bytes = .bad → run = .next bad) ∧
    (∀ c id, watches → receiveFrame bytes = .unknownKind c id → run = .next ((s.setLink p { x with
      peerContained := c, lastPeer := id }).occur (if p = .linkA then .linkACrc else .linkBCrc) (.link p) none)) ∧
    (∀ (b0 sender hi lo : Byte) (payload : List Byte),
      let kind := b0.toNat % 4
      payload.length = (if kind = 1 then 11 else if kind = 2 then 2 else 0) →
      bytes = b0 :: sender :: (payload ++ [hi, lo]) →
      (crc16 (b0 :: sender :: payload) ≠ hi ++ lo → receiveFrame bytes = .bad) ∧
      (crc16 (b0 :: sender :: payload) = hi ++ lo →
        (kind = 3 → receiveFrame bytes = .unknownKind (b0.getLsbD 6) sender) ∧
        (kind ≠ 3 → ∃ msg, receiveFrame bytes =
          .valid { isReply := b0.getLsbD 7, contained := b0.getLsbD 6, sender, msg }))) ∧
    (∀ f, watches → receiveFrame bytes = .valid f →
      let y : CorridorPort := { x with peerContained := f.contained, lastPeer := f.sender }
      let takes (z : CorridorPort) : Prop :=
        (f.msg = .none → run = .next (s.setLink p z)) ∧
        (∀ m, f.msg = .handoff m → z.received.length < 2 →
          run = .next (s.setLink p { z with received := z.received ++ [(m, f.sender)] })) ∧
        (∀ m, f.msg = .handoff m → 2 ≤ z.received.length → run = .next (s.setLink p z)) ∧
        (∀ id code, f.msg = .ack id code → (∀ i ∈ z.awaiting, i.id ≠ id) ∨ 5 ≤ code.toNat →
          run = .next (s.setLink p z)) ∧
        (∀ id r i, f.msg = .ack id (ackCode r) → i ∈ z.awaiting → i.id = id → (∀ j ∈ z.awaiting, j.id = id → j = i) →
          run = .next ((s.setLink p { z with awaiting := z.awaiting.filter fun j => decide (j.id ≠ id) }).pushOutcome
            { time := s.time, vehicle := i.vehicle, route := i.route, approach := i.approach, level := i.level
              body := .handoff (.acked r) }))
      (x.state = .roleFault → run = .next (s.setLink p y)) ∧
      (active → x.settings.role = .poller → f.isReply = false →
        run = .next ((s.setLink p { y with state := .roleFault, acknowledged := false, pollDue := none
                                           windowClose := none, replyDue := false }).occur
          (if p = .linkA then .linkARole else .linkBRole) (.link p) none)) ∧
      (active → x.settings.role = .poller → f.isReply = true →
        (x.windowClose = none → run = .next (s.setLink p y)) ∧
        (x.windowClose ≠ none → takes { y with
          windowClose := none, missCount := 0, state := .up
          pollDue := some (laterOf (timePlus x.pollStart x.settings.pollInterval) s.time) })) ∧
      (active → x.settings.role = .responder → f.isReply = false → takes { y with
        state := .up, silenceExpiry := some (timePlus s.time x.settings.silence)
        replyDue := decide (s.startUpEnd = none) }) ∧
      (active → x.settings.role = .responder → f.isReply = true → run = .next (s.setLink p y)))

/-- Breaks (R150, R151). LINK_BREAK names a corridor port and is refused with the role OFF, in ROLE_FAULT and while a
break is sent; else the break begins, after the frame being sent. A break received by a port that watches its line, or
sent by one, gives a LINK_NOT_UP record for each HANDOFF queued and an UNCONFIRMED one for each awaited, empties the
queues and the list, returns the next id to 0, and makes the role write, but in ROLE_FAULT. The writes that wait for a
break being sent are made after that reset, or alone where the port is OFF (R134, R136). A break that a port does not
watch for changes nothing (assumption 3), a LINK_BREAK is accepted while one waits and every waiting write is made
(assumption 21), a REPLY still due is kept at a responder and dropped at a poller (assumption 22), and the records carry
the break's time (assumption 37), by the model's choice. -/
def Obligations.BreaksResetPorts : Prop :=
  ∀ (s : State) (p : PortId),
    let x := s.link p
    let code : Byte := if p = .linkA then 2 else 3
    (s.Serves →
      (∀ b : Byte, b.toNat < 2 ∨ 4 ≤ b.toNat → exec (.linkBreak b) s = .next (s.replied 0x30 .badArg [])) ∧
      (x.settings.role = .off ∨ x.state = .roleFault ∨ x.line = .sendingBreak →
        exec (.linkBreak code) s = .next (s.replied 0x30 .badState [])) ∧
      (x.settings.role ≠ .off → x.state ≠ .roleFault →
        (∀ g, x.line = .frame g → exec (.linkBreak code) s =
          .next ((s.setLink p { x with breakWaiting := true }).replied 0x30 .ok [])) ∧
        (x.line = .listening → exec (.linkBreak code) s =
          .next ((s.setLink p { x with line := .sendingBreak }).replied 0x30 .ok [])))) ∧
    (s.held = false →
      let unsent : List OutcomeRecord := x.outgoing.filterMap fun m => match m with
        | .handoff h a level _ => some { time := s.time, vehicle := h.vehicle, route := h.route, approach := a
                                         level, body := .handoff (.notSent .linkNotUp) }
        | .ack _ _ => none
      let unconfirmed : List OutcomeRecord := x.awaiting.map fun i =>
        { time := s.time, vehicle := i.vehicle, route := i.route, approach := i.approach, level := i.level
          body := .handoff .unconfirmed }
      let marked : Option Item := s.intake.item.map fun i => match i with
        | .handoff q m sender broken => .handoff q m sender (broken || decide (q = p))
        | .radio a b c d e => .radio a b c d e
        | .loop a => .loop a
      let emptied : CorridorPort := { x with line := .listening, outgoing := [], awaiting := [], received := []
                                             nextId := 0 }
      let resetTo (y : CorridorPort) : State := (State.setLink { s with
        intake := { s.intake with item := marked } } p y).pushOutcomes (unsent ++ unconfirmed)
      let written (u : State) : State := x.deferredWrites.foldl (fun v st => v.writeSettings p st) u
      let resets (runs : CorridorPort → Prop) : Prop :=
        (x.state = .roleFault → runs emptied) ∧
        (x.state ≠ .roleFault → x.settings.role = .poller → runs { emptied with
          state := .syncing, missCount := 0, windowClose := none, peerContained := false, pollDue := some s.time
          silenceExpiry := none, replyDue := false }) ∧
        (x.state ≠ .roleFault → x.settings.role = .responder → runs { emptied with
          state := .syncing, missCount := 0, windowClose := none, peerContained := false, pollDue := none
          silenceExpiry := some (timePlus s.time x.settings.silence) })
      (x.state ≠ .off → x.line = .listening → resets fun y => exec (.corridorBreak p) s = .next (resetTo y)) ∧
      (x.state ≠ .off → x.line = .sendingBreak → resets fun y =>
        exec (.breakSendEnd p) s = .next (written (resetTo { y with deferredWrites := [] }))) ∧
      (x.state = .off → x.line = .sendingBreak → exec (.breakSendEnd p) s =
        .next (written (s.setLink p { x with line := .listening, deferredWrites := [] }))) ∧
      (x.state = .off ∨ x.line ≠ .listening → exec (.corridorBreak p) s = .next s) ∧
      (x.line ≠ .sendingBreak → exec (.breakSendEnd p) s = .next s))

/-! ## Time -/

/-- A decisecond (spec/00_scope.md, Time): the time base rises by one. Two equal samples of a phase green input (R46) or
of a watched loop, active when low (R15), that differ from its recognised level ask for a change; the run of OVR samples
that differ under the override edge asks for one at the filter time (R122); a RUNNING extension's remaining time falls
by one (R107); and the stuck limit written governs from this sample on (R16). Nothing else changes. That a change waits
until its event takes it, and the OVR samples with it, is the model's choice (assumption 16). -/
def Obligations.DecisecondSamplesInputs : Prop :=
  ∀ (s : State) (pg : BitVec 6) (chk : BitVec 4) (ovr : Bool), s.held = false →
    let active : Bool := if s.pins.edge = .rising then ovr else !ovr
    ∃ t, exec (.timeBaseDecisecond pg chk ovr) s = .next t ∧
      t = { s with time := s.time + 1, inputs := t.inputs, loops := t.loops, stuckLimit := s.pins.stuckLimit, ovr := t.ovr
                   channels := t.channels } ∧
      (∀ i : Fin 6,
        t.inputs[i].lastSample = pg.getLsbD i.val ∧ t.inputs[i].recognised = s.inputs[i].recognised ∧
        t.inputs[i].changeAt =
          if s.inputs[i].changeAt ≠ none then s.inputs[i].changeAt
          else if pg.getLsbD i.val = s.inputs[i].lastSample ∧ pg.getLsbD i.val ≠ s.inputs[i].recognised
            then some (s.time + 1) else none) ∧
      (∀ a : Approach,
        (s.approaches[a].enabled = false ∨ s.approaches[a].loopUse = false → t.loops[a] = s.loops[a]) ∧
        (s.approaches[a].enabled = true → s.approaches[a].loopUse = true →
          t.loops[a] = { s.loops[a] with
            lastSample := !chk.getLsbD a.val
            changeAt :=
              if s.loops[a].changeAt ≠ none then s.loops[a].changeAt
              else if chk.getLsbD a.val ≠ s.loops[a].lastSample ∧ chk.getLsbD a.val = s.loops[a].active
                then some (s.time + 1) else none })) ∧
      ((s.ovr.changeAt ≠ none → t.ovr = s.ovr) ∧
        (s.ovr.changeAt = none → active = s.ovr.recognised → t.ovr = { s.ovr with runCount := 0 }) ∧
        (s.ovr.changeAt = none → active ≠ s.ovr.recognised → t.ovr = { s.ovr with
          runCount := s.ovr.runCount + 1
          changeAt := if s.pins.filter ≤ s.ovr.runCount + 1 then some (s.time + 1) else none })) ∧
      ∀ c : ChannelIx, t.channels[c].lastEnd = s.channels[c].lastEnd ∧
        (s.channels[c].live = none → t.channels[c].live = none) ∧
        ∀ l, s.channels[c].live = some l →
          (∀ rem rf, l.run = .running → l.action = .extend rem rf →
            t.channels[c].live = some { l with action := .extend (rem - 1) rf }) ∧
          (l.run ≠ .running ∨ isExtend l = false → t.channels[c].live = some l)

/-! ## Invariants -/

/-- Every invariant below holds when RST is released, whatever the straps. -/
def Obligations.InvariantsHoldAtReset : Prop :=
  ∀ cpos1 cpos0 : Bool, let s := powerOnState cpos1 cpos0
    s.QueuesSound ∧ s.TableSound ∧ s.WindowsOrdered ∧ s.Guarded ∧ s.Linked ∧ s.AccountSound

/-- Every step keeps the queues within their bounds (R144 to R146, R148, R176). -/
def Obligations.QueuesStayBounded : Prop :=
  ∀ s t : State, s.QueuesSound → step s = .next t → t.QueuesSound

/-- Every step keeps each vehicle in at most one entry (R20), every level at most 7 (R14) and every granted total at most
65535 ds (R28); and every step keeps every stored window with A_e at or before A_l (R67), with the settings that windows
are formed from in range (R18). -/
def Obligations.TableStaysSound : Prop :=
  (∀ s t : State, s.TableSound → step s = .next t → t.TableSound) ∧
  ∀ s t : State, s.WindowsOrdered → step s = .next t → t.WindowsOrdered

/-- Every step keeps what containment (R161), override (R126), the running condition (R81), the tracker's states (R48), the
first-fault pointer (R157) and the rider lists (R88, R112) promise. Every step taken while no RESET_CORE is between its
block resets keeps, besides, what channels, table and tracker promise one another (R19, R53, R103, R104): an entry is
GRANTED exactly where one live channel has it as a rider, no two channels share a target or charge each other's, an
extension targets the current slot in a recognised GREEN, and every channel is IDLE outside IN_STEP. What stands between
the block resets is left to their order (assumption 14). -/
def Obligations.GuardsHold : Prop :=
  (∀ s t : State, s.Guarded → step s = .next t → t.Guarded) ∧
  ∀ s t : State, s.Guarded → s.Linked → (∀ left, s.port.command ≠ .resetCore left) → step s = .next t → t.Linked

/-- Every step keeps the plans valid (R45) and the laws of the account (R98): the charges of the cycle and the budget left
make up the budget in force, and no grant, top-up or forced grant takes more green from a slot than its minimum leaves,
more from a phase than the debt cap, or more extension than the current slot's limit (R72, R85, R96, R100). That balance
is the model's derivation from R97 and R98, whose own laws are three bounds, and between the block resets of RESET_CORE
it holds only by the model's choice that a refund takes no more than the charge that stands (assumption 13). -/
def Obligations.AccountStaysWithinLimits : Prop :=
  ∀ s t : State, s.AccountSound → step s = .next t → t.AccountSound

/-- Settings change by their own commands and by power-on alone: RESET_CORE and every event keep the approaches, routes,
classes, policy, pins, identity, fault control, containment settings, enables and the receive links' enable and rate; a
corridor port's settings change also where a waiting SET_LINK takes effect (R1, R11, R14, R18, R100, R123, R134, R152,
R156, R178). -/
def Obligations.SettingsChangeByCommandAlone : Prop :=
  ∀ (c : Instr) (s t : State), exec c s = .next t → (∀ a b, c ≠ .powerOnReset a b) → c ≠ .rstLow →
    ((∀ a b d e f g, c ≠ .setApproach a b d e f g) → t.approaches = s.approaches) ∧
    ((∀ a b d e, c ≠ .setRoute a b d e) → t.routes = s.routes) ∧
    ((∀ a, c ≠ .setClass a) → t.classes = s.classes) ∧
    ((∀ a b d e f g h i, c ≠ .setPolicy a b d e f g h i) → t.policy = s.policy) ∧
    ((∀ a b d e f, c ≠ .setPins a b d e f) → t.pins = s.pins) ∧
    ((∀ a, c ≠ .setIdent a) → t.identity = s.identity) ∧
    ((∀ a b d e, c ≠ .setFaultControl a b d e) → t.faults.mask = s.faults.mask ∧
      t.faults.severity = s.faults.severity ∧ t.containment.enable = s.containment.enable ∧
      t.containment.settleTimeout = s.containment.settleTimeout) ∧
    ((∀ a, c ≠ .setEvents a) → t.port.enables = s.port.enables) ∧
    ((∀ a b d e f g h i j k, c ≠ .setLink a b d e f g h i j k) →
      (∀ r, (t.rx r).enabled = (s.rx r).enabled ∧ (t.rx r).rate = (s.rx r).rate) ∧
      ∀ p, (t.link p).settings = (s.link p).settings ∨ (s.link p).deferredWrites.getLast? = some (t.link p).settings)

end ObligationStatements
end

