-- ==== Sys2Proof/Laws/State.lean ====
section
/-! SUPPORT. What each named update of the state leaves in each field: one lemma per field, so that no proof unfolds a
record update. -/

namespace Sys2Proof.Machine

variable (s : State)

/-! ## `State.setEntry` -/

@[simp] theorem State.setEntry_time (i : EntryIx) (e : Option Entry) : (s.setEntry i e).time = s.time := rfl
@[simp] theorem State.setEntry_held (i : EntryIx) (e : Option Entry) : (s.setEntry i e).held = s.held := rfl
@[simp] theorem State.setEntry_startUpEnd (i : EntryIx) (e : Option Entry) : (s.setEntry i e).startUpEnd = s.startUpEnd := rfl
@[simp] theorem State.setEntry_rx0 (i : EntryIx) (e : Option Entry) : (s.setEntry i e).rx0 = s.rx0 := rfl
@[simp] theorem State.setEntry_rx1 (i : EntryIx) (e : Option Entry) : (s.setEntry i e).rx1 = s.rx1 := rfl
@[simp] theorem State.setEntry_intake (i : EntryIx) (e : Option Entry) : (s.setEntry i e).intake = s.intake := rfl
@[simp] theorem State.setEntry_loops (i : EntryIx) (e : Option Entry) : (s.setEntry i e).loops = s.loops := rfl
@[simp] theorem State.setEntry_stuckLimit (i : EntryIx) (e : Option Entry) : (s.setEntry i e).stuckLimit = s.stuckLimit := rfl
@[simp] theorem State.setEntry_approaches (i : EntryIx) (e : Option Entry) : (s.setEntry i e).approaches = s.approaches := rfl
@[simp] theorem State.setEntry_routes (i : EntryIx) (e : Option Entry) : (s.setEntry i e).routes = s.routes := rfl
@[simp] theorem State.setEntry_classes (i : EntryIx) (e : Option Entry) : (s.setEntry i e).classes = s.classes := rfl
@[simp] theorem State.setEntry_table (i : EntryIx) (e : Option Entry) : (s.setEntry i e).table = put s.table i e := rfl
@[simp] theorem State.setEntry_plans (i : EntryIx) (e : Option Entry) : (s.setEntry i e).plans = s.plans := rfl
@[simp] theorem State.setEntry_inputs (i : EntryIx) (e : Option Entry) : (s.setEntry i e).inputs = s.inputs := rfl
@[simp] theorem State.setEntry_tracker (i : EntryIx) (e : Option Entry) : (s.setEntry i e).tracker = s.tracker := rfl
@[simp] theorem State.setEntry_account (i : EntryIx) (e : Option Entry) : (s.setEntry i e).account = s.account := rfl
@[simp] theorem State.setEntry_policy (i : EntryIx) (e : Option Entry) : (s.setEntry i e).policy = s.policy := rfl
@[simp] theorem State.setEntry_engine (i : EntryIx) (e : Option Entry) : (s.setEntry i e).engine = s.engine := rfl
@[simp] theorem State.setEntry_channels (i : EntryIx) (e : Option Entry) : (s.setEntry i e).channels = s.channels := rfl
@[simp] theorem State.setEntry_pins (i : EntryIx) (e : Option Entry) : (s.setEntry i e).pins = s.pins := rfl
@[simp] theorem State.setEntry_ovr (i : EntryIx) (e : Option Entry) : (s.setEntry i e).ovr = s.ovr := rfl
@[simp] theorem State.setEntry_linkA (i : EntryIx) (e : Option Entry) : (s.setEntry i e).linkA = s.linkA := rfl
@[simp] theorem State.setEntry_linkB (i : EntryIx) (e : Option Entry) : (s.setEntry i e).linkB = s.linkB := rfl
@[simp] theorem State.setEntry_identity (i : EntryIx) (e : Option Entry) : (s.setEntry i e).identity = s.identity := rfl
@[simp] theorem State.setEntry_faults (i : EntryIx) (e : Option Entry) : (s.setEntry i e).faults = s.faults := rfl
@[simp] theorem State.setEntry_containment (i : EntryIx) (e : Option Entry) : (s.setEntry i e).containment = s.containment := rfl
@[simp] theorem State.setEntry_port (i : EntryIx) (e : Option Entry) : (s.setEntry i e).port = s.port := rfl
@[simp] theorem State.setEntry_freeIndex (i : EntryIx) (e : Option Entry) : (s.setEntry i e).freeIndex = s.freeIndex := rfl
@[simp] theorem State.setEntry_pending (i : EntryIx) (e : Option Entry) : (s.setEntry i e).pending = s.pending := rfl

/-! ## `State.setChannel` -/

@[simp] theorem State.setChannel_time (c : ChannelIx) (x : Channel) : (s.setChannel c x).time = s.time := rfl
@[simp] theorem State.setChannel_held (c : ChannelIx) (x : Channel) : (s.setChannel c x).held = s.held := rfl
@[simp] theorem State.setChannel_startUpEnd (c : ChannelIx) (x : Channel) : (s.setChannel c x).startUpEnd = s.startUpEnd := rfl
@[simp] theorem State.setChannel_rx0 (c : ChannelIx) (x : Channel) : (s.setChannel c x).rx0 = s.rx0 := rfl
@[simp] theorem State.setChannel_rx1 (c : ChannelIx) (x : Channel) : (s.setChannel c x).rx1 = s.rx1 := rfl
@[simp] theorem State.setChannel_intake (c : ChannelIx) (x : Channel) : (s.setChannel c x).intake = s.intake := rfl
@[simp] theorem State.setChannel_loops (c : ChannelIx) (x : Channel) : (s.setChannel c x).loops = s.loops := rfl
@[simp] theorem State.setChannel_stuckLimit (c : ChannelIx) (x : Channel) : (s.setChannel c x).stuckLimit = s.stuckLimit := rfl
@[simp] theorem State.setChannel_approaches (c : ChannelIx) (x : Channel) : (s.setChannel c x).approaches = s.approaches := rfl
@[simp] theorem State.setChannel_routes (c : ChannelIx) (x : Channel) : (s.setChannel c x).routes = s.routes := rfl
@[simp] theorem State.setChannel_classes (c : ChannelIx) (x : Channel) : (s.setChannel c x).classes = s.classes := rfl
@[simp] theorem State.setChannel_table (c : ChannelIx) (x : Channel) : (s.setChannel c x).table = s.table := rfl
@[simp] theorem State.setChannel_plans (c : ChannelIx) (x : Channel) : (s.setChannel c x).plans = s.plans := rfl
@[simp] theorem State.setChannel_inputs (c : ChannelIx) (x : Channel) : (s.setChannel c x).inputs = s.inputs := rfl
@[simp] theorem State.setChannel_tracker (c : ChannelIx) (x : Channel) : (s.setChannel c x).tracker = s.tracker := rfl
@[simp] theorem State.setChannel_account (c : ChannelIx) (x : Channel) : (s.setChannel c x).account = s.account := rfl
@[simp] theorem State.setChannel_policy (c : ChannelIx) (x : Channel) : (s.setChannel c x).policy = s.policy := rfl
@[simp] theorem State.setChannel_engine (c : ChannelIx) (x : Channel) : (s.setChannel c x).engine = s.engine := rfl
@[simp] theorem State.setChannel_channels (c : ChannelIx) (x : Channel) : (s.setChannel c x).channels = put s.channels c x := rfl
@[simp] theorem State.setChannel_pins (c : ChannelIx) (x : Channel) : (s.setChannel c x).pins = s.pins := rfl
@[simp] theorem State.setChannel_ovr (c : ChannelIx) (x : Channel) : (s.setChannel c x).ovr = s.ovr := rfl
@[simp] theorem State.setChannel_linkA (c : ChannelIx) (x : Channel) : (s.setChannel c x).linkA = s.linkA := rfl
@[simp] theorem State.setChannel_linkB (c : ChannelIx) (x : Channel) : (s.setChannel c x).linkB = s.linkB := rfl
@[simp] theorem State.setChannel_identity (c : ChannelIx) (x : Channel) : (s.setChannel c x).identity = s.identity := rfl
@[simp] theorem State.setChannel_faults (c : ChannelIx) (x : Channel) : (s.setChannel c x).faults = s.faults := rfl
@[simp] theorem State.setChannel_containment (c : ChannelIx) (x : Channel) : (s.setChannel c x).containment = s.containment := rfl
@[simp] theorem State.setChannel_port (c : ChannelIx) (x : Channel) : (s.setChannel c x).port = s.port := rfl
@[simp] theorem State.setChannel_freeIndex (c : ChannelIx) (x : Channel) : (s.setChannel c x).freeIndex = s.freeIndex := rfl
@[simp] theorem State.setChannel_pending (c : ChannelIx) (x : Channel) : (s.setChannel c x).pending = s.pending := rfl

/-! ## `State.setLoop` -/

@[simp] theorem State.setLoop_time (a : Approach) (l : LoopState) : (s.setLoop a l).time = s.time := rfl
@[simp] theorem State.setLoop_held (a : Approach) (l : LoopState) : (s.setLoop a l).held = s.held := rfl
@[simp] theorem State.setLoop_startUpEnd (a : Approach) (l : LoopState) : (s.setLoop a l).startUpEnd = s.startUpEnd := rfl
@[simp] theorem State.setLoop_rx0 (a : Approach) (l : LoopState) : (s.setLoop a l).rx0 = s.rx0 := rfl
@[simp] theorem State.setLoop_rx1 (a : Approach) (l : LoopState) : (s.setLoop a l).rx1 = s.rx1 := rfl
@[simp] theorem State.setLoop_intake (a : Approach) (l : LoopState) : (s.setLoop a l).intake = s.intake := rfl
@[simp] theorem State.setLoop_loops (a : Approach) (l : LoopState) : (s.setLoop a l).loops = put s.loops a l := rfl
@[simp] theorem State.setLoop_stuckLimit (a : Approach) (l : LoopState) : (s.setLoop a l).stuckLimit = s.stuckLimit := rfl
@[simp] theorem State.setLoop_approaches (a : Approach) (l : LoopState) : (s.setLoop a l).approaches = s.approaches := rfl
@[simp] theorem State.setLoop_routes (a : Approach) (l : LoopState) : (s.setLoop a l).routes = s.routes := rfl
@[simp] theorem State.setLoop_classes (a : Approach) (l : LoopState) : (s.setLoop a l).classes = s.classes := rfl
@[simp] theorem State.setLoop_table (a : Approach) (l : LoopState) : (s.setLoop a l).table = s.table := rfl
@[simp] theorem State.setLoop_plans (a : Approach) (l : LoopState) : (s.setLoop a l).plans = s.plans := rfl
@[simp] theorem State.setLoop_inputs (a : Approach) (l : LoopState) : (s.setLoop a l).inputs = s.inputs := rfl
@[simp] theorem State.setLoop_tracker (a : Approach) (l : LoopState) : (s.setLoop a l).tracker = s.tracker := rfl
@[simp] theorem State.setLoop_account (a : Approach) (l : LoopState) : (s.setLoop a l).account = s.account := rfl
@[simp] theorem State.setLoop_policy (a : Approach) (l : LoopState) : (s.setLoop a l).policy = s.policy := rfl
@[simp] theorem State.setLoop_engine (a : Approach) (l : LoopState) : (s.setLoop a l).engine = s.engine := rfl
@[simp] theorem State.setLoop_channels (a : Approach) (l : LoopState) : (s.setLoop a l).channels = s.channels := rfl
@[simp] theorem State.setLoop_pins (a : Approach) (l : LoopState) : (s.setLoop a l).pins = s.pins := rfl
@[simp] theorem State.setLoop_ovr (a : Approach) (l : LoopState) : (s.setLoop a l).ovr = s.ovr := rfl
@[simp] theorem State.setLoop_linkA (a : Approach) (l : LoopState) : (s.setLoop a l).linkA = s.linkA := rfl
@[simp] theorem State.setLoop_linkB (a : Approach) (l : LoopState) : (s.setLoop a l).linkB = s.linkB := rfl
@[simp] theorem State.setLoop_identity (a : Approach) (l : LoopState) : (s.setLoop a l).identity = s.identity := rfl
@[simp] theorem State.setLoop_faults (a : Approach) (l : LoopState) : (s.setLoop a l).faults = s.faults := rfl
@[simp] theorem State.setLoop_containment (a : Approach) (l : LoopState) : (s.setLoop a l).containment = s.containment := rfl
@[simp] theorem State.setLoop_port (a : Approach) (l : LoopState) : (s.setLoop a l).port = s.port := rfl
@[simp] theorem State.setLoop_freeIndex (a : Approach) (l : LoopState) : (s.setLoop a l).freeIndex = s.freeIndex := rfl
@[simp] theorem State.setLoop_pending (a : Approach) (l : LoopState) : (s.setLoop a l).pending = s.pending := rfl

/-! ## `State.setRx` -/

@[simp] theorem State.setRx_time (r : RxId) (x : RxLink) : (s.setRx r x).time = s.time := by cases r <;> rfl
@[simp] theorem State.setRx_held (r : RxId) (x : RxLink) : (s.setRx r x).held = s.held := by cases r <;> rfl
@[simp] theorem State.setRx_startUpEnd (r : RxId) (x : RxLink) : (s.setRx r x).startUpEnd = s.startUpEnd := by cases r <;> rfl
@[simp] theorem State.setRx_intake (r : RxId) (x : RxLink) : (s.setRx r x).intake = s.intake := by cases r <;> rfl
@[simp] theorem State.setRx_loops (r : RxId) (x : RxLink) : (s.setRx r x).loops = s.loops := by cases r <;> rfl
@[simp] theorem State.setRx_stuckLimit (r : RxId) (x : RxLink) : (s.setRx r x).stuckLimit = s.stuckLimit := by cases r <;> rfl
@[simp] theorem State.setRx_approaches (r : RxId) (x : RxLink) : (s.setRx r x).approaches = s.approaches := by cases r <;> rfl
@[simp] theorem State.setRx_routes (r : RxId) (x : RxLink) : (s.setRx r x).routes = s.routes := by cases r <;> rfl
@[simp] theorem State.setRx_classes (r : RxId) (x : RxLink) : (s.setRx r x).classes = s.classes := by cases r <;> rfl
@[simp] theorem State.setRx_table (r : RxId) (x : RxLink) : (s.setRx r x).table = s.table := by cases r <;> rfl
@[simp] theorem State.setRx_plans (r : RxId) (x : RxLink) : (s.setRx r x).plans = s.plans := by cases r <;> rfl
@[simp] theorem State.setRx_inputs (r : RxId) (x : RxLink) : (s.setRx r x).inputs = s.inputs := by cases r <;> rfl
@[simp] theorem State.setRx_tracker (r : RxId) (x : RxLink) : (s.setRx r x).tracker = s.tracker := by cases r <;> rfl
@[simp] theorem State.setRx_account (r : RxId) (x : RxLink) : (s.setRx r x).account = s.account := by cases r <;> rfl
@[simp] theorem State.setRx_policy (r : RxId) (x : RxLink) : (s.setRx r x).policy = s.policy := by cases r <;> rfl
@[simp] theorem State.setRx_engine (r : RxId) (x : RxLink) : (s.setRx r x).engine = s.engine := by cases r <;> rfl
@[simp] theorem State.setRx_channels (r : RxId) (x : RxLink) : (s.setRx r x).channels = s.channels := by cases r <;> rfl
@[simp] theorem State.setRx_pins (r : RxId) (x : RxLink) : (s.setRx r x).pins = s.pins := by cases r <;> rfl
@[simp] theorem State.setRx_ovr (r : RxId) (x : RxLink) : (s.setRx r x).ovr = s.ovr := by cases r <;> rfl
@[simp] theorem State.setRx_linkA (r : RxId) (x : RxLink) : (s.setRx r x).linkA = s.linkA := by cases r <;> rfl
@[simp] theorem State.setRx_linkB (r : RxId) (x : RxLink) : (s.setRx r x).linkB = s.linkB := by cases r <;> rfl
@[simp] theorem State.setRx_identity (r : RxId) (x : RxLink) : (s.setRx r x).identity = s.identity := by cases r <;> rfl
@[simp] theorem State.setRx_faults (r : RxId) (x : RxLink) : (s.setRx r x).faults = s.faults := by cases r <;> rfl
@[simp] theorem State.setRx_containment (r : RxId) (x : RxLink) : (s.setRx r x).containment = s.containment := by cases r <;> rfl
@[simp] theorem State.setRx_port (r : RxId) (x : RxLink) : (s.setRx r x).port = s.port := by cases r <;> rfl
@[simp] theorem State.setRx_freeIndex (r : RxId) (x : RxLink) : (s.setRx r x).freeIndex = s.freeIndex := by cases r <;> rfl
@[simp] theorem State.setRx_pending (r : RxId) (x : RxLink) : (s.setRx r x).pending = s.pending := by cases r <;> rfl

/-! ## `State.setLink` -/

@[simp] theorem State.setLink_time (p : PortId) (x : CorridorPort) : (s.setLink p x).time = s.time := by cases p <;> rfl
@[simp] theorem State.setLink_held (p : PortId) (x : CorridorPort) : (s.setLink p x).held = s.held := by cases p <;> rfl
@[simp] theorem State.setLink_startUpEnd (p : PortId) (x : CorridorPort) : (s.setLink p x).startUpEnd = s.startUpEnd := by cases p <;> rfl
@[simp] theorem State.setLink_rx0 (p : PortId) (x : CorridorPort) : (s.setLink p x).rx0 = s.rx0 := by cases p <;> rfl
@[simp] theorem State.setLink_rx1 (p : PortId) (x : CorridorPort) : (s.setLink p x).rx1 = s.rx1 := by cases p <;> rfl
@[simp] theorem State.setLink_intake (p : PortId) (x : CorridorPort) : (s.setLink p x).intake = s.intake := by cases p <;> rfl
@[simp] theorem State.setLink_loops (p : PortId) (x : CorridorPort) : (s.setLink p x).loops = s.loops := by cases p <;> rfl
@[simp] theorem State.setLink_stuckLimit (p : PortId) (x : CorridorPort) : (s.setLink p x).stuckLimit = s.stuckLimit := by cases p <;> rfl
@[simp] theorem State.setLink_approaches (p : PortId) (x : CorridorPort) : (s.setLink p x).approaches = s.approaches := by cases p <;> rfl
@[simp] theorem State.setLink_routes (p : PortId) (x : CorridorPort) : (s.setLink p x).routes = s.routes := by cases p <;> rfl
@[simp] theorem State.setLink_classes (p : PortId) (x : CorridorPort) : (s.setLink p x).classes = s.classes := by cases p <;> rfl
@[simp] theorem State.setLink_table (p : PortId) (x : CorridorPort) : (s.setLink p x).table = s.table := by cases p <;> rfl
@[simp] theorem State.setLink_plans (p : PortId) (x : CorridorPort) : (s.setLink p x).plans = s.plans := by cases p <;> rfl
@[simp] theorem State.setLink_inputs (p : PortId) (x : CorridorPort) : (s.setLink p x).inputs = s.inputs := by cases p <;> rfl
@[simp] theorem State.setLink_tracker (p : PortId) (x : CorridorPort) : (s.setLink p x).tracker = s.tracker := by cases p <;> rfl
@[simp] theorem State.setLink_account (p : PortId) (x : CorridorPort) : (s.setLink p x).account = s.account := by cases p <;> rfl
@[simp] theorem State.setLink_policy (p : PortId) (x : CorridorPort) : (s.setLink p x).policy = s.policy := by cases p <;> rfl
@[simp] theorem State.setLink_engine (p : PortId) (x : CorridorPort) : (s.setLink p x).engine = s.engine := by cases p <;> rfl
@[simp] theorem State.setLink_channels (p : PortId) (x : CorridorPort) : (s.setLink p x).channels = s.channels := by cases p <;> rfl
@[simp] theorem State.setLink_pins (p : PortId) (x : CorridorPort) : (s.setLink p x).pins = s.pins := by cases p <;> rfl
@[simp] theorem State.setLink_ovr (p : PortId) (x : CorridorPort) : (s.setLink p x).ovr = s.ovr := by cases p <;> rfl
@[simp] theorem State.setLink_identity (p : PortId) (x : CorridorPort) : (s.setLink p x).identity = s.identity := by cases p <;> rfl
@[simp] theorem State.setLink_faults (p : PortId) (x : CorridorPort) : (s.setLink p x).faults = s.faults := by cases p <;> rfl
@[simp] theorem State.setLink_containment (p : PortId) (x : CorridorPort) : (s.setLink p x).containment = s.containment := by cases p <;> rfl
@[simp] theorem State.setLink_port (p : PortId) (x : CorridorPort) : (s.setLink p x).port = s.port := by cases p <;> rfl
@[simp] theorem State.setLink_freeIndex (p : PortId) (x : CorridorPort) : (s.setLink p x).freeIndex = s.freeIndex := by cases p <;> rfl
@[simp] theorem State.setLink_pending (p : PortId) (x : CorridorPort) : (s.setLink p x).pending = s.pending := by cases p <;> rfl

/-! ## `State.stopPass` -/

@[simp] theorem State.stopPass_time  : (s.stopPass).time = s.time := rfl
@[simp] theorem State.stopPass_held  : (s.stopPass).held = s.held := rfl
@[simp] theorem State.stopPass_startUpEnd  : (s.stopPass).startUpEnd = s.startUpEnd := rfl
@[simp] theorem State.stopPass_rx0  : (s.stopPass).rx0 = s.rx0 := rfl
@[simp] theorem State.stopPass_rx1  : (s.stopPass).rx1 = s.rx1 := rfl
@[simp] theorem State.stopPass_intake  : (s.stopPass).intake = s.intake := rfl
@[simp] theorem State.stopPass_loops  : (s.stopPass).loops = s.loops := rfl
@[simp] theorem State.stopPass_stuckLimit  : (s.stopPass).stuckLimit = s.stuckLimit := rfl
@[simp] theorem State.stopPass_approaches  : (s.stopPass).approaches = s.approaches := rfl
@[simp] theorem State.stopPass_routes  : (s.stopPass).routes = s.routes := rfl
@[simp] theorem State.stopPass_classes  : (s.stopPass).classes = s.classes := rfl
@[simp] theorem State.stopPass_table  : (s.stopPass).table = s.table := rfl
@[simp] theorem State.stopPass_plans  : (s.stopPass).plans = s.plans := rfl
@[simp] theorem State.stopPass_inputs  : (s.stopPass).inputs = s.inputs := rfl
@[simp] theorem State.stopPass_tracker  : (s.stopPass).tracker = s.tracker := rfl
@[simp] theorem State.stopPass_account  : (s.stopPass).account = s.account := rfl
@[simp] theorem State.stopPass_policy  : (s.stopPass).policy = s.policy := rfl
@[simp] theorem State.stopPass_engine  : (s.stopPass).engine = engineIdle := rfl
@[simp] theorem State.stopPass_channels  : (s.stopPass).channels = s.channels := rfl
@[simp] theorem State.stopPass_pins  : (s.stopPass).pins = s.pins := rfl
@[simp] theorem State.stopPass_ovr  : (s.stopPass).ovr = s.ovr := rfl
@[simp] theorem State.stopPass_linkA  : (s.stopPass).linkA = s.linkA := rfl
@[simp] theorem State.stopPass_linkB  : (s.stopPass).linkB = s.linkB := rfl
@[simp] theorem State.stopPass_identity  : (s.stopPass).identity = s.identity := rfl
@[simp] theorem State.stopPass_faults  : (s.stopPass).faults = s.faults := rfl
@[simp] theorem State.stopPass_containment  : (s.stopPass).containment = s.containment := rfl
@[simp] theorem State.stopPass_port  : (s.stopPass).port = s.port := rfl
@[simp] theorem State.stopPass_freeIndex  : (s.stopPass).freeIndex = s.freeIndex := rfl
@[simp] theorem State.stopPass_pending  : (s.stopPass).pending = s.pending := rfl

/-! ## `State.raise` -/

@[simp] theorem State.raise_time (e : StickyEvent) : (s.raise e).time = s.time := rfl
@[simp] theorem State.raise_held (e : StickyEvent) : (s.raise e).held = s.held := rfl
@[simp] theorem State.raise_startUpEnd (e : StickyEvent) : (s.raise e).startUpEnd = s.startUpEnd := rfl
@[simp] theorem State.raise_rx0 (e : StickyEvent) : (s.raise e).rx0 = s.rx0 := rfl
@[simp] theorem State.raise_rx1 (e : StickyEvent) : (s.raise e).rx1 = s.rx1 := rfl
@[simp] theorem State.raise_intake (e : StickyEvent) : (s.raise e).intake = s.intake := rfl
@[simp] theorem State.raise_loops (e : StickyEvent) : (s.raise e).loops = s.loops := rfl
@[simp] theorem State.raise_stuckLimit (e : StickyEvent) : (s.raise e).stuckLimit = s.stuckLimit := rfl
@[simp] theorem State.raise_approaches (e : StickyEvent) : (s.raise e).approaches = s.approaches := rfl
@[simp] theorem State.raise_routes (e : StickyEvent) : (s.raise e).routes = s.routes := rfl
@[simp] theorem State.raise_classes (e : StickyEvent) : (s.raise e).classes = s.classes := rfl
@[simp] theorem State.raise_table (e : StickyEvent) : (s.raise e).table = s.table := rfl
@[simp] theorem State.raise_plans (e : StickyEvent) : (s.raise e).plans = s.plans := rfl
@[simp] theorem State.raise_inputs (e : StickyEvent) : (s.raise e).inputs = s.inputs := rfl
@[simp] theorem State.raise_tracker (e : StickyEvent) : (s.raise e).tracker = s.tracker := rfl
@[simp] theorem State.raise_account (e : StickyEvent) : (s.raise e).account = s.account := rfl
@[simp] theorem State.raise_policy (e : StickyEvent) : (s.raise e).policy = s.policy := rfl
@[simp] theorem State.raise_engine (e : StickyEvent) : (s.raise e).engine = s.engine := rfl
@[simp] theorem State.raise_channels (e : StickyEvent) : (s.raise e).channels = s.channels := rfl
@[simp] theorem State.raise_pins (e : StickyEvent) : (s.raise e).pins = s.pins := rfl
@[simp] theorem State.raise_ovr (e : StickyEvent) : (s.raise e).ovr = s.ovr := rfl
@[simp] theorem State.raise_linkA (e : StickyEvent) : (s.raise e).linkA = s.linkA := rfl
@[simp] theorem State.raise_linkB (e : StickyEvent) : (s.raise e).linkB = s.linkB := rfl
@[simp] theorem State.raise_identity (e : StickyEvent) : (s.raise e).identity = s.identity := rfl
@[simp] theorem State.raise_faults (e : StickyEvent) : (s.raise e).faults = s.faults := rfl
@[simp] theorem State.raise_containment (e : StickyEvent) : (s.raise e).containment = s.containment := rfl
@[simp] theorem State.raise_port (e : StickyEvent) : (s.raise e).port = { s.port with events := raiseIn s.port.events e } := rfl
@[simp] theorem State.raise_freeIndex (e : StickyEvent) : (s.raise e).freeIndex = s.freeIndex := rfl
@[simp] theorem State.raise_pending (e : StickyEvent) : (s.raise e).pending = s.pending := rfl

/-! ## `State.answer` -/

@[simp] theorem State.answer_time (echo : Byte) (r : ResultCode) (d : List Byte) : (s.answer echo r d).time = s.time := rfl
@[simp] theorem State.answer_held (echo : Byte) (r : ResultCode) (d : List Byte) : (s.answer echo r d).held = s.held := rfl
@[simp] theorem State.answer_startUpEnd (echo : Byte) (r : ResultCode) (d : List Byte) : (s.answer echo r d).startUpEnd = s.startUpEnd := rfl
@[simp] theorem State.answer_rx0 (echo : Byte) (r : ResultCode) (d : List Byte) : (s.answer echo r d).rx0 = s.rx0 := rfl
@[simp] theorem State.answer_rx1 (echo : Byte) (r : ResultCode) (d : List Byte) : (s.answer echo r d).rx1 = s.rx1 := rfl
@[simp] theorem State.answer_intake (echo : Byte) (r : ResultCode) (d : List Byte) : (s.answer echo r d).intake = s.intake := rfl
@[simp] theorem State.answer_loops (echo : Byte) (r : ResultCode) (d : List Byte) : (s.answer echo r d).loops = s.loops := rfl
@[simp] theorem State.answer_stuckLimit (echo : Byte) (r : ResultCode) (d : List Byte) : (s.answer echo r d).stuckLimit = s.stuckLimit := rfl
@[simp] theorem State.answer_approaches (echo : Byte) (r : ResultCode) (d : List Byte) : (s.answer echo r d).approaches = s.approaches := rfl
@[simp] theorem State.answer_routes (echo : Byte) (r : ResultCode) (d : List Byte) : (s.answer echo r d).routes = s.routes := rfl
@[simp] theorem State.answer_classes (echo : Byte) (r : ResultCode) (d : List Byte) : (s.answer echo r d).classes = s.classes := rfl
@[simp] theorem State.answer_table (echo : Byte) (r : ResultCode) (d : List Byte) : (s.answer echo r d).table = s.table := rfl
@[simp] theorem State.answer_plans (echo : Byte) (r : ResultCode) (d : List Byte) : (s.answer echo r d).plans = s.plans := rfl
@[simp] theorem State.answer_inputs (echo : Byte) (r : ResultCode) (d : List Byte) : (s.answer echo r d).inputs = s.inputs := rfl
@[simp] theorem State.answer_tracker (echo : Byte) (r : ResultCode) (d : List Byte) : (s.answer echo r d).tracker = s.tracker := rfl
@[simp] theorem State.answer_account (echo : Byte) (r : ResultCode) (d : List Byte) : (s.answer echo r d).account = s.account := rfl
@[simp] theorem State.answer_policy (echo : Byte) (r : ResultCode) (d : List Byte) : (s.answer echo r d).policy = s.policy := rfl
@[simp] theorem State.answer_engine (echo : Byte) (r : ResultCode) (d : List Byte) : (s.answer echo r d).engine = s.engine := rfl
@[simp] theorem State.answer_channels (echo : Byte) (r : ResultCode) (d : List Byte) : (s.answer echo r d).channels = s.channels := rfl
@[simp] theorem State.answer_pins (echo : Byte) (r : ResultCode) (d : List Byte) : (s.answer echo r d).pins = s.pins := rfl
@[simp] theorem State.answer_ovr (echo : Byte) (r : ResultCode) (d : List Byte) : (s.answer echo r d).ovr = s.ovr := rfl
@[simp] theorem State.answer_linkA (echo : Byte) (r : ResultCode) (d : List Byte) : (s.answer echo r d).linkA = s.linkA := rfl
@[simp] theorem State.answer_linkB (echo : Byte) (r : ResultCode) (d : List Byte) : (s.answer echo r d).linkB = s.linkB := rfl
@[simp] theorem State.answer_identity (echo : Byte) (r : ResultCode) (d : List Byte) : (s.answer echo r d).identity = s.identity := rfl
@[simp] theorem State.answer_faults (echo : Byte) (r : ResultCode) (d : List Byte) : (s.answer echo r d).faults = s.faults := rfl
@[simp] theorem State.answer_containment (echo : Byte) (r : ResultCode) (d : List Byte) : (s.answer echo r d).containment = s.containment := rfl
@[simp] theorem State.answer_port (echo : Byte) (r : ResultCode) (d : List Byte) : (s.answer echo r d).port = { s.port with shortSlot := some { echo := echo, result := r, data := d } } := rfl
@[simp] theorem State.answer_freeIndex (echo : Byte) (r : ResultCode) (d : List Byte) : (s.answer echo r d).freeIndex = s.freeIndex := rfl
@[simp] theorem State.answer_pending (echo : Byte) (r : ResultCode) (d : List Byte) : (s.answer echo r d).pending = s.pending := rfl

/-! ## `State.endTransaction` -/

@[simp] theorem State.endTransaction_time  : (s.endTransaction).time = s.time := rfl
@[simp] theorem State.endTransaction_held  : (s.endTransaction).held = s.held := rfl
@[simp] theorem State.endTransaction_startUpEnd  : (s.endTransaction).startUpEnd = s.startUpEnd := rfl
@[simp] theorem State.endTransaction_rx0  : (s.endTransaction).rx0 = s.rx0 := rfl
@[simp] theorem State.endTransaction_rx1  : (s.endTransaction).rx1 = s.rx1 := rfl
@[simp] theorem State.endTransaction_intake  : (s.endTransaction).intake = s.intake := rfl
@[simp] theorem State.endTransaction_loops  : (s.endTransaction).loops = s.loops := rfl
@[simp] theorem State.endTransaction_stuckLimit  : (s.endTransaction).stuckLimit = s.stuckLimit := rfl
@[simp] theorem State.endTransaction_approaches  : (s.endTransaction).approaches = s.approaches := rfl
@[simp] theorem State.endTransaction_routes  : (s.endTransaction).routes = s.routes := rfl
@[simp] theorem State.endTransaction_classes  : (s.endTransaction).classes = s.classes := rfl
@[simp] theorem State.endTransaction_table  : (s.endTransaction).table = s.table := rfl
@[simp] theorem State.endTransaction_plans  : (s.endTransaction).plans = s.plans := rfl
@[simp] theorem State.endTransaction_inputs  : (s.endTransaction).inputs = s.inputs := rfl
@[simp] theorem State.endTransaction_tracker  : (s.endTransaction).tracker = s.tracker := rfl
@[simp] theorem State.endTransaction_account  : (s.endTransaction).account = s.account := rfl
@[simp] theorem State.endTransaction_policy  : (s.endTransaction).policy = s.policy := rfl
@[simp] theorem State.endTransaction_engine  : (s.endTransaction).engine = s.engine := rfl
@[simp] theorem State.endTransaction_channels  : (s.endTransaction).channels = s.channels := rfl
@[simp] theorem State.endTransaction_pins  : (s.endTransaction).pins = s.pins := rfl
@[simp] theorem State.endTransaction_ovr  : (s.endTransaction).ovr = s.ovr := rfl
@[simp] theorem State.endTransaction_linkA  : (s.endTransaction).linkA = s.linkA := rfl
@[simp] theorem State.endTransaction_linkB  : (s.endTransaction).linkB = s.linkB := rfl
@[simp] theorem State.endTransaction_identity  : (s.endTransaction).identity = s.identity := rfl
@[simp] theorem State.endTransaction_faults  : (s.endTransaction).faults = s.faults := rfl
@[simp] theorem State.endTransaction_containment  : (s.endTransaction).containment = s.containment := rfl
@[simp] theorem State.endTransaction_port  : (s.endTransaction).port = { s.port with transaction := none } := rfl
@[simp] theorem State.endTransaction_freeIndex  : (s.endTransaction).freeIndex = s.freeIndex := rfl
@[simp] theorem State.endTransaction_pending  : (s.endTransaction).pending = s.pending := rfl

/-! ## `State.itemEnds` -/

@[simp] theorem State.itemEnds_time  : (s.itemEnds).time = s.time := rfl
@[simp] theorem State.itemEnds_held  : (s.itemEnds).held = s.held := rfl
@[simp] theorem State.itemEnds_startUpEnd  : (s.itemEnds).startUpEnd = s.startUpEnd := rfl
@[simp] theorem State.itemEnds_rx0  : (s.itemEnds).rx0 = s.rx0 := rfl
@[simp] theorem State.itemEnds_rx1  : (s.itemEnds).rx1 = s.rx1 := rfl
@[simp] theorem State.itemEnds_intake  : (s.itemEnds).intake = { s.intake with item := none } := rfl
@[simp] theorem State.itemEnds_loops  : (s.itemEnds).loops = s.loops := rfl
@[simp] theorem State.itemEnds_stuckLimit  : (s.itemEnds).stuckLimit = s.stuckLimit := rfl
@[simp] theorem State.itemEnds_approaches  : (s.itemEnds).approaches = s.approaches := rfl
@[simp] theorem State.itemEnds_routes  : (s.itemEnds).routes = s.routes := rfl
@[simp] theorem State.itemEnds_classes  : (s.itemEnds).classes = s.classes := rfl
@[simp] theorem State.itemEnds_table  : (s.itemEnds).table = s.table := rfl
@[simp] theorem State.itemEnds_plans  : (s.itemEnds).plans = s.plans := rfl
@[simp] theorem State.itemEnds_inputs  : (s.itemEnds).inputs = s.inputs := rfl
@[simp] theorem State.itemEnds_tracker  : (s.itemEnds).tracker = s.tracker := rfl
@[simp] theorem State.itemEnds_account  : (s.itemEnds).account = s.account := rfl
@[simp] theorem State.itemEnds_policy  : (s.itemEnds).policy = s.policy := rfl
@[simp] theorem State.itemEnds_engine  : (s.itemEnds).engine = s.engine := rfl
@[simp] theorem State.itemEnds_channels  : (s.itemEnds).channels = s.channels := rfl
@[simp] theorem State.itemEnds_pins  : (s.itemEnds).pins = s.pins := rfl
@[simp] theorem State.itemEnds_ovr  : (s.itemEnds).ovr = s.ovr := rfl
@[simp] theorem State.itemEnds_linkA  : (s.itemEnds).linkA = s.linkA := rfl
@[simp] theorem State.itemEnds_linkB  : (s.itemEnds).linkB = s.linkB := rfl
@[simp] theorem State.itemEnds_identity  : (s.itemEnds).identity = s.identity := rfl
@[simp] theorem State.itemEnds_faults  : (s.itemEnds).faults = s.faults := rfl
@[simp] theorem State.itemEnds_containment  : (s.itemEnds).containment = s.containment := rfl
@[simp] theorem State.itemEnds_port  : (s.itemEnds).port = s.port := rfl
@[simp] theorem State.itemEnds_freeIndex  : (s.itemEnds).freeIndex = s.freeIndex := rfl
@[simp] theorem State.itemEnds_pending  : (s.itemEnds).pending = s.pending := rfl

/-! ## `State.replied` -/

@[simp] theorem State.replied_time (echo : Byte) (r : ResultCode) (d : List Byte) : (s.replied echo r d).time = s.time := rfl
@[simp] theorem State.replied_held (echo : Byte) (r : ResultCode) (d : List Byte) : (s.replied echo r d).held = s.held := rfl
@[simp] theorem State.replied_startUpEnd (echo : Byte) (r : ResultCode) (d : List Byte) : (s.replied echo r d).startUpEnd = s.startUpEnd := rfl
@[simp] theorem State.replied_rx0 (echo : Byte) (r : ResultCode) (d : List Byte) : (s.replied echo r d).rx0 = s.rx0 := rfl
@[simp] theorem State.replied_rx1 (echo : Byte) (r : ResultCode) (d : List Byte) : (s.replied echo r d).rx1 = s.rx1 := rfl
@[simp] theorem State.replied_intake (echo : Byte) (r : ResultCode) (d : List Byte) : (s.replied echo r d).intake = s.intake := rfl
@[simp] theorem State.replied_loops (echo : Byte) (r : ResultCode) (d : List Byte) : (s.replied echo r d).loops = s.loops := rfl
@[simp] theorem State.replied_stuckLimit (echo : Byte) (r : ResultCode) (d : List Byte) : (s.replied echo r d).stuckLimit = s.stuckLimit := rfl
@[simp] theorem State.replied_approaches (echo : Byte) (r : ResultCode) (d : List Byte) : (s.replied echo r d).approaches = s.approaches := rfl
@[simp] theorem State.replied_routes (echo : Byte) (r : ResultCode) (d : List Byte) : (s.replied echo r d).routes = s.routes := rfl
@[simp] theorem State.replied_classes (echo : Byte) (r : ResultCode) (d : List Byte) : (s.replied echo r d).classes = s.classes := rfl
@[simp] theorem State.replied_table (echo : Byte) (r : ResultCode) (d : List Byte) : (s.replied echo r d).table = s.table := rfl
@[simp] theorem State.replied_plans (echo : Byte) (r : ResultCode) (d : List Byte) : (s.replied echo r d).plans = s.plans := rfl
@[simp] theorem State.replied_inputs (echo : Byte) (r : ResultCode) (d : List Byte) : (s.replied echo r d).inputs = s.inputs := rfl
@[simp] theorem State.replied_tracker (echo : Byte) (r : ResultCode) (d : List Byte) : (s.replied echo r d).tracker = s.tracker := rfl
@[simp] theorem State.replied_account (echo : Byte) (r : ResultCode) (d : List Byte) : (s.replied echo r d).account = s.account := rfl
@[simp] theorem State.replied_policy (echo : Byte) (r : ResultCode) (d : List Byte) : (s.replied echo r d).policy = s.policy := rfl
@[simp] theorem State.replied_engine (echo : Byte) (r : ResultCode) (d : List Byte) : (s.replied echo r d).engine = s.engine := rfl
@[simp] theorem State.replied_channels (echo : Byte) (r : ResultCode) (d : List Byte) : (s.replied echo r d).channels = s.channels := rfl
@[simp] theorem State.replied_pins (echo : Byte) (r : ResultCode) (d : List Byte) : (s.replied echo r d).pins = s.pins := rfl
@[simp] theorem State.replied_ovr (echo : Byte) (r : ResultCode) (d : List Byte) : (s.replied echo r d).ovr = s.ovr := rfl
@[simp] theorem State.replied_linkA (echo : Byte) (r : ResultCode) (d : List Byte) : (s.replied echo r d).linkA = s.linkA := rfl
@[simp] theorem State.replied_linkB (echo : Byte) (r : ResultCode) (d : List Byte) : (s.replied echo r d).linkB = s.linkB := rfl
@[simp] theorem State.replied_identity (echo : Byte) (r : ResultCode) (d : List Byte) : (s.replied echo r d).identity = s.identity := rfl
@[simp] theorem State.replied_faults (echo : Byte) (r : ResultCode) (d : List Byte) : (s.replied echo r d).faults = s.faults := rfl
@[simp] theorem State.replied_containment (echo : Byte) (r : ResultCode) (d : List Byte) : (s.replied echo r d).containment = s.containment := rfl
@[simp] theorem State.replied_port (echo : Byte) (r : ResultCode) (d : List Byte) : (s.replied echo r d).port = { s.port with transaction := none, shortSlot := some { echo := echo, result := r, data := d } } := rfl
@[simp] theorem State.replied_freeIndex (echo : Byte) (r : ResultCode) (d : List Byte) : (s.replied echo r d).freeIndex = s.freeIndex := rfl
@[simp] theorem State.replied_pending (echo : Byte) (r : ResultCode) (d : List Byte) : (s.replied echo r d).pending = s.pending := rfl

/-! ## The paired blocks and the fixed collections -/

@[simp] theorem State.setRx_rx_same (r : RxId) (x : RxLink) : (s.setRx r x).rx r = x := by cases r <;> rfl
@[simp] theorem State.setLink_link_same (p : PortId) (x : CorridorPort) : (s.setLink p x).link p = x := by cases p <;> rfl
@[simp] theorem State.setLink_setLink (p : PortId) (x y : CorridorPort) : (s.setLink p x).setLink p y = s.setLink p y := by
  cases p <;> rfl
@[simp] theorem State.setRx_setRx (r : RxId) (x y : RxLink) : (s.setRx r x).setRx r y = s.setRx r y := by cases r <;> rfl
@[simp] theorem State.setRx_link (r : RxId) (x : RxLink) (p : PortId) : (s.setRx r x).link p = s.link p := by
  cases r <;> cases p <;> rfl
@[simp] theorem State.setLink_rx (p : PortId) (x : CorridorPort) (r : RxId) : (s.setLink p x).rx r = s.rx r := by
  cases p <;> cases r <;> rfl
theorem State.setRx_rx_other {r q : RxId} (x : RxLink) (h : q ≠ r) : (s.setRx r x).rx q = s.rx q := by
  cases r <;> cases q <;> first | rfl | exact absurd rfl h
theorem State.setLink_link_other {p q : PortId} (x : CorridorPort) (h : q ≠ p) : (s.setLink p x).link q = s.link q := by
  cases p <;> cases q <;> first | rfl | exact absurd rfl h

theorem put_same {α : Type} {n : Nat} (v : Vector α n) (i : Fin n) (x : α) : (put v i x)[i] = x := by
  simp [put]
theorem put_other {α : Type} {n : Nat} (v : Vector α n) {i j : Fin n} (x : α) (h : j ≠ i) : (put v i x)[j] = v[j] := by
  have : i.val ≠ j.val := fun e => h (Fin.ext e.symm)
  simp [put, this]
@[simp] theorem put_self {α : Type} {n : Nat} (v : Vector α n) (i : Fin n) : put v i v[i] = v := by
  simp [put]
theorem tabulate_get {α : Type} {n : Nat} (f : Fin n → α) (i : Fin n) : (tabulate f)[i] = f i := by
  simp [tabulate]
/-- Two vectors that agree at every index are equal. -/
theorem vector_ext {α : Type} {n : Nat} {v w : Vector α n} (h : ∀ i : Fin n, v[i] = w[i]) : v = w := by
  apply Vector.ext
  intro i hi
  exact h ⟨i, hi⟩
/-! The same for an index as simp writes it, a number with its bound. -/

@[simp] theorem put_get_val {α : Type} {n : Nat} (v : Vector α n) (i : Fin n) (x : α) (h : i.val < n) :
    (put v i x)[i.val] = x := by
  simp [put]
@[simp] theorem put_get_other {α : Type} {n : Nat} (v : Vector α n) (i : Fin n) (x : α) {j : Nat} (hj : j < n)
    (h : i.val ≠ j) : (put v i x)[j] = v[j] := by
  simp [put, h]
@[simp] theorem tabulate_get_val {α : Type} {n : Nat} (f : Fin n → α) {i : Nat} (h : i < n) :
    (tabulate f)[i] = f ⟨i, h⟩ := by
  simp [tabulate]

end Sys2Proof.Machine
end

