-- ==== Sys2Proof/Laws/Operations.lean ====
section
/-! SUPPORT. What each shared operation can do, said once: the fields it may change, and the cases it has. -/

namespace Sys2Proof.Machine

/-! ## The outcome queue and the engine -/

/-- A push appends its record while fewer than 32 are held, and else sets OVF alone. -/
theorem State.pushOutcome_cases (s : State) (r : OutcomeRecord) :
    (s.port.outcomes.length < 32 ∧
      s.pushOutcome r = { s with port := { s.port with outcomes := s.port.outcomes ++ [r] } }) ∨
    (32 ≤ s.port.outcomes.length ∧
      s.pushOutcome r = { s with port := { s.port with events := { s.port.events with ovf := true } } }) := by
  unfold State.pushOutcome outcomeCapacity
  by_cases h : s.port.outcomes.length < 32
  · simp [h]
  · exact .inr ⟨by omega, by simp [h]⟩

/-- Pushes change the outcome queue and OVF alone. -/
theorem State.pushOutcome_frame (s : State) (r : OutcomeRecord) :
    s.pushOutcome r = { s with port := { s.port with
      outcomes := (s.pushOutcome r).port.outcomes, events := (s.pushOutcome r).port.events } } := by
  rcases s.pushOutcome_cases r with ⟨_, h⟩ | ⟨_, h⟩ <;> rw [h]

theorem State.pushOutcomes_frame (s : State) (rs : List OutcomeRecord) :
    s.pushOutcomes rs = { s with port := { s.port with
      outcomes := (s.pushOutcomes rs).port.outcomes, events := (s.pushOutcomes rs).port.events } } := by
  induction rs generalizing s with
  | nil => rfl
  | cons r rs ih =>
    have h : s.pushOutcomes (r :: rs) = (s.pushOutcome r).pushOutcomes rs := rfl
    rw [h, ih, s.pushOutcome_frame r]

/-- The running condition as the engine tests it (R80). -/
theorem State.mayRun_iff (s : State) : s.mayRun = true ↔ s.RunningCondition := by
  unfold State.mayRun State.inStep State.RunningCondition
  cases s.tracker <;> simp

/-- A pass that starts changes the engine alone. -/
theorem State.startPass_frame (s : State) : s.startPass = { s with engine := s.startPass.engine } := by
  unfold State.startPass
  split <;> rfl

/-- An evaluation cause: the again-flag in a pass, a new pass with the running condition, else nothing (R80). -/
theorem State.cause_cases (s : State) :
    (s.engine.pass ≠ none ∧ s.cause = { s with engine := { s.engine with again := true } }) ∨
    (s.engine.pass = none ∧ s.RunningCondition ∧ s.cause = s.startPass) ∨
    (s.engine.pass = none ∧ ¬ s.RunningCondition ∧ s.cause = s) := by
  unfold State.cause
  rw [← State.mayRun_iff]
  cases h : s.engine.pass <;> cases g : s.mayRun <;> simp

/-- An evaluation cause changes the engine alone. -/
theorem State.cause_frame (s : State) : s.cause = { s with engine := s.cause.engine } := by
  rcases s.cause_cases with ⟨_, h⟩ | ⟨_, _, h⟩ | ⟨_, _, h⟩ <;> rw [h]
  exact s.startPass_frame

theorem State.causeIf_frame (s : State) (b : Bool) : s.causeIf b = { s with engine := (s.causeIf b).engine } := by
  cases b
  · rfl
  · exact s.cause_frame

/-! ## The ends of channels -/

theorem State.applyRefund_frame (s : State) (l : LiveChannel) (n : Nat) :
    s.applyRefund l n = { s with account := (s.applyRefund l n).account } := by
  unfold State.applyRefund
  cases s.plans.active <;> rfl

theorem State.returnRider_frame (s : State) (r : EndReason) (i : EntryIx) :
    State.returnRider r s i = { s with table := (State.returnRider r s i).table } := by
  unfold State.returnRider
  cases s.table[i] <;> rfl

theorem State.returnRiders_frame (s : State) (r : EndReason) (is : List EntryIx) :
    is.foldl (State.returnRider r) s = { s with table := (is.foldl (State.returnRider r) s).table } := by
  induction is generalizing s with
  | nil => rfl
  | cons i is ih =>
    rw [List.foldl_cons, ih, s.returnRider_frame r i]

/-- The end of a channel but for its cause: account, table and channels alone (R113). -/
theorem State.closeChannel_frame (s : State) (c : ChannelIx) (l : LiveChannel) (r : EndReason) :
    s.closeChannel c l r = { s with
      account := (s.closeChannel c l r).account
      table := (s.closeChannel c l r).table
      channels := put s.channels c { live := none, lastEnd := some (r, s.time) } } := by
  unfold State.closeChannel
  simp only []
  rw [State.returnRiders_frame, State.applyRefund_frame]
  rfl

/-- The account after the end of a channel is what its refund leaves (R114, R115). -/
theorem State.closeChannel_account (s : State) (c : ChannelIx) (l : LiveChannel) (r : EndReason) :
    (s.closeChannel c l r).account = (s.applyRefund l (refundAmount l r)).account := by
  unfold State.closeChannel
  simp only []
  rw [State.returnRiders_frame]
  rfl

/-- The end of a channel: account, table, channels and engine alone (R113). -/
theorem State.endChannel_frame (s : State) (c : ChannelIx) (r : EndReason) :
    s.endChannel c r = { s with
      account := (s.endChannel c r).account
      table := (s.endChannel c r).table
      channels := (s.endChannel c r).channels
      engine := (s.endChannel c r).engine } := by
  unfold State.endChannel
  cases s.channels[c].live with
  | none => rfl
  | some l =>
    simp only []
    rw [State.cause_frame, State.closeChannel_frame]

/-- A frame of a fold: a relation every step keeps relates the ends of the fold. -/
theorem foldl_keeps {α β : Type} (R : α → α → Prop) (refl : ∀ a, R a a) (trans : ∀ a b c, R a b → R b c → R a c)
    (f : α → β → α) (step : ∀ a b, R a (f a b)) (bs : List β) (a : α) : R a (bs.foldl f a) := by
  induction bs generalizing a with
  | nil => exact refl a
  | cons b bs ih => exact trans _ _ _ (step a b) (ih _)

/-- Two states that differ at most in account, table, channels and engine. -/
abbrev State.EndsOnly (s t : State) : Prop :=
  t = { s with account := t.account, table := t.table, channels := t.channels, engine := t.engine }

theorem State.EndsOnly.trans {s t u : State} (h : s.EndsOnly t) (g : t.EndsOnly u) : s.EndsOnly u := by
  unfold State.EndsOnly at *
  rw [g, h]

theorem State.endWhere_frame (s : State) (test : ChannelIx → LiveChannel → Bool) (reason : ChannelIx → EndReason) :
    s.EndsOnly (s.endWhere test reason) := by
  unfold State.endWhere
  refine foldl_keeps State.EndsOnly (fun a => rfl) (fun a b c => State.EndsOnly.trans) _ (fun a c => ?_) _ s
  cases a.channels[c].live with
  | none => exact rfl
  | some l =>
    simp only []
    split
    · exact a.endChannel_frame c _
    · exact rfl

/-- A channel that ends with one that meets a test leaves the other channels' records alone (R113). -/
theorem State.endChannel_channels (s : State) (c : ChannelIx) (r : EndReason) :
    (s.endChannel c r).channels =
      match s.channels[c].live with
      | some _ => put s.channels c { live := none, lastEnd := some (r, s.time) }
      | none => s.channels := by
  unfold State.endChannel
  cases s.channels[c].live with
  | none => rfl
  | some l =>
    simp only []
    rw [State.cause_frame, State.closeChannel_frame]

theorem State.settleCount_frame (base : Nat) (test : LiveChannel → Bool) (s : State) (c : ChannelIx) :
    s.EndsOnly (State.settleCount base test s c) := by
  unfold State.settleCount
  cases s.channels[c].live with
  | none => exact rfl
  | some l =>
    simp only []
    split
    · split
      · exact s.endChannel_frame c _
      · exact rfl
    · exact rfl

/-- The settlement of counted-out channels: account, table, channels, engine and the count of free choices alone. -/
theorem State.settleCounts_frame (s : State) (test : LiveChannel → Bool) :
    s.settleCounts test = { s with
      account := (s.settleCounts test).account
      table := (s.settleCounts test).table
      channels := (s.settleCounts test).channels
      engine := (s.settleCounts test).engine
      freeIndex := (s.settleCounts test).freeIndex } := by
  unfold State.settleCounts
  split
  · have h := foldl_keeps State.EndsOnly (fun a => rfl) (fun a b c => State.EndsOnly.trans)
      (State.settleCount s.freeIndex test) (fun a c => State.settleCount_frame s.freeIndex test a c) allChannels
      { s with freeIndex := s.freeIndex + 4 }
    unfold State.EndsOnly at h
    rw [h]
  · rfl

theorem State.leaveChannel_frame (s : State) (c : ChannelIx) (i : EntryIx) :
    (s.leaveChannel c i).1 = { s with
      account := (s.leaveChannel c i).1.account
      table := (s.leaveChannel c i).1.table
      channels := (s.leaveChannel c i).1.channels } := by
  unfold State.leaveChannel
  cases s.channels[c].live with
  | none => rfl
  | some l =>
    simp only []
    split
    · simp only []
      rw [State.closeChannel_frame]
    · rfl

theorem State.shed_frame (s : State) (i : EntryIx) (e : Entry) :
    (s.shed i e).1 = { s with
      account := (s.shed i e).1.account
      table := (s.shed i e).1.table
      channels := (s.shed i e).1.channels } := by
  unfold State.shed
  split
  · exact s.leaveChannel_frame _ i
  · rfl

/-! ## Faults and containment -/

/-- A trigger: account, table, channels, engine, containment and CNT alone (R161). -/
theorem State.trigger_frame (s : State) (reason : ContainReason) :
    s.trigger reason = { s with
      account := (s.trigger reason).account
      table := (s.trigger reason).table
      channels := (s.trigger reason).channels
      engine := (s.trigger reason).engine
      containment := (s.trigger reason).containment
      port := { s.port with events := (s.trigger reason).port.events } } := by
  unfold State.trigger
  split
  · simp only []
    have h := State.endWhere_frame (State.stopPass { s with containment := { s.containment with
      state := .settling reason (timePlus s.time s.containment.settleTimeout) } }) (fun _ _ => true) (fun _ => .contained)
    unfold State.EndsOnly at h
    unfold State.endAll
    rw [h]
    rfl
  · rfl

/-- An occurrence: account, table, channels, engine, containment, the recorder and the sticky events alone (R154). -/
theorem State.occur_frame (s : State) (k : FaultKind) (src : FaultSource) (v : Option Vehicle) :
    s.occur k src v = { s with
      account := (s.occur k src v).account
      table := (s.occur k src v).table
      channels := (s.occur k src v).channels
      engine := (s.occur k src v).engine
      containment := (s.occur k src v).containment
      faults := (s.occur k src v).faults
      port := { s.port with events := (s.occur k src v).port.events } } := by
  unfold State.occur
  simp only []
  split
  · rfl
  · split
    · rw [State.trigger_frame]
      rfl
    · rfl

/-! ## Closures -/

theorem State.requestHandoff_frame (s : State) (e : Entry) :
    s.requestHandoff e = { s with
      linkA := (s.requestHandoff e).linkA
      linkB := (s.requestHandoff e).linkB
      port := { s.port with
        outcomes := (s.requestHandoff e).port.outcomes
        events := (s.requestHandoff e).port.events } } := by
  unfold State.requestHandoff
  simp only []
  split
  · rw [State.pushOutcome_frame]
  · rename_i p _
    split
    · rw [State.pushOutcome_frame]
    · cases p <;> rfl

/-- Two states that differ at most where a closure writes. -/
abbrev State.ClosesOnly (s t : State) : Prop :=
  t = { s with
    account := t.account, table := t.table, channels := t.channels, engine := t.engine, linkA := t.linkA
    linkB := t.linkB, port := { s.port with outcomes := t.port.outcomes, events := t.port.events } }

theorem State.ClosesOnly.trans {s t u : State} (h : s.ClosesOnly t) (g : t.ClosesOnly u) : s.ClosesOnly u := by
  unfold State.ClosesOnly at *
  rw [g, h]

theorem State.shed_closes (s : State) (i : EntryIx) (e : Entry) : s.ClosesOnly (s.shed i e).1 := by
  rw [State.shed_frame]

theorem State.pushOutcome_closes (s : State) (r : OutcomeRecord) : s.ClosesOnly (s.pushOutcome r) := by
  rw [State.pushOutcome_frame]

theorem State.requestHandoff_closes (s : State) (e : Entry) : s.ClosesOnly (s.requestHandoff e) := by
  rw [State.requestHandoff_frame]

theorem State.causeIf_closes (s : State) (b : Bool) : s.ClosesOnly (s.causeIf b) := by
  rw [State.causeIf_frame]

/-- A closure: account, table, channels, engine, the ports, the outcome queue and the sticky events alone (R29). -/
theorem State.closeEntry_closes (s : State) (i : EntryIx) (e : Entry) (r : CloseReason) :
    s.ClosesOnly (s.closeEntry i e r) := by
  unfold State.closeEntry
  simp only []
  refine State.ClosesOnly.trans ?_ (State.causeIf_closes _ _)
  refine State.ClosesOnly.trans (t := if isServed r = true then _ else _) ?_ rfl
  refine ((s.shed_closes i e).trans (State.pushOutcome_closes _ (closedRecord e s.time r))).trans ?_
  split
  · exact State.requestHandoff_closes _ e
  · exact rfl

/-! ## Commands taken -/

/-- A command taken in either command state is judged with its transaction over, and answered (R168, R169). -/
theorem State.takeAlways_of_takes {s : State} (h : s.Takes) (echo : Byte) (judge : State → Judged) :
    s.takeAlways echo judge =
      (judge s.endTransaction).1.answer echo (judge s.endTransaction).2.1 (judge s.endTransaction).2.2 := by
  obtain ⟨h1, r, h2⟩ := h
  unfold State.takeAlways State.discardsCommand
  simp [h1, h2]

/-- A command taken while no long command runs is judged by its own rule (R173). -/
theorem State.take_of_serves {s : State} (h : s.Serves) (echo : Byte) (judge : State → Judged) :
    s.take echo judge =
      (judge s.endTransaction).1.answer echo (judge s.endTransaction).2.1 (judge s.endTransaction).2.2 := by
  unfold State.take
  rw [State.takeAlways_of_takes h.1]
  simp [CommandState.isLong, h.2]

/-- A long command taken while none runs is accepted (R172). -/
theorem State.takeLong_of_serves {s : State} (h : s.Serves) (echo : Byte) (accept : State → State) :
    s.takeLong echo accept = accept s.endTransaction := by
  obtain ⟨⟨h1, r, h2⟩, h3⟩ := h
  unfold State.takeLong State.discardsCommand
  simp [h1, h2, CommandState.isLong, h3]

/-- A refused command leaves the response alone (R171). -/
theorem State.take_refused {s : State} (h : s.Serves) (echo : Byte) (judge : State → Judged) (r : ResultCode)
    (hj : judge s.endTransaction = refuse s.endTransaction r) : s.take echo judge = s.replied echo r [] := by
  rw [State.take_of_serves h, hj]
  rfl

/-! ## The settings of a corridor port -/

/-- A role write changes its port and, by its records, the outcome queue and OVF alone (R136, R176). -/
theorem State.roleWrite_frame (s : State) (p : PortId) :
    ∃ q : ControllerPort, q = { s.port with outcomes := q.outcomes, events := q.events } ∧
      s.roleWrite p = { s.setLink p (withRoleWritten (s.link p) s.time) with port := q } := by
  have h := (s.setLink p (withRoleWritten (s.link p) s.time)).pushOutcomes_frame (roleWriteRecords (s.link p) s.time)
  rw [State.setLink_port] at h
  exact ⟨_, rfl, h⟩

/-- Settings put into force change their port, as their role write leaves it, and the outcome queue and OVF alone. -/
theorem State.writeSettings_frame (s : State) (p : PortId) (st : PortSettings) :
    ∃ q : ControllerPort, q = { s.port with outcomes := q.outcomes, events := q.events } ∧
      s.writeSettings p st = { s.setLink p (withRoleWritten { s.link p with settings := st } s.time) with port := q } := by
  obtain ⟨q, hq, h⟩ := (s.setLink p { s.link p with settings := st }).roleWrite_frame p
  refine ⟨q, by rwa [State.setLink_port] at hq, h.trans ?_⟩
  cases p <;> rfl

/-- The writes that have waited change their port and the outcome queue and OVF alone, whatever their number. -/
theorem State.writeDeferred_frame (s : State) (p : PortId) :
    ∃ (x : CorridorPort) (q : ControllerPort), q = { s.port with outcomes := q.outcomes, events := q.events } ∧
      s.writeDeferred p = { s.setLink p x with port := q } := by
  have writes : ∀ (sts : List PortSettings) (t : State), ∃ (x : CorridorPort) (q : ControllerPort),
      q = { t.port with outcomes := q.outcomes, events := q.events } ∧
      sts.foldl (fun t st => t.writeSettings p st) t = { t.setLink p x with port := q } := by
    intro sts
    induction sts with
    | nil => intro t; exact ⟨t.link p, t.port, rfl, by cases p <;> rfl⟩
    | cons st sts ih =>
      intro t
      obtain ⟨q, hq, h⟩ := t.writeSettings_frame p st
      obtain ⟨x, r, hr, h'⟩ := ih (t.writeSettings p st)
      refine ⟨x, r, ?_, ?_⟩
      · rw [hr, h, hq]
      · rw [List.foldl_cons, h', h]
        cases p <;> rfl
  obtain ⟨x, q, hq, h⟩ := writes (s.link p).deferredWrites (s.setLink p { s.link p with deferredWrites := [] })
  refine ⟨x, q, by rwa [State.setLink_port] at hq, h.trans ?_⟩
  cases p <;> rfl

/-! ## Channels settled and ended one after another -/

/-- The model's fold over the channels, channel by channel. -/
theorem State.endWhere_eq_endingThose (s : State) (test : LiveChannel → Bool) (reason : ChannelIx → EndReason) :
    s.endWhere (fun _ l => test l) reason = s.endingThose test reason := rfl

/-- The counted-out channels that an event meets settle in one of the ways open to them (R107, R126). -/
theorem State.settleCounts_settles (s : State) (test : LiveChannel → Bool) :
    s.CountsSettled (s.settleCounts test) test := by
  have key : ((liveChannels s.channels).any fun c => countedOut c.2 && test c.2) = true ↔
      ∃ (c : ChannelIx) (l : LiveChannel), s.channels[c].live = some l ∧ (countedOut l && test l) = true := by
    simp only [liveChannels, List.any_eq_true, List.mem_filterMap, Option.map_eq_some_iff]
    constructor
    · rintro ⟨_, ⟨c, _, l, h, rfl⟩, d⟩
      exact ⟨c, l, h, d⟩
    · rintro ⟨c, l, h, d⟩
      exact ⟨(c, l), ⟨c, (by decide : ∀ c : ChannelIx, c ∈ allChannels) c, l, h, rfl⟩, d⟩
  unfold State.CountsSettled State.settleCounts
  refine ⟨fun h => if_neg fun g => ?_, fun h => ⟨fun c => Config.countFirst (s.freeIndex + c.val), ?_⟩⟩
  · obtain ⟨c, l, e, d⟩ := key.mp g
    simp [h c l e] at d
  · rw [if_pos (key.mpr h)]
    have one : State.settleCount s.freeIndex test = fun (u : State) (c : ChannelIx) =>
        match u.channels[c].live with
        | some l =>
          if (countedOut l && test l) = true then
            if Config.countFirst (s.freeIndex + c.val) = true then u.endChannel c .complete
            else u.setChannel c { u.channels[c] with live := some { l with
              action := match l.action with
                | .extend _ runFrom => .extend (if l.amount = 0 then 0 else 1) runFrom
                | .advance deadline => .advance deadline } }
          else u
        | none => u := by
      funext u c
      unfold State.settleCount
      cases u.channels[c].live with
      | none => rfl
      | some l =>
        have : uncounted l = { l with
            action := match l.action with
              | .extend _ runFrom => .extend (if l.amount = 0 then 0 else 1) runFrom
              | .advance deadline => .advance deadline } := by
          unfold uncounted
          cases l.action with
          | advance d => rfl
          | extend r f =>
            simp only []
            congr
            split <;> omega
        simp only [this]
    rw [one]
    rfl

end Sys2Proof.Machine
end

