-- ==== Sys2Proof/Laws/Port.lean ====
section
/-! SUPPORT. The effects on channels, entries and the engine neither read nor write the controller port, so that answering
a command before or after its effect is the same. -/

namespace Sys2Proof.Machine

/-- The state with its controller port replaced. -/
def State.withPort (s : State) (p : ControllerPort) : State := { s with port := p }

@[simp] theorem State.withPort_channels (s : State) (p) : (s.withPort p).channels = s.channels := rfl
@[simp] theorem State.withPort_table (s : State) (p) : (s.withPort p).table = s.table := rfl
@[simp] theorem State.withPort_engine (s : State) (p) : (s.withPort p).engine = s.engine := rfl
@[simp] theorem State.withPort_plans (s : State) (p) : (s.withPort p).plans = s.plans := rfl
@[simp] theorem State.withPort_account (s : State) (p) : (s.withPort p).account = s.account := rfl
@[simp] theorem State.withPort_time (s : State) (p) : (s.withPort p).time = s.time := rfl
@[simp] theorem State.withPort_freeIndex (s : State) (p) : (s.withPort p).freeIndex = s.freeIndex := rfl
@[simp] theorem State.withPort_containment (s : State) (p) : (s.withPort p).containment = s.containment := rfl
@[simp] theorem State.withPort_candidates (s : State) (p) : (s.withPort p).candidates = s.candidates := rfl
@[simp] theorem State.withPort_mayRun (s : State) (p) : (s.withPort p).mayRun = s.mayRun := rfl
@[simp] theorem State.withPort_port (s : State) (p) : (s.withPort p).port = p := rfl
@[simp] theorem State.withPort_withPort (s : State) (p q) : (s.withPort p).withPort q = s.withPort q := rfl

theorem State.startPass_withPort (s : State) (p) : (s.withPort p).startPass = s.startPass.withPort p := by
  unfold State.startPass
  rw [State.withPort_candidates]
  cases s.candidates <;> rfl

theorem State.cause_withPort (s : State) (p) : (s.withPort p).cause = s.cause.withPort p := by
  unfold State.cause
  rw [State.withPort_engine, State.withPort_mayRun]
  cases s.engine.pass with
  | some _ => rfl
  | none =>
    cases s.mayRun with
    | false => rfl
    | true => exact s.startPass_withPort p

theorem State.applyRefund_withPort (s : State) (p l n) : (s.withPort p).applyRefund l n = (s.applyRefund l n).withPort p := by
  unfold State.applyRefund
  rw [State.withPort_plans]
  cases s.plans.active <;> rfl

theorem State.returnRider_withPort (s : State) (p r i) :
    State.returnRider r (s.withPort p) i = (State.returnRider r s i).withPort p := by
  unfold State.returnRider
  rw [State.withPort_table]
  cases s.table[i] <;> rfl

theorem State.closeChannel_withPort (s : State) (p c l r) :
    (s.withPort p).closeChannel c l r = (s.closeChannel c l r).withPort p := by
  unfold State.closeChannel
  simp only [State.applyRefund_withPort]
  have riders : ∀ (is : List EntryIx) (t : State), is.foldl (State.returnRider r) (t.withPort p) =
      (is.foldl (State.returnRider r) t).withPort p := by
    intro is
    induction is with
    | nil => intro t; rfl
    | cons i is ih => intro t; rw [List.foldl_cons, List.foldl_cons, State.returnRider_withPort, ih]
  rw [riders]
  rfl

theorem State.endChannel_withPort (s : State) (p c r) : (s.withPort p).endChannel c r = (s.endChannel c r).withPort p := by
  unfold State.endChannel
  rw [State.withPort_channels]
  cases s.channels[c].live with
  | none => rfl
  | some l => simp only [State.closeChannel_withPort, State.cause_withPort]

theorem State.endWhere_withPort (s : State) (p test reason) :
    (s.withPort p).endWhere test reason = (s.endWhere test reason).withPort p := by
  unfold State.endWhere
  generalize allChannels = cs
  induction cs generalizing s with
  | nil => rfl
  | cons c cs ih =>
    rw [List.foldl_cons, List.foldl_cons, ← ih, State.withPort_channels]
    congr 1
    cases s.channels[c].live with
    | none => rfl
    | some l =>
      simp only [State.endChannel_withPort]
      split <;> rfl

theorem State.settleCount_withPort (base test) (s : State) (p c) :
    State.settleCount base test (s.withPort p) c = (State.settleCount base test s c).withPort p := by
  unfold State.settleCount
  rw [State.withPort_channels]
  cases s.channels[c].live with
  | none => rfl
  | some l =>
    simp only [State.endChannel_withPort]
    split
    · split <;> rfl
    · rfl

theorem State.settleCounts_withPort (s : State) (p test) :
    (s.withPort p).settleCounts test = (s.settleCounts test).withPort p := by
  unfold State.settleCounts
  rw [State.withPort_channels, State.withPort_freeIndex]
  split
  · have folds : ∀ (cs : List ChannelIx) (t : State),
        cs.foldl (State.settleCount s.freeIndex test) (t.withPort p) =
          (cs.foldl (State.settleCount s.freeIndex test) t).withPort p := by
      intro cs
      induction cs with
      | nil => intro t; rfl
      | cons c cs ih => intro t; rw [List.foldl_cons, List.foldl_cons, State.settleCount_withPort, ih]
    exact folds allChannels { s with freeIndex := s.freeIndex + 4 }
  · rfl

/-- The answer of a command whose effect leaves the port alone (R169). -/
theorem State.answer_of_withPort (f : State → State) (h : ∀ (s : State) p, f (s.withPort p) = (f s).withPort p)
    (s : State) (echo : Byte) (r : ResultCode) (d : List Byte) :
    (f s.endTransaction).answer echo r d = (f s).replied echo r d := by
  have hp : (f s).port = s.port := by
    have := h s s.port
    rw [show s.withPort s.port = s from rfl] at this
    rw [this]; rfl
  rw [show s.endTransaction = s.withPort { s.port with transaction := none } from rfl, h]
  unfold State.answer State.replied
  rw [hp]
  rfl

/-- A trigger raises CNT at the port and reads nothing there (R161). -/
theorem State.trigger_withPort (s : State) (p : ControllerPort) (x : ContainReason) :
    (s.withPort p).trigger x = (s.trigger x).withPort
      { p with events := if s.containment.enable = true ∧ s.containment.state = .normal then { p.events with cnt := true }
                         else p.events } := by
  unfold State.trigger
  rw [State.withPort_containment]
  split
  · have inner : ∀ q : ControllerPort,
        State.stopPass { s.withPort q with containment := { s.containment with
          state := .settling x (timePlus (s.withPort q).time s.containment.settleTimeout) } } =
        (State.stopPass { s with containment := { s.containment with
          state := .settling x (timePlus s.time s.containment.settleTimeout) } }).withPort q := fun _ => rfl
    simp only [State.endAll]
    rw [inner, State.endWhere_withPort]
    rfl
  · rfl

end Sys2Proof.Machine
end

