-- ==== Sys2Proof/Tests/Slice0.lean ====
section
/-! SUPPORT. Tests of single commands, their expected results from the spec's tables and worked examples, and for each
obligation with hypotheses a state and operands that meet them (`witness_…`, and one for each clause where there are
several). -/

namespace Sys2Proof.Tests

open Sys2Proof Sys2Proof.Machine

/-! ## States the tests start from -/

/-- After the start-up interval with the straps of MIDDLE: LINK-A responder, LINK-B poller. -/
def quiet : State := { powerOnState true false with startUpEnd := none }

/-- A state with a transaction in progress whose command will be judged. -/
def asked (s : State) : State :=
  { s with port := { s.port with
      transaction := some { response := { echo := 0, result := .ok, data := [] }, discard := false } } }

/-- A state while a long command runs. -/
def during (k : CommandState) (s : State) : State := { s with port := { s.port with command := k } }

/-- The state a command leaves. -/
def after (i : Instr) (s : State) : State :=
  match exec i s with
  | .next t => t
  | .fault _ | .refused _ => s

/-- The response a command writes to the short slot. -/
def answer (i : Instr) (s : State) : Option (ResultCode × List Byte) :=
  (after i (asked s)).port.shortSlot.map fun r => (r.result, r.data)

/-- An entry of the table as its fields that decisions read. -/
def bus (v : Vehicle) (a : Approach) (level : Nat) (e l : Time) : Entry :=
  { state := .tracking, vehicle := v, route := 5, approach := a, level, lateness := 0, seq := 1, distance := 0, speed := 0
    stopFlag := false, dwell := 0, lastUpdate := 0, windowE := e, windowL := l, origin := .radio, confirmed := true
    wanted := .none, note := none, lastAction := .none, grantedTotal := 0, created := 0 }

/-- The state with entries written into its table. -/
def holding (es : List (EntryIx × Entry)) (s : State) : State :=
  { s with table := es.foldl (fun t x => put t x.1 (some x.2)) s.table }

/-- The plan of the worked extension (spec/04). -/
def worked : Plan :=
  { cycle := 900, slots := [⟨.p2, 400, 150, 50, 150⟩, ⟨.p4, 200, 100, 50, 0⟩, ⟨.p1, 150, 60, 50, 60⟩] }

/-- The worked plan followed with a slot in GREEN since its onset: approaches 0 to 2 serve its slots 0 to 2. -/
def following (cur : SlotIx) (onset t : Time) : State :=
  { quiet with
    time := t
    approaches := #v[{ approachPowerOn .p2 with enabled := true }, { approachPowerOn .p4 with enabled := true },
      { approachPowerOn .p1 with enabled := true }, { approachPowerOn .p3 with enabled := true }]
    plans := { active := some worked, staged := none }
    tracker := .inStep { cur, period := .green, onset, lastBoundary := onset }
    inputs := put quiet.inputs (phaseIndex (slotAt worked cur).phase)
      { lastSample := true, recognised := true, changeAt := none } }

/-- The state in a pass whose next turns are those of the entries given. -/
def passing (es : List (EntryIx × Entry)) (s : State) : State :=
  { holding es s with engine := { pass := some (es.map fun x => (x.1, x.2.vehicle)), again := false } }

/-- An extension live on a channel. -/
def extension (run : RunState) (slot : SlotIx) (phase : Phase) (remaining : Nat) (riders : List EntryIx) : LiveChannel :=
  { run, action := .extend remaining 10500, slot, phase, cause := .decision, amount := 45, riders
    charges := [(1, 45)], level := 2, grantTime := 10160 }

/-- An advance live on a channel. -/
def advance (run : RunState) (slot : SlotIx) (phase : Phase) (deadline : Time) (riders : List EntryIx) : LiveChannel :=
  { run, action := .advance deadline, slot, phase, cause := .decision, amount := 30, riders
    charges := [(1, 30)], level := 2, grantTime := 10160 }

/-- The state with a live record on a channel. -/
def carrying (c : ChannelIx) (l : LiveChannel) (s : State) : State :=
  { s with channels := put s.channels c { live := some l, lastEnd := none } }

/-! ## What the witnesses are shown with -/

/-- A state asked for a command while no long command runs serves it. -/
theorem asked_serves (s : State) (h : s.held = false) (h' : s.port.command = .idle) : (asked s).Serves :=
  ⟨⟨h, _, rfl⟩, h'⟩

/-- What holds of every present value of a family of options, by a check of each. -/
theorem present_all {ι α : Type} (f : ι → Option α) (P : ι → α → Bool) (h : ∀ i, (f i).all (P i) = true) :
    ∀ i a, f i = some a → P i a = true := by
  intro i a e
  have := h i
  rwa [e] at this

/-- Vehicles are distinct where no two entries of the table hold the same one. -/
theorem vehiclesDistinct_of (s : State)
    (h : ∀ i j : EntryIx, i = j ∨ s.table[i] = none ∨ s.table[i].map (·.vehicle) ≠ s.table[j].map (·.vehicle)) :
    s.VehiclesDistinct := by
  intro i j e f he hf hv
  rcases h i j with h | h | h
  · exact h
  · simp [he] at h
  · simp [he, hf, hv] at h

/-! ## Commands that are not well formed -/

theorem test_overrideHoldSet_clear_ill_formed : (Instr.overrideHoldSet 0).wellFormed = false := by decide

theorem test_corridorFrame_empty_ill_formed : (Instr.corridorFrameReceived .linkA []).wellFormed = false := by decide

theorem test_corridorFrame_short_handoff_ill_formed :
    (Instr.corridorFrameReceived .linkA [0x01, 0, 0, 0]).wellFormed = false := by decide

theorem test_corridorFrame_long_ack_ill_formed :
    (Instr.corridorFrameReceived .linkB [0x02, 0, 0, 0, 0, 0, 0]).wellFormed = false := by decide

/-! ## Frames of the controller port, written out from the argument layouts (R168, R184) -/

theorem test_frame_setRoute :
    decodeFrame [0x22, 0x05, 0x05, 0x00, 0xD4, 0xD6, 0x01] = .setRoute 0x05 0x00D4 0xD6 0x01 := by decide

theorem test_frame_forceGrant : decodeFrame [0x31, 0x04, 0x02, 0x01, 0x40, 0x0C] = .forceGrant 0x02 0x01 0x400C := by
  decide

theorem test_frame_clearFaults : decodeFrame [0x10, 0x03, 0x00, 0x20, 0x01, 0xFF] = .clearFaults 0x002001 := by decide

theorem test_frame_override_hold :
    decodeFrame [0x33, 0x01, 0x00] = .overrideHoldClear ∧ decodeFrame [0x33, 0x01, 0x01] = .overrideHoldSet 1 := by
  decide

theorem test_frame_empty_is_null : decodeFrame [] = .null := by decide

theorem test_frame_unknown_code : decodeFrame [0x14, 0x00] = .badCommand (some 0x14) := by decide

theorem test_frame_cut_short : decodeFrame [0x02, 0x01] = .badCommand (some 0x02) := by decide

theorem test_frame_wrong_length : decodeFrame [0x02, 0x02, 0x00, 0x00] = .badCommand (some 0x02) := by decide

/-! ## The machine and the controller port -/

theorem witness_CommandsLeaveQueueAndTime : exec .settleTimeout quiet = .next quiet := rfl

theorem witness_RstLowHoldsThePart : ({ quiet with held := true } : State).held = true := by decide

theorem test_powerOnReset_roles : (after (.powerOnReset false true) quiet).linkB.settings.role = .poller ∧
    (after (.powerOnReset false true) quiet).linkA.state = .off := by decide

theorem test_rstLow_releases_calls : (after .rstLow quiet).held = true ∧ (after .rstLow quiet).callDriven .p1 = .released := by
  decide

/-- The start-up interval's end with a role of each kind: MIDDLE has a responder and a poller, STANDALONE two ports
OFF. -/
theorem witness_StartUpIntervalEnds :
    (∀ b, let s : State := { powerOnState b false with time := 20 }
      s.held = false ∧ s.startUpEnd = some 20 ∧ atOrAfter s.time 20 = true) ∧
    (powerOnState false false).linkA.settings.role = .off ∧
    (quiet.linkB.settings.role = .poller ∧ quiet.linkB.state = .syncing) ∧
    (quiet.linkA.settings.role = .responder ∧ quiet.linkA.state = .syncing ∧ quiet.linkA.silenceExpiry = none) ∧
    (quiet.setLink .linkA { quiet.linkA with silenceExpiry := some 7 }).linkA.silenceExpiry ≠ none ∧
    (quiet.setLink .linkA { quiet.linkA with state := .down }).linkA.state = .down ∧
    (quiet.setLink .linkB { quiet.linkB with state := .roleFault }).linkB.state = .roleFault := by decide

theorem test_startUpIntervalEnd_starts_ports :
    (after .startUpIntervalEnd { powerOnState true false with time := 20 }).linkB.pollDue = some 20 ∧
    (after .startUpIntervalEnd { powerOnState true false with time := 20 }).linkA.silenceExpiry = some 50 := by decide

theorem witness_ResetCoreIsAccepted : (asked quiet).Takes := (asked_serves quiet rfl rfl).1

theorem witness_BlocksTakeTheirReset :
    let s := during (.resetCore allBlocks) quiet
    let u := during (.resetCore [.faults]) quiet
    (s.held = false ∧ s.port.command = .resetCore allBlocks ∧ (∀ r, .rx r ∈ allBlocks) ∧ (∀ p, .link p ∈ allBlocks) ∧
      Block.intake ∈ allBlocks ∧ Block.table ∈ allBlocks ∧ Block.tracker ∈ allBlocks ∧ Block.engine ∈ allBlocks ∧
      Block.channels ∈ allBlocks ∧ Block.overrideMonitor ∈ allBlocks ∧ Block.faults ∈ allBlocks) ∧
    u.held = false ∧ u.port.command = .resetCore [.faults] ∧ Block.table ∉ [Block.faults] :=
  ⟨⟨rfl, rfl, by intro r; cases r <;> decide, by intro p; cases p <;> decide, by decide⟩, by decide⟩

theorem test_blockReset_last_completes :
    (after (.blockReset .faults) (during (.resetCore [.faults]) quiet)).port.longSlot =
      some { echo := 0x3F, result := .ok, data := [] } := by decide

theorem witness_TransactionsChooseResponses :
    let r : Response := { echo := 0x01, result := .ok, data := [] }
    (quiet.held = false ∧ quiet.port.transaction = none ∧ quiet.startUpEnd = none ∧ quiet.port.shortSlot = none ∧
      quiet.port.longSlot = none ∧ quiet.port.command = .idle) ∧
    (State.reset.held = false ∧ State.reset.port.transaction = none ∧ State.reset.startUpEnd = some 20) ∧
    (({ quiet with port := { quiet.port with shortSlot := some r } } : State).port.shortSlot = some r) ∧
    (({ quiet with port := { quiet.port with longSlot := some r } } : State).port.shortSlot = none) ∧
    (during (.flushTable 0 0) quiet).port.command = .flushTable 0 0 ∧ (asked quiet).Takes ∧
    (quiet.port.transaction = none ∧ (asked quiet).port.transaction ≠ none ∧
      (2 < (responseFrame r).length ∧ (responseFrame r).length ≤ 3)) :=
  ⟨by decide, by decide, by decide, by decide, by decide, (asked_serves quiet rfl rfl).1, by decide⟩

/-- NOT_READY leaves the part as 0x00, result code 7 and data length 0, then 0 (R168, R184). -/
theorem test_sdo_not_ready :
    let s := after .transactionStart State.reset
    [s.sdoByte 0, s.sdoByte 1, s.sdoByte 2, s.sdoByte 3] = [some 0x00, some 0x07, some 0x00, some 0x00] ∧
      s.sdoBit 12 = some false ∧ s.sdoBit 13 = some true ∧ quiet.sdoByte 0 = none := by decide

theorem test_transactionStart_start_up :
    (after .transactionStart State.reset).port.transaction.map (·.response.result) = some .notReady := by decide

theorem test_transactionStart_pending :
    (after .transactionStart (during (.flushTable 3 1) quiet)).port.transaction.map (·.response) =
      some { echo := 0x34, result := .pending, data := [] } := by decide

theorem witness_ReadsAnswerRecords :
    (asked quiet).Serves ∧ 16 ≤ (16 : Byte).toNat ∧ 4 ≤ (4 : Byte).toNat ∧ ((asked quiet).link .linkA).state ≠ .roleFault ∧
    (asked (quiet.setLink .linkB { quiet.linkB with state := .roleFault })).Serves ∧
    ((asked (quiet.setLink .linkB { quiet.linkB with state := .roleFault })).link .linkB).state = .roleFault :=
  ⟨asked_serves _ rfl rfl, by decide, by decide, by decide, asked_serves _ rfl rfl, by decide⟩

theorem test_readStatus_clears_events :
    (after .readStatus (asked { quiet with port := { quiet.port with collision := true } })).port.collision = false := by
  decide

theorem test_readEntry_free : (answer (.readEntry 15) quiet).map (·.1) = some .ok ∧
    answer (.readEntry 16) quiet = some (.badArg, []) := by decide

theorem test_readChannel_range : answer (.readChannel 4) quiet = some (.badArg, []) := by decide

theorem test_readLink_acknowledges :
    (after (.readLink 3) (asked (quiet.setLink .linkB { quiet.linkB with state := .roleFault }))).linkB.acknowledged =
      true := by decide

theorem test_readFault_after_reset : (answer .readFault quiet).map (·.2.length) = some 29 := by decide

theorem test_readPhase_length : (answer .readPhase quiet).map (·.2.length) = some 61 := by decide

theorem witness_PopOutcomesTakesTheOldest :
    (asked quiet).Serves ∧ 1 ≤ (1 : Byte).toNat ∧ (4 : Byte).toNat ≤ 4 ∧ (0 : Byte).toNat = 0 ∧ 5 ≤ (5 : Byte).toNat ∧
      ∀ r : OutcomeRecord, (List.replicate 31 r).length < 32 ∧ 32 ≤ (List.replicate 32 r).length :=
  ⟨asked_serves _ rfl rfl, by decide, by decide, by decide, by decide, fun r => by simp⟩

theorem test_popOutcomes_empty : answer (.popOutcomes 4) quiet = some (.ok, [0]) ∧
    answer (.popOutcomes 5) quiet = some (.badArg, []) := by decide

theorem witness_CommandsTurnedAway :
    ((asked (during (.flushTable 0 0) quiet)).Takes ∧
      (asked (during (.flushTable 0 0) quiet)).port.command ≠ .idle ∧ encodeFrame .readPhase = some [0x04, 0x00]) ∧
    ∃ r, (after .transactionStart State.reset).held = false ∧
      (after .transactionStart State.reset).port.transaction = some { response := r, discard := true } :=
  ⟨⟨⟨rfl, _, rfl⟩, by decide, by decide⟩, ⟨0x00, .notReady, []⟩, by decide, by decide⟩

theorem test_badCommand_and_null : answer (.badCommand (some 0x14)) (during (.flushTable 0 0) quiet) = some (.badCommand, []) ∧
    answer .null quiet = none := by decide

theorem test_collided : answer .contain (during (.flushTable 0 0) quiet) = some (.collided, []) := by decide

theorem witness_CommandFramesRoundTrip :
    (Instr.setIdent 0xFF).wellFormed = true ∧ encodeFrame (.setIdent 0xFF) = some [0x26, 0x01, 0xFF] ∧
      ([] : List Bool).length < 8 ∧ (List.replicate 7 true).length < 8 := by decide

/-- READ_ENTRY of entry 3 on SDI, most significant bit first, its transaction ending one bit into a fourth byte. -/
theorem test_bits_cut : decodeBits [false, false, false, false, false, false, true, false,
    false, false, false, false, false, false, false, true, false, false, false, false, false, false, true, true,
    true] = .readEntry 3 := by decide

/-- A transaction of three bits has received no byte and is a NULL (R168). -/
theorem test_bits_without_a_byte : decodeBits [true, false, true] = .null := by decide

/-- A HANDOFF frame with its lateness at either end and its nominal and tolerance at the top of their fields. -/
theorem witness_CorridorFramesRoundTrip :
    ∀ late ∈ [(-32768 : Int), 32767], -32768 ≤ late ∧ late ≤ 32767 ∧ (65535 : Nat) < 65536 := by decide

/-! ## Operations that several commands share -/

theorem witness_CauseStartsASortedPass :
    let s := holding [(3, bus 7 0 2 10400 10545)] (following 0 10100 10160)
    (s.engine.pass = none ∧ s.RunningCondition) ∧ (quiet.engine.pass = none ∧ ¬ quiet.RunningCondition) ∧
      (passing [(3, bus 7 0 2 10400 10545)] (following 0 10100 10160)).engine.pass ≠ none :=
  ⟨⟨by decide, by decide, by decide, _, rfl⟩, ⟨by decide, by rintro ⟨_, _, r, h⟩; cases h⟩, by decide⟩

/-- Candidates are sorted by level, then by A_e*, approach and index (R80). -/
theorem test_cause_sorts :
    (State.cause (holding [(0, bus 7 0 1 10400 10545), (1, bus 8 2 2 10500 10600), (2, bus 9 1 2 10100 10600)]
      (following 0 10100 10160))).engine.pass = some [(2, 9), (1, 8), (0, 7)] := by decide

/-- Severity and mask of the recorder: CHECK with severity RECORD, a masked kind, and SEQUENCE_BREAK with CONTAIN. -/
theorem witness_OccurrenceIsRecorded :
    (kindBit quiet.faults.mask .rx0Check = false ∧ kindBit quiet.faults.severity .rx0Check = false) ∧
    (kindBit quiet.faults.mask .sequenceBreak = false ∧ kindBit quiet.faults.severity .sequenceBreak = true) ∧
    (({ quiet with faults := { quiet.faults with mask := 1 } } : State).faults.mask = 1 ∧
      kindBit (1 : BitVec 19) .rx0Framing = true) ∧ FaultKind.rx0Check ≠ .rx0Framing := by decide

theorem test_occur_keeps_first_fault :
    ((quiet.occur .rx0Check (.rx .rx0) none).occur .cycleLength .none none).faults.pointer = some .rx0Check := by decide

/-- A channel live with a rider, in NORMAL with the enable on, and the other cases of the trigger. -/
theorem witness_TriggerContains :
    let s := carrying 2 (extension .running 0 .p2 20 [3])
      (holding [(3, { bus 7 0 2 10400 10545 with state := .granted 2 })] (following 0 10100 10160))
    (s.containment.enable = true ∧ s.containment.state = .normal ∧
      s.channels[2].live = some (extension .running 0 .p2 20 [3]) ∧ s.channels[0].live = none ∧
      s.table[3] = some { bus 7 0 2 10400 10545 with state := .granted 2 } ∧ 3 ∈ (extension .running 0 .p2 20 [3]).riders) ∧
    (s.trigger .software).containment.state ≠ .normal := by decide

theorem test_trigger_notes_riders :
    ((carrying 2 (extension .running 0 .p2 20 [3]) (holding [(3, { bus 7 0 2 10400 10545 with state := .granted 2 })]
      (following 0 10100 10160))).trigger .software).table[3] =
      some { bus 7 0 2 10400 10545 with note := some (.ended .contained) } := by decide

/-- An extension whose charge is in the account, and an advance, with their targets and a rider. -/
theorem witness_ChannelEnds :
    let l := extension .running 0 .p2 20 [3]
    let s := carrying 2 l (holding [(3, bus 7 0 2 10400 10545)]
      { following 0 10100 10160 with account := { quiet.account with charge := #v[0, 45, 0, 0, 0, 0], xcur := 45 } })
    (s.channels[2].live = some l ∧ l.action = .extend 20 10500 ∧ EndReason.cancelled ≠ .complete ∧
      EndReason.cancelled ≠ .planChange ∧ s.plans.active = some worked ∧ 20 ≤ (l.charges.map (·.2)).sum ∧
      s.tracker = .inStep { cur := 0, period := .green, onset := 10100, lastBoundary := 10100 } ∧ l.slot = 0 ∧
      (following 1 10600 10700).tracker = .inStep { cur := 1, period := .green, onset := 10600, lastBoundary := 10600 } ∧
      (l.charges.map (·.1)).Nodup ∧ (∀ q ∈ l.charges, q.2 ≤ s.account.charge[q.1]) ∧ 3 ∈ l.riders ∧ s.table[3] ≠ none) ∧
    (advance .running 2 .p1 10800 [3]).action = .advance 10800 := by decide

/-- A cancelled extension gives back its remaining time to the budget and x_cur (R114). -/
theorem test_endChannel_refunds :
    let s := State.endChannel (carrying 2 (extension .running 0 .p2 20 [3]) { following 0 10100 10160 with
      account := { quiet.account with charge := #v[0, 45, 0, 0, 0, 0], xcur := 45, budgetLeft := 155 } }) 2 .cancelled
    s.account.budgetLeft = 175 ∧ s.account.xcur = 25 ∧ s.account.charge[1] = 25 ∧
      s.channels[2].lastEnd = some (.cancelled, 10160) := by decide

/-- The entries a closure meets: free of any channel, one of two riders, and the last rider. -/
theorem witness_ClosureIsOneWrite :
    let e := bus 7 0 2 10400 10545
    let g : Entry := { e with state := .granted 2 }
    let two := carrying 2 (extension .running 0 .p2 20 [3, 4]) (holding [(3, g)] (following 0 10100 10160))
    let last := carrying 2 (extension .running 0 .p2 20 [3]) (holding [(3, g)] (following 0 10100 10160))
    ((holding [(3, e)] quiet).table[3] = some e ∧ (∀ c, e.state ≠ .granted c)) ∧
    (two.table[3] = some g ∧ g.state = .granted 2 ∧ [3, 4].filter (fun j => decide (j ≠ (3 : EntryIx))) ≠ []) ∧
    (last.table[3] = some g ∧ [3].filter (fun j => decide (j ≠ (3 : EntryIx))) = []) ∧
    ((holding [(3, g)] quiet).table[3] = some g ∧ (holding [(3, g)] quiet).channels[2].live = none) := by decide

/-- A served closure with no exit side on a queue of 31 records: its own is the last, and the NOT_SENT record is lost
with OVF (R145, R176). -/
theorem test_closeEntry_loses_record :
    let r : OutcomeRecord := { time := 0, vehicle := 0, route := 0, approach := 0, level := 0, body := .rejected .full }
    let s : State := holding [(3, bus 7 0 2 10400 10545)] { quiet with
      port := { quiet.port with outcomes := List.replicate 31 r } }
    let t := s.closeEntry 3 (bus 7 0 2 10400 10545) .servedLoop
    (t.port.outcomes.length, t.port.events.ovf, t.table[3]) = (32, true, none) ∧
      (t.port.outcomes[31]?).map (·.body) = some (.closed .servedLoop .none 0 .radio) := by decide

/-- The rider of the highest level leaves: the channel takes the level of the one that remains (R112). -/
theorem test_closeEntry_lowers_level :
    let g (v : Vehicle) (level : Nat) : Entry := { bus v 0 level 10400 10545 with state := .granted 2 }
    let s := State.closeEntry (carrying 2 { extension .running 0 .p2 20 [3, 4] with level := 6 }
      (holding [(3, g 7 6), (4, g 8 5)] (following 0 10100 10160))) 3 (g 7 6) .cancelled
    (s.channels[2].live).map (fun l => (l.riders, l.level)) = some ([4], 5) := by decide

/-- A closure with a served bus and its exit side in each state the rule tells apart. -/
theorem witness_ClosureIsOneWrite_handoff :
    let up (q : List OutMsg) (w : List AwaitItem) (x : State) : State :=
      { x with approaches := put x.approaches 0 { approachPowerOn .p2 with exitSide := .toB }
               linkB := { x.linkB with state := .up, outgoing := q, awaiting := w } }
    let i : AwaitItem := { id := 0, deadline := 0, vehicle := 0, route := 0, approach := 0, level := 0 }
    quiet.approaches[0].exitSide = .none ∧ quiet.linkB.state ≠ .up ∧
      (up [] [] quiet).linkB.state = .up ∧ (up [] [] quiet).linkB.peerContained = false ∧
      (up [] [] quiet).approaches[0].exitSide = .toB ∧
      4 ≤ (up [.ack 0 .full, .ack 1 .full, .ack 2 .full, .ack 3 .full] [] quiet).linkB.outgoing.length ∧
      4 ≤ (up [] [i, i, i, i] quiet).linkB.awaiting.length := by decide

theorem test_closeEntry_hands_off :
    let s : State := holding [(3, bus 7 0 2 10400 10545)] { quiet with
      approaches := put quiet.approaches 0 { approachPowerOn .p2 with exitSide := .toB }
      linkB := { quiet.linkB with state := .up } }
    ((s.closeEntry 3 (bus 7 0 2 10400 10545) .servedLoop).linkB.outgoing.length,
      (s.closeEntry 3 (bus 7 0 2 10400 10545) .servedLoop).linkB.nextId,
      (s.closeEntry 3 (bus 7 0 2 10400 10545) .servedLoop).table[3]) = (1, 1, none) := by decide

/-! ## Faults and containment -/

/-- A fault that holds the pointer, and settle timeouts at and beyond the ends of their range. -/
theorem witness_FaultControls :
    (asked (quiet.occur .rx0Check (.rx .rx0) none)).Serves ∧
    ((quiet.occur .rx0Check (.rx .rx0) none).faults.pointer = some .rx0Check ∧
      kindBit ((0x4 : BitVec 24).extractLsb' 0 19) .rx0Check = true) ∧ (asked quiet).Serves ∧ quiet.faults.pointer = none ∧
    duration 0x0064 = some 100 ∧ duration 0x803C = some 6000 ∧ duration 0x0063 = some 99 ∧
    duration 0x803D = some 6100 ∧ (2 : Byte) ≠ 0 ∧ (2 : Byte) ≠ 1 :=
  ⟨asked_serves _ rfl rfl, by decide, asked_serves _ rfl rfl, by decide⟩

theorem test_clearFaults_releases_pointer :
    (after (.clearFaults 0x000004) (asked (quiet.occur .rx0Check (.rx .rx0) none))).faults.pointer = none ∧
    (after (.clearFaults 0x000002) (asked (quiet.occur .rx0Check (.rx .rx0) none))).faults.pointer = some .rx0Check := by
  decide

theorem test_setFaultControl_range : answer (.setFaultControl 0 0 1 0x0063) quiet = some (.badArg, []) ∧
    (after (.setFaultControl 0x4 0 0 0x803C) (asked quiet)).containment =
      { state := .normal, enable := false, settleTimeout := 6000 } := by decide

theorem witness_ContainAndSettle :
    let at_ (k : ContainState) (en : Bool) : State := { quiet with containment := { state := k, enable := en, settleTimeout := 100 } }
    (∀ k en, (asked (at_ k en)).Serves) ∧ (at_ .normal false).containment.enable = false ∧
    (at_ .normal true).containment.state = .normal ∧
    (at_ (.settling .software 0) true).containment.state = .settling .software 0 ∧
    atOrAfter (at_ (.settling .software 0) true).time 0 = true ∧ atOrAfter (at_ (.settling .software 1) true).time 1 = false ∧
    (at_ (.held (.fault .planMissing)) true).containment.state = .held (.fault .planMissing) :=
  ⟨fun _ _ => asked_serves _ rfl rfl, by decide⟩

theorem test_contain_answers_state : answer .contain quiet = some (.ok, [1, 2, 31]) := by decide

theorem test_settleTimeout_holds :
    (after .settleTimeout { quiet with containment := { state := .settling .software 0, enable := true, settleTimeout := 100 }
      }).containment.state = .held .software := by decide

/-- HELD with a fault that blocks the release, with the same fault masked, and the states that are not HELD. -/
theorem witness_ReleaseIsJudged :
    let at_ (k : ContainState) (mask : BitVec 19) : State := { quiet with
      containment := { state := k, enable := true, settleTimeout := 100 }
      faults := { quiet.faults with status := 0x8000, mask } }
    (∀ k m, (asked (at_ k m)).Serves) ∧
    (kindBit (at_ (.held .software) 0).faults.status .planMissing = true ∧
      kindBit (at_ (.held .software) 0).faults.mask .planMissing = false ∧
      kindBit (at_ (.held .software) 0).faults.severity .planMissing = true) ∧
    ¬ ∃ k, kindBit (at_ (.held .software) 0x8000).faults.status k = true ∧
      kindBit (at_ (.held .software) 0x8000).faults.mask k = false :=
  ⟨fun _ _ => asked_serves _ rfl rfl, by decide, by rintro ⟨k, h⟩; cases k <;> revert h <;> decide⟩

theorem test_release_held : (after .release (asked { quiet with
    containment := { state := .held .software, enable := true, settleTimeout := 100 } })).containment.state = .normal := by
  decide

/-! ## Configuration -/

/-- SET_APPROACH with every argument at an end of its range, with and without a live entry of the approach. -/
theorem witness_SetApproachReplacesTheRecord :
    (asked quiet).Serves ∧ (asked (holding [(3, bus 7 3 2 0 0)] quiet)).Serves ∧
    ((3 : Byte).toNat < 4 ∧ (0xEA : Byte).extractLsb' 2 2 ≠ 3 ∧ (0xEA : Byte).extractLsb' 0 2 ≠ 3 ∧ (6 : Byte).toNat ≤ 6 ∧
      (300 : Half).toNat ≤ 300 ∧ 10 ≤ (10 : Half).toNat ∧ duration 100 = some 100) ∧
    ((holding [(3, bus 7 3 2 0 0)] quiet).table[3] = some (bus 7 3 2 0 0) ∧ (bus 7 3 2 0 0).approach = 3) ∧
    (∀ i : EntryIx, quiet.table[i] = none) ∧ duration 101 = some 101 ∧ (0xEC : Byte).extractLsb' 2 2 = 3 ∧
    ¬ ((19 : Half).toNat ≥ 20) :=
  ⟨asked_serves _ rfl rfl, asked_serves _ rfl rfl, by decide⟩

theorem test_setApproach_live_entry :
    answer (.setApproach 3 0xEA 6 300 10 100) (holding [(3, bus 7 3 2 0 0)] quiet) = some (.badState, []) ∧
    answer (.setApproach 3 0xEA 6 300 10 101) quiet = some (.badArg, []) := by decide

theorem witness_RouteAndClassTables :
    let s : State := { quiet with routes := { quiet.routes with
      entries := put quiet.routes.entries 0 { route := 1023, mask := 1, cap := 7, enabled := true } } }
    let th : Vector Half 7 := #v[0xF448, 0, 0, 0, 0, 0, 3000]
    ((asked quiet).Serves ∧ (asked s).Serves) ∧
    (32 ≤ (32 : Byte).toNat ∧ 1024 ≤ (1024 : Half).toNat ∧ (2 : Byte) ≠ 0 ∧ (2 : Byte) ≠ 1) ∧
    ((31 : Fin 32).val = (31 : Byte).toNat ∧ (1023 : Half).toNat < 1024 ∧ (0x80 : Byte).getLsbD 7 = true ∧
      (0 : Fin 32) ≠ 31 ∧ s.routes.entries[(0 : Fin 32)].enabled = true ∧
      s.routes.entries[(0 : Fin 32)].route.toNat = (1023 : Half).toNat ∧
      ∀ j : Fin 32, quiet.routes.entries[j].enabled = false) ∧
    ((∀ i : Fin 7, -3000 ≤ th[i].toInt ∧ th[i].toInt ≤ 3000) ∧
      ∀ i j : Fin 7, i.val + 1 = j.val → th[i].toInt ≤ th[j].toInt) ∧ ¬ ((3001 : Half).toInt ≤ 3000) :=
  ⟨⟨asked_serves _ rfl rfl, asked_serves _ rfl rfl⟩, by decide⟩

theorem test_setRoute_range : answer (.setRoute 32 0 0 0) quiet = some (.badArg, []) ∧
    (after (.setRoute 31 1023 0xFF 1) (asked quiet)).routes.entries[31] =
      { route := 1023, mask := 0xF, cap := 7, enabled := true } := by decide

theorem test_setClass_falling : answer (.setClass #v[1, 0, 0, 0, 0, 0, 0]) quiet = some (.badArg, []) := by decide

theorem witness_SetPolicyReplacesSettings :
    (asked quiet).Serves ∧ duration 600 = some 600 ∧ duration 0x801E = some 3000 ∧ duration 0 = some 0 ∧
      duration 100 = some 100 ∧ duration 10 = some 10 ∧ duration 0x800C = some 1200 ∧ duration 0xC000 = none ∧
      duration 601 = some 601 ∧ (1 : Byte) = 1 :=
  ⟨asked_serves _ rfl rfl, by decide⟩

theorem test_setPolicy_range : answer (.setPolicy 601 0 0 0 10 100 10 0) quiet = some (.badArg, []) ∧
    (after (.setPolicy 600 0x801E 600 100 100 0x800C 600 1) (asked quiet)).policy =
      { budget := 600, debtCap := 3000, repay := 600, aMin := 100, advTol := 100, horizon := 1200, tStale := 600,
        preemption := true } := by decide

theorem witness_IdentityPinsAndEvents :
    (asked quiet).Serves ∧ duration 1 = some 1 ∧ duration 15 = some 15 ∧ duration 10 = some 10 ∧
      duration 0x803C = some 6000 ∧ duration 600 = some 600 ∧ duration 16 = some 16 ∧
      (quiet.pins.edge = .rising ∧ quiet.pins.filter = 5) ∧ OvrEdge.falling ≠ .rising ∧
      (State.reset.startUpEnd ≠ none ∧ ({ quiet with held := true } : State).held = true) ∧
      (quiet.held = false ∧ quiet.startUpEnd = none ∧ quiet.pins.drive = .pushPull ∧
        (carrying 3 (extension .running 0 .p2 20 [3]) quiet).channels[3].live = some (extension .running 0 .p2 20 [3])) ∧
      ({ quiet with pins := { quiet.pins with drive := .openDrain } } : State).pins.drive = .openDrain :=
  ⟨asked_serves _ rfl rfl, by decide⟩

theorem test_call_outputs :
    let s := carrying 3 (extension .running 0 .p2 20 [3]) quiet
    (s.callDriven .p2, s.callDriven .p4) = (.high, .low) ∧
      ({ s with pins := { s.pins with drive := .openDrain } } : State).callDriven .p4 = .released ∧
      (carrying 3 (extension .running 0 .p2 20 [3]) State.reset).callDriven .p2 = .released := by decide

/-- OVF raised: ATTN follows its enable bit, bit 1 (R178). -/
theorem test_attn :
    let s (e : BitVec 7) : State := { quiet with port := { quiet.port with
      enables := e, events := { quiet.port.events with ovf := true } } }
    (s 0x02).attn = true ∧ (s 0x7D).attn = false := by decide

theorem test_setPins_edge_restarts_run :
    (after (.setPins 0 1 5 600 300) (asked { quiet with ovr := { quiet.ovr with runCount := 3 } })).ovr.runCount = 0 ∧
    (after (.setPins 1 0 5 600 300) (asked { quiet with ovr := { quiet.ovr with runCount := 3 } })).ovr.runCount = 3 := by
  decide

theorem test_setEvents_ignores_bit_7 : (after (.setEvents 0xFF) (asked quiet)).port.enables = 0x7F := by decide

theorem test_setIdent : (after (.setIdent 0xFF) (asked quiet)).identity = 0xFF := by decide

/-- The arguments of STAGE_PLAN for the worked plan. -/
def workedRaw : RawPlan :=
  { cycle := 900, count := 3, slots := #v[⟨2, 400, 150, 50, 150⟩, ⟨4, 200, 100, 50, 0⟩, ⟨1, 150, 60, 50, 60⟩,
      ⟨0, 0, 0, 0, 0⟩, ⟨0, 0, 0, 0, 0⟩, ⟨0, 0, 0, 0, 0⟩] }

theorem witness_PlansAreStagedWhenValid :
    (asked quiet).Serves ∧ (during (.stagePlan workedRaw) quiet).held = false ∧
    (during (.stagePlan workedRaw) quiet).port.command = .stagePlan workedRaw ∧
    (2 ≤ workedRaw.count.toNat ∧ workedRaw.count.toNat ≤ 6 ∧ duration workedRaw.cycle = some worked.cycle ∧
      300 ≤ worked.cycle ∧ worked.cycle ≤ 2400 ∧ worked.slots.length = workedRaw.count.toNat ∧
      (worked.slots.map (·.phase)).Nodup ∧ (worked.slots.map fun t => t.g + t.y).sum = worked.cycle) ∧
    ¬ 2 ≤ ({ workedRaw with count := 1 } : RawPlan).count.toNat :=
  ⟨asked_serves _ rfl rfl, by decide⟩

/-- What the three slots of the worked plan read as, with the phase of the third and the cycle as given. -/
theorem witness_PlansAreStagedWhenValid_range :
    ∀ x ∈ [((1 : Byte), Phase.p1), (4, .p4)],
      let raw := put workedRaw.slots 2 { workedRaw.slots[2] with phase := x.1 }
      let slots : List Slot := [⟨.p2, 400, 150, 50, 150⟩, ⟨.p4, 200, 100, 50, 0⟩, ⟨x.2, 150, 60, 50, 60⟩]
      ∀ k : Fin 6, k.val < 3 → ∃ t ∈ slots, slots[k.val]? = some t ∧ phaseOfNumber raw[k].phase.toNat = some t.phase ∧
        (duration raw[k].g, duration raw[k].gmin, duration raw[k].y, duration raw[k].e) =
          (some t.g, some t.gmin, some t.y, some t.e) ∧
        10 ≤ t.gmin ∧ t.gmin ≤ t.g ∧ 30 ≤ t.y ∧ t.y ≤ 100 ∧ t.e ≤ 300 := by decide

/-- Each of the four checks failing first: one slot, a cycle of 299, phase 4 twice, and a sum that is not the cycle. -/
theorem witness_PlansAreStagedWhenValid_sub_reasons :
    ¬ 2 ≤ (1 : Byte).toNat ∧ (∀ p : Plan, ¬ (duration 299 = some p.cycle ∧ 300 ≤ p.cycle)) ∧
    phaseOfNumber (4 : Byte).toNat = some .p4 ∧ ¬ [Phase.p2, .p4, .p4].Nodup ∧
    phaseOfNumber (1 : Byte).toNat = some .p1 ∧ [Phase.p2, .p4, .p1].Nodup ∧ duration 901 = some 901 ∧ 900 ≠ 901 :=
  ⟨by decide, fun p h => by
    have e : duration 299 = some 299 := by decide
    have f : 299 = p.cycle := Option.some.inj (e.symm.trans h.1)
    omega, by decide, by decide, by decide, by decide, by decide, by decide⟩

theorem test_planValidation_stages :
    (after .planValidationComplete (during (.stagePlan workedRaw) quiet)).plans.staged = some worked := by decide

theorem test_planValidation_sub_reasons :
    let verdict (raw : RawPlan) :=
      ((after .planValidationComplete (during (.stagePlan raw) quiet)).port.longSlot.map fun r => (r.result, r.data))
    verdict { workedRaw with count := 1 } = some (.badArg, [1, 1]) ∧
    verdict { workedRaw with cycle := 299 } = some (.badArg, [1, 2]) ∧
    verdict { workedRaw with slots := put workedRaw.slots 2 { workedRaw.slots[2] with phase := 4 } } =
      some (.badArg, [1, 3]) ∧
    verdict { workedRaw with cycle := 901 } = some (.badArg, [1, 4]) := by decide

theorem witness_SetLinkOnReceiveLinks :
    (asked quiet).Serves ∧ (2 : Byte) ≠ 0 ∧ (2 : Byte) ≠ 1 ∧ 3 ≤ (3 : Byte).toNat ∧ rateOfByte 2 = some .r38400 ∧
      ((quiet.rx .rx1).enabled = true ∧ (quiet.rx .rx1).rate = .r19200) ∧ LineRate.r38400 ≠ .r19200 ∧
      (quiet.rx .rx1).line ≠ .undecided :=
  ⟨asked_serves _ rfl rfl, by decide⟩

theorem test_setLink_rx_rate :
    (after (.setLink 1 1 2 0 0 0 0 0 0 0) (asked (quiet.setRx .rx1 { quiet.rx1 with assembler := .collect [1] }))).rx1 =
      { quiet.rx1 with rate := .r38400, assembler := .hunt } := by decide

/-- SET_LINK on a corridor port that listens, one that sends, and one in ROLE_FAULT not yet reported, with settings at the
ends of their ranges. -/
theorem witness_SetLinkOnCorridorPorts :
    let frame : OutFrame := { isReply := false, sender := 0, contained := false, msg := none }
    let faulted := quiet.setLink .linkB { quiet.linkB with state := .roleFault }
    let sending := quiet.setLink .linkB { quiet.linkB with line := .frame frame }
    (asked quiet).Serves ∧ (asked faulted).Serves ∧ (asked sending).Serves ∧
      (faulted.linkB.state = .roleFault ∧ faulted.linkB.acknowledged = false) ∧
      (quiet.linkB.state ≠ .roleFault ∧ quiet.linkB.line = .listening) ∧ sending.linkB.line ≠ .listening ∧
      (rateOfByte 3 = some .r115200 ∧ duration 2 = some 2 ∧ duration 50 = some 50 ∧ duration 1 = some 1 ∧
        duration 10 = some 10 ∧ (15 : Byte).toNat ≤ 15 ∧ duration 600 = some 600 ∧ duration 5 = some 5 ∧
        duration 0x803C = some 6000 ∧ duration 0x800C = some 1200) ∧ duration 51 = some 51 ∧
      (quiet.linkB.settings.role = .poller ∧ quiet.linkA.settings.role = .responder ∧
        State.reset.linkA.settings.role = .off) ∧ 4 ≤ (4 : Byte).toNat :=
  ⟨asked_serves _ rfl rfl, asked_serves _ rfl rfl, asked_serves _ rfl rfl, by decide⟩

theorem test_setLink_range : answer (.setLink 4 1 2 50 10 15 600 600 0 0) quiet = some (.badArg, []) ∧
    answer (.setLink 255 0 0 0 0 0 0 0 0 0) quiet = some (.badArg, []) := by decide

theorem test_setLink_port : (after (.setLink 3 2 3 50 10 15 600 600 0x803C 0x800C) (asked quiet)).linkB.settings =
    { role := .responder, rate := .r115200, pollInterval := 50, replyWindow := 10, missLimit := 15, silence := 600,
      ackTimeout := 600, nominal := 6000, tolerance := 1200 } ∧
    answer (.setLink 3 2 3 51 10 15 600 600 0x803C 0x800C) quiet = some (.badArg, []) := by decide

/-! ## The account and the channels -/

/-- A charge and a refund of less and of more than a slot is charged, of a phase whose debt is under the refund. -/
theorem test_refund_floor :
    let a : Account := { quiet.account with charge := #v[0, 45, 0, 0, 0, 0], debt := #v[0, 0, 0, 20, 0, 0], budgetLeft := 155 }
    (refundSlot worked a 1 45).charge[1] = 0 ∧ (refundSlot worked a 1 45).debt[3] = 0 ∧
      (refundSlot worked a 1 45).budgetLeft = 200 ∧ (refundSlot worked a 1 46).budgetLeft = 200 := by decide

/-- The worked extension with D_4 at 560 (spec/04): slot 1 gives 40 and slot 2 the other 5. -/
theorem test_allocation_under_debt :
    let s := { following 0 10100 10160 with account := { quiet.account with debt := #v[0, 0, 0, 560, 0, 0] } }
    s.figures.map (fun f => (f.sExt, f.allocation f.extensionSlots 45)) = some (130, [(1, 40), (2, 5)]) := by decide

/-- The figures of the worked plan in GREEN and in CLEARANCE, with a slot protected by an extension and one by an advance,
and the states in which there are figures and none. -/
theorem witness_AccountOperations :
    let f (q : Period) : Figures := { t := 10160, plan := worked, account := quiet.account, policy := quiet.policy,
                                      channels := (carrying 1 (extension .running 0 .p2 20 [3]) (carrying 2
                                        (advance .running 2 .p1 10800 [4]) quiet)).channels,
                                      step := { cur := 0, period := q, onset := 10100, lastBoundary := 10100 } }
    let s := following 0 10100 10160
    ((f .green).step.period = .green ∧ (f (.clearance 10150)).step.period = .clearance 10150 ∧
      (f .green).channels[1].live = some (extension .running 0 .p2 20 [3]) ∧
      (extension .running 0 .p2 20 [3]).slot = 0 ∧ (extension .running 0 .p2 20 [3]).action = .extend 20 10500 ∧
      (f .green).channels[2].live = some (advance .running 2 .p1 10800 [4]) ∧
      (advance .running 2 .p1 10800 [4]).slot = 2) ∧
    (s.plans.active = some worked ∧ s.tracker = .inStep { cur := 0, period := .green, onset := 10100, lastBoundary := 10100 }) ∧
    quiet.plans.active = none ∧
    ((f (.clearance 10150)).slack 1 ≠ 0 ∧ (f .green).slack 2 = 0) ∧
    ((3 : SlotIx) ∉ [((1 : SlotIx), 40), (2, 5)].map (·.1) ∧ (2 : SlotIx) ∉ [((1 : SlotIx), 40)].map (·.1)) := by decide

/-- A pair for a slot that a charge list names is added to it, another goes to the end (R89, R106). -/
theorem test_merge : mergePairs [(1, 40), (2, 5)] [(2, 7), (3, 1)] = [(1, 40), (2, 12), (3, 1)] := by decide

/-- In CLEARANCE since 10510 of slot 0, Y 50: TTG_1 at the time 10560, the current slot giving nothing (R71, R73). -/
theorem test_figures_in_clearance :
    let r : StepRecord := { cur := 0, period := .clearance 10510, onset := 10100, lastBoundary := 10100 }
    (({ following 0 10100 10520 with tracker := .inStep r } : State).figures.map fun f =>
      (f.timeToGreen 1, f.timeToGreen 2, f.slack 0, f.slack 1, f.sExt)) = some (10560, 10810, 0, 100, 190) := by decide

/-- FORCE_GRANT on a state that follows the worked plan: arguments at and beyond the ends of their ranges, a FREE entry,
an entry GRANTED, and an entry that fits on a free channel. -/
theorem witness_ForceGrantIsJudged :
    let s := holding [(15, bus 7 0 2 10400 10545)] (following 0 10100 10160)
    (asked s).Serves ∧ s.RunningCondition ∧ (16 ≤ (16 : Byte).toNat ∧ (3 : Byte) ≠ 1 ∧ (3 : Byte) ≠ 2 ∧
      duration 0 = some 0 ∧ duration 301 = some 301) ∧
    ((15 : Byte).toNat = (15 : EntryIx).val ∧ duration 1 = some 1 ∧ duration 300 = some 300 ∧ s.table[0] = none ∧
      s.table[15] = some (bus 7 0 2 10400 10545) ∧ (∀ c, (bus 7 0 2 10400 10545).state ≠ .granted c)) ∧
    (∃ g, s.figures = some g ∧ slotOf g.plan s.approaches[(0 : Approach)].phase = some 0 ∧
      slotOf g.plan s.approaches[(3 : Approach)].phase = none ∧ g.step.cur = 0 ∧ g.step.period = .green) ∧
    (∀ c : ChannelIx, s.channels[c].live = none) ∧ s.LowestIdle 0 ∧ ¬ quiet.RunningCondition :=
  ⟨asked_serves _ rfl rfl, ⟨by decide, by decide, _, rfl⟩, by decide, by decide,
    ⟨_, rfl, by decide, by decide, by decide, by decide⟩, by decide, ⟨by decide, by decide⟩,
    by rintro ⟨_, _, r, h⟩; cases h⟩

/-- A forced extension is clipped to the slot's limit of 150, and a forced advance of slot 1 to slot 0's time limit. -/
theorem test_forceGrant :
    answer (.forceGrant 3 1 300) (holding [(3, bus 7 0 2 10400 10545)] (following 0 10100 10160)) =
      some (.ok, [0, 0, 150]) ∧
    answer (.forceGrant 4 2 300) (holding [(4, bus 8 1 2 10200 10545)] (following 0 10100 10400)) =
      some (.ok, [0, 0, 100]) := by decide

theorem test_forceGrant_refused :
    answer (.forceGrant 16 1 300) quiet = some (.badArg, []) ∧ answer (.forceGrant 3 1 301) quiet = some (.badArg, []) ∧
    answer (.forceGrant 3 1 300) quiet = some (.notFound, []) ∧
    answer (.forceGrant 3 1 300) (holding [(3, bus 7 0 2 0 0)] quiet) = some (.badState, []) := by decide

/-- A channel that meets each event's condition and one that does not, and the operands of CANCEL_CHANNEL. -/
theorem witness_ChannelEventsAndCancel :
    let armed := carrying 3 (extension .armed 0 .p2 20 [3]) (following 0 10100 10500)
    let early := carrying 3 (extension .armed 0 .p2 20 [3]) (following 0 10100 10499)
    let spent := carrying 3 (extension .running 0 .p2 0 [3]) (following 0 10100 10520)
    let late := carrying 3 (advance .running 2 .p1 10520 [3]) (holding [(3, bus 7 2 2 0 0)] (following 0 10100 10520))
    (∀ s, s = armed ∨ s = late → (asked s).Serves) ∧ 4 ≤ (4 : Byte).toNat ∧ armed.channels[0].live = none ∧
    (armed.channels[3].live = some (extension .armed 0 .p2 20 [3]) ∧ atOrAfter armed.time 10500 = true) ∧
    (early.channels[3].live = some (extension .armed 0 .p2 20 [3]) ∧ atOrAfter early.time 10500 = false) ∧
    spent.channels[3].live = some (extension .running 0 .p2 0 [3]) ∧
    (late.channels[3].live = some (advance .running 2 .p1 10520 [3]) ∧ atOrAfter late.time 10520 = true ∧
      late.table[3] = some (bus 7 2 2 0 0)) ∧ late.held = false :=
  ⟨by rintro s (rfl | rfl) <;> exact asked_serves _ rfl rfl, by decide⟩

theorem test_runFromTime_starts_call :
    (after (.runFromTimeReached 3) (carrying 3 (extension .armed 0 .p2 20 [3]) (following 0 10100 10500))).callActive .p2 =
      true := by decide

theorem test_remaining_completes :
    (after (.remainingReachesZero 3) (carrying 3 (extension .running 0 .p2 0 [3]) (following 0 10100 10520))).channels[3] =
      { live := none, lastEnd := some (.complete, 10520) } := by decide

theorem test_deadline_misses :
    let s := after (.deadlineReached 3) (carrying 3 (advance .running 2 .p1 10520 [3]) (holding [(3, bus 7 2 2 0 0)]
      (following 0 10100 10520)))
    s.channels[3].lastEnd = some (.missed, 10520) ∧ s.faults.record.vehicle = some 7 ∧
      s.faults.record.source = .approach 2 := by decide

theorem test_cancelChannel : answer (.cancelChannel 4) quiet = some (.badArg, []) ∧
    answer (.cancelChannel 3) quiet = some (.notFound, []) ∧
    answer (.cancelChannel 3) (carrying 3 (extension .running 0 .p2 20 [3]) (following 0 10100 10500)) =
      some (.ok, [0, 20]) := by decide

theorem witness_FlushVisitsEveryEntry :
    let s := during (.flushTable 15 2) (holding [(15, bus 7 0 2 0 0)] quiet)
    (asked quiet).Serves ∧ (s.held = false ∧ s.port.command = .flushTable 15 2 ∧ s.table[15] = some (bus 7 0 2 0 0)) ∧
    (during (.flushTable 14 2) quiet).table[14] = none ∧ quiet.port.command = .idle :=
  ⟨asked_serves _ rfl rfl, by decide⟩

theorem test_flushVisit_completes :
    (after .flushVisit (during (.flushTable 15 2) (holding [(15, bus 7 0 2 0 0)] quiet))).port.longSlot =
      some { echo := 0x34, result := .ok, data := [3] } := by decide

/-! ## Override -/

/-- The override monitor in a state. -/
def overridden (o : OverrideState) (s : State) : State := { s with ovr := { s.ovr with state := o } }

theorem witness_OverrideEvents :
    let changed : State := { quiet with ovr := { quiet.ovr with changeAt := some 5 } }
    let hold : State := { quiet with ovr := { quiet.ovr with hold := true, state := .active } }
    let limit : State := { overridden .active (carrying 1 (extension (.suspended .running) 0 .p2 20 [3])
      (holding [(3, bus 7 0 2 0 0)] (following 0 10100 10700))) with
        ovr := { quiet.ovr with state := .active, suspendExpiry := some 10700 } }
    (quiet.ovr.changeAt = none ∧ changed.held = false ∧ changed.ovr.changeAt = some 5) ∧
    ((asked quiet).Serves ∧ (asked hold).Serves) ∧ (2 ≤ (2 : Byte).toNat ∧ quiet.ovr.hold = false ∧ hold.ovr.hold = true) ∧
    (limit.ovr.state = .active ∧ limit.ovr.suspendExpiry = some 10700 ∧ atOrAfter limit.time 10700 = true ∧
      limit.channels[1].live = some (extension (.suspended .running) 0 .p2 20 [3]) ∧ limit.table[3] ≠ none ∧
      3 ∈ (extension (.suspended .running) 0 .p2 20 [3]).riders) ∧
    (extension (.suspended .running) 0 .p2 20 [3]).IsSuspended ∧ quiet.ovr.suspendExpiry = none :=
  ⟨by decide, ⟨asked_serves _ rfl rfl, asked_serves _ rfl rfl⟩, by decide, by decide, ⟨_, rfl⟩, by decide⟩

theorem test_override_suspends :
    ((after .ovrRecognisedChange (carrying 1 (extension .running 0 .p2 20 [3]) { following 0 10100 10700 with
      ovr := { quiet.ovr with changeAt := some 10700 } })).channels[1].live).map (·.run) =
      some (.suspended .running) := by decide

theorem test_overrideHold : answer (.overrideHoldSet 1) quiet = some (.ok, [1]) ∧
    answer (.overrideHoldSet 2) quiet = some (.badArg, []) ∧ answer .overrideHoldClear quiet = some (.ok, [0]) := by decide

theorem test_suspendLimit_ends :
    ((after .suspendLimitExpiry (carrying 1 (extension (.suspended .running) 0 .p2 20 [3]) { following 0 10100 10700 with
      ovr := { quiet.ovr with state := .active, suspendExpiry := some 10700 } })).channels[1].lastEnd) =
      some (.overrideLong, 10700) := by decide

/-- The channels a visit meets: none suspended, an extension of the current green and of another slot, and an advance
before and at its deadline. -/
theorem witness_ResumeCheckVisits :
    let s (c : ChannelIx) (l : LiveChannel) := overridden (.resuming c) (carrying c l (following 0 10100 10520))
    (quiet.held = false ∧ quiet.ovr.state = .inactive) ∧
    ((s 3 (extension (.suspended .armed) 0 .p2 20 [3])).ovr.state = .resuming 3 ∧
      (s 3 (extension (.suspended .armed) 0 .p2 20 [3])).plans.active = some worked) ∧
    ((s 3 (extension (.suspended .armed) 0 .p2 20 [3])).tracker =
      .inStep { cur := 0, period := .green, onset := 10100, lastBoundary := 10100 } ∧
      (extension (.suspended .armed) 0 .p2 20 [3]).slot = 0 ∧ (extension (.suspended .armed) 1 .p4 20 [3]).slot = 1) ∧
    ((s 0 (advance (.suspended .armed) 2 .p1 10521 [3])).time = 10520 ∧ atOrAfter (10520 : Time) 10521 = false ∧
      atOrAfter (10520 : Time) 10520 = true) := by decide

/-- An extension resumes with at most the time its slot's limit leaves: 150 less the 140 others have taken. -/
theorem test_resumeVisit_limits :
    ((after .resumeVisit (overridden (.resuming 1) (carrying 1 (extension (.suspended .running) 0 .p2 20 [3])
      { following 0 10100 10520 with account := { quiet.account with xcur := 160 } }))).channels[1].live).map
      (fun l => (l.run, l.action)) = some (.running, .extend 10 10500) := by decide

theorem test_resumeVisit_last : (after .resumeVisit (overridden (.resuming 3) quiet)).ovr.state = .inactive := by decide

/-! ## Receive links -/

/-- The eleven bytes after the start of frame of a CHECK_IN of vehicle 0x0102 on approach 2, route 1023, stop flag set,
lateness -1, distance 2047, speed 511 and dwell 2047 (R4, R182), to which the check byte is 0xAB. -/
def frameBody : List Byte := [0x80, 0x01, 0x02, 0xFF, 0xE0, 0xFF, 0xF8, 0xFF, 0xFF, 0xFF, 0xFF]

theorem witness_ReceiveLinksAssembleFrames :
    let s (x : RxLink) := quiet.setRx .rx1 x
    ((s { quiet.rx1 with enabled := false }).rx .rx1).enabled = false ∧ (quiet.rx .rx1).enabled = true ∧
    ((s { quiet.rx1 with line := .undecided }).rx .rx1).line = .undecided ∧ (quiet.rx .rx1).line ≠ .undecided ∧
    (quiet.rx .rx1).assembler = .hunt ∧ (1 : Byte) ≠ 0 ∧ frameBody.length = 11 ∧ (frameBody.take 10).length < 11 ∧
    frameBody.foldl (· + ·) 0 + (0xAB : Byte) = 0 ∧ frameBody.foldl (· + ·) 0 + (0xAA : Byte) ≠ 0 ∧ (quiet.rx .rx1).holding = none := by decide

theorem test_character_completes_frame :
    let s := after (.characterReceived .rx1 0xAB true) (quiet.setRx .rx1 { quiet.rx1 with assembler := .collect frameBody })
    s.rx1.assembler = .hunt ∧ s.rx1.holding = some
      { approach := 2, kind := .checkIn, seq := 0, vehicle := 0x0102, route := 1023, stopFlag := true
        lateness := 0x1FFF, distance := 2047, speed := 511, dwell := 2047 } := by decide

theorem test_character_bad_check :
    (after (.characterReceived .rx1 0xAA true) (quiet.setRx .rx1 { quiet.rx1 with assembler := .collect frameBody })).faults.pointer =
      some .rx1Check := by decide

theorem test_rxBreak_raises_nothing :
    let s := after (.rxBreak .rx0) (quiet.setRx .rx0 { quiet.rx0 with line := .undecided, assembler := .collect [1] })
    s.rx0.assembler = .hunt ∧ s.faults.status = 0 := by decide

theorem test_gap_is_framing :
    (after (.interCharacterGap .rx0) (quiet.setRx .rx0 { quiet.rx0 with assembler := .collect [1] })).faults.pointer =
      some .rx0Framing := by decide

theorem test_undecided_line_high_is_framing :
    (after (.undecidedCharacterLineHigh .rx1) (quiet.setRx .rx1 { quiet.rx1 with line := .undecided })).faults.pointer =
      some .rx1Framing := by decide

/-! ## Intake and the request table -/

/-- A request frame as held. -/
def request (kind : FrameKind) (seq : BitVec 4) (v : Vehicle) : RequestFrame :=
  { approach := 0, kind, seq, vehicle := v, route := 5, stopFlag := true, lateness := 200, distance := 240, speed := 80
    dwell := 150 }

/-- The same frame after the reductions of R7. -/
def report (kind : FrameKind) (seq : BitVec 4) (v : Vehicle) : Report :=
  { approach := 0, kind, seq, vehicle := v, route := 5, stopFlag := true, lateness := 200, distance := 240, speed := 80
    dwell := 150 }

/-- Approach 0 enabled with the settings of the worked windows. -/
def approachCfg : ApproachConfig := { approachPowerOn .p2 with enabled := true }

/-- The state with an item of intake in progress at time 10000. -/
def taking (i : Item) (s : State) : State := { s with time := 10000, intake := { s.intake with item := some i } }

/-- A radio item taken from RX0. -/
def radioItem (kind : FrameKind) (seq : BitVec 4) (v : Vehicle) : Item :=
  .radio .rx0 (report kind seq v) approachCfg quiet.routes quiet.classes

/-- A ready source of each kind, the pointer at either end of the ring, and the states in which nothing is taken. -/
theorem witness_IntakeTakesInRingOrder :
    let m : HandoffMsg := { id := 1, vehicle := 7, route := 5, lateness := 0, nominal := 60, tolerance := 100 }
    let radio := quiet.setRx .rx0 { quiet.rx0 with holding := some (request .checkIn 1 7) }
    let link := quiet.setLink .linkA { quiet.linkA with received := [(m, 9)] }
    let looped := { quiet with intake := { quiet.intake with pointer := .link .linkB }
                               loops := put quiet.loops 3 { loopPowerOn with pending := true } }
    (quiet.held = false ∧ quiet.intake.item = none ∧ ∀ i : EntryIx, quiet.intake.staleDue[i] = false) ∧
    (sourcesAfter radio.intake.pointer = [] ++ .rx .rx0 :: [.rx .rx1, .link .linkA, .link .linkB, .loop] ∧
      (radio.rx .rx0).holding = some (request .checkIn 1 7)) ∧
    (sourcesAfter link.intake.pointer = [.rx .rx0, .rx .rx1] ++ .link .linkA :: [.link .linkB, .loop] ∧
      (link.rx .rx0).holding = none ∧ (link.rx .rx1).holding = none ∧ (link.link .linkA).received = [(m, 9)]) ∧
    (sourcesAfter looped.intake.pointer = [] ++ .loop :: [.rx .rx0, .rx .rx1, .link .linkA, .link .linkB] ∧
      looped.loops[3].pending = true ∧ ∀ b : Approach, b < 3 → looped.loops[b].pending = false) ∧
    (taking (radioItem .checkIn 1 7) quiet).intake.item ≠ none := by decide

theorem test_intakeTake_limits_speed :
    (after .intakeTake (quiet.setRx .rx0 { quiet.rx0 with holding := some { request .checkIn 1 7 with speed := 450 } })
      ).intake.item = some (.radio .rx0 { report .checkIn 1 7 with speed := 300 } (approachPowerOn .p1) quiet.routes
        quiet.classes) := by decide

theorem witness_WindowsAndLevels :
    1 ≤ approachCfg.vFloor ∧ (∀ i : Fin 7, quiet.classes[i] ≤ (600 : Int)) ∧
    (∀ i : Fin 7, (-1 : Int) < quiet.classes[i]) ∧ (∀ i j : Fin 7, i ≤ j → quiet.classes[i] ≤ quiet.classes[j]) ∧
    quiet.classes[(3 : Fin 7)] ≤ (180 : Int) ∧ (∀ j : Fin 7, 3 < j → (180 : Int) < quiet.classes[j]) := by decide

/-- A route listed twice, for approaches 1 and 2 with caps 7 and 5, in each mode. -/
def listedTwice (mode : RouteMode) : RouteTable :=
  { mode
    entries := put (put quiet.routes.entries 30 { route := 5, mask := 2, cap := 7, enabled := true }) 31
      { route := 5, mask := 4, cap := 5, enabled := true } }

theorem witness_WindowsAndLevels_routes :
    let t := listedTwice .openMode
    (t.entries[(30 : Fin 32)].enabled = true ∧ t.entries[(30 : Fin 32)].route = 5 ∧
      (∀ k : Fin 32, k < 30 → t.entries[k].enabled = true → t.entries[k].route ≠ 5) ∧
      t.entries[(30 : Fin 32)].mask.getLsbD 1 = true ∧ t.entries[(30 : Fin 32)].mask.getLsbD 2 = false) ∧
    (∀ k : Fin 32, t.entries[k].enabled = true → t.entries[k].route ≠ 6) ∧ t.mode = .openMode ∧
    (listedTwice .strict).mode = .strict := by decide

theorem test_routes :
    (lookupRoute (listedTwice .strict) 5 1, lookupRoute (listedTwice .strict) 5 2) = (.ok 7, .error .approach) ∧
    (lookupRoute (listedTwice .openMode) 6 0, lookupRoute (listedTwice .strict) 6 0) = (.ok 1, .error .route) :=
  ⟨rfl, rfl⟩

/-- The worked window and the six rows that test its limits (spec/04, Worked windows). -/
theorem test_worked_windows :
    let w (d v : Nat) (s : Bool) (dwell : Nat) :=
      radioWindow { report .checkIn 1 7 with distance := d, speed := v, stopFlag := s, dwell } approachCfg 10000
    w 240 80 true 150 = (10350, 10470) ∧ w 0 50 false 0 = (10000, 10020) ∧ w 0 50 true 300 = (10300, 10320) ∧
      w 2047 0 false 9 = (11705, 14115) ∧ w 2047 300 true 1200 = (11882, 11903) ∧ w 100 7 false 0 = (10083, 10354) ∧
      w 500 250 false 0 = (10200, 10220) := by decide

theorem test_window_wraps :
    radioWindow (report .checkIn 1 7) approachCfg 4294967200 = (254, 374) ∧
    effectiveWindow (bus 7 0 1 254 374) 4294967250 = (254, 374) := by decide

theorem test_handoff_windows : handoffWindow 400 100 52000 = (52300, 52500) ∧
    handoffWindow 60 100 52000 = (52000, 52160) ∧ handoffWindow 0 0 52000 = (52000, 52000) := by decide

theorem test_levels : levelOf quiet.classes (-50) = 0 ∧ levelOf quiet.classes 0 = 1 ∧ levelOf quiet.classes 200 = 4 := by
  decide

/-- A full table whose entry 5 alone is of a level below 1, the others of level 4. -/
def full : List (EntryIx × Entry) :=
  allEntries.map fun i => (i, bus (BitVec.ofNat 16 (100 + i.val)) 1 (if i = 5 then 0 else 4) 0 0)

/-- A new vehicle's frame: with a FREE entry, a full table with a victim and without one, an approach disabled, the wrong
link, an approach the route does not allow, and a route not listed in either mode. -/
theorem witness_RadioFramesCreateEntries :
    let s := taking (radioItem .checkIn 1 7) quiet
    let listed : RouteTable := { quiet.routes with
      entries := put quiet.routes.entries 31 { route := 5, mask := 2, cap := 7, enabled := true } }
    (s.held = false ∧ s.intake.item = some (radioItem .checkIn 1 7)) ∧
    ((approachPowerOn .p1).enabled = false ∧ approachCfg.enabled = true ∧ approachCfg.link = .rx0 ∧ RxId.rx1 ≠ .rx0) ∧
    (∀ i : EntryIx, s.table[i] = none) ∧
    (∀ k : Fin 32, quiet.routes.entries[k].enabled = true → quiet.routes.entries[k].route ≠ 5) ∧
    quiet.routes.mode = .openMode ∧
    (listed.entries[(31 : Fin 32)].enabled = true ∧ listed.entries[(31 : Fin 32)].route = 5 ∧
      (∀ k : Fin 32, k < 31 → listed.entries[k].enabled = true → listed.entries[k].route ≠ 5) ∧
      listed.entries[(31 : Fin 32)].mask.getLsbD 0 = false ∧ listed.entries[(31 : Fin 32)].mask.getLsbD 1 = true) ∧
    (∀ i : EntryIx, (holding full s).table[i] ≠ none) ∧
    (∀ (i : EntryIx) e, (holding full s).table[i] = some e → e.vehicle ≠ 7 ∧ atOrAfter (holding full s).time e.created = true) ∧
    ((holding full s).table[5] = some (bus 105 1 0 0 0) ∧ (bus 105 1 0 0 0).state = .tracking ∧ (0 : Nat) < min 4 1) :=
  ⟨by decide, by decide, by decide, by decide, by decide, by decide, by decide,
    fun i e h => of_decide_eq_true (present_all (fun i : EntryIx => (holding full (taking (radioItem .checkIn 1 7) quiet)).table[i])
      (fun _ e => decide (e.vehicle ≠ 7 ∧ atOrAfter 10000 e.created = true)) (by decide) i e h), by decide⟩

theorem test_radioFrame_creates :
    ((after .radioFrameApplication (taking (radioItem .checkIn 1 7) quiet)).table[0]).map
      (fun e => (e.level, e.windowE, e.windowL, e.vehicle)) = some (1, 10350, 10470, 7) := by decide

theorem test_radioFrame_evicts :
    let s := after .radioFrameApplication (taking (radioItem .update 1 7) (holding full quiet))
    (s.table[5]).map (·.vehicle) = some 7 ∧
      s.port.outcomes.map (fun r => (r.vehicle, r.body)) = [(105, .closed .evicted .none 0 .radio)] := by decide

/-- The live vehicle's own frame: sequence numbers 0, 1, 7 and 8 ahead, level 0, the same and another approach, with the
entry TRACKING, PENDING and GRANTED with and without another rider. -/
theorem witness_RadioFramesUpdateEntries :
    let at_ (st : EntryState) (a : Approach) := { bus 7 a 2 0 0 with state := st, note := some (.denied .budget) }
    let s (st : EntryState) (a : Approach) :=
      taking (radioItem .update 2 7) (carrying 1 (extension .running 0 .p2 20 [3, 4]) (holding [(3, at_ st a)] quiet))
    (∀ st ∈ [EntryState.tracking, .pending, .granted 1], ∀ a ∈ [(0 : Approach), 3],
      (s st a).held = false ∧ (s st a).intake.item = some (radioItem .update 2 7) ∧ (s st a).table[3] = some (at_ st a)) ∧
    (s (.granted 1) 0).VehiclesDistinct ∧ lookupRoute quiet.routes 5 0 = .ok 1 ∧
    (1 ≤ ((2 : BitVec 4) - 1).toNat ∧ ((8 : BitVec 4) - 1).toNat ≤ 7 ∧ ¬ ((9 : BitVec 4) - 1).toNat ≤ 7 ∧
      ¬ 1 ≤ ((1 : BitVec 4) - 1).toNat) ∧
    (s (.granted 1) 0).channels[1].live = some (extension .running 0 .p2 20 [3, 4]) ∧
    ([3].filter (fun j => decide (j ≠ (3 : EntryIx))) = [] ∧ [3, 4].filter (fun j => decide (j ≠ (3 : EntryIx))) ≠ []) ∧
    min (levelOf quiet.classes (-1)) 1 = 0 ∧
    (lookupRoute (listedTwice .openMode) 5 0 = .error .approach ∧
      lookupRoute { quiet.routes with mode := .strict } 5 0 = .error .route) :=
  ⟨by decide, vehiclesDistinct_of _ (by decide), by rfl, by decide, by decide, by decide, by decide, by rfl, by rfl⟩

/-- A live vehicle's UPDATE on a route the STRICT table does not list: REJECTED, and the entry keeps every field (R13). -/
theorem test_radioFrame_route_refused :
    let item : Item := .radio .rx0 (report .update 2 7) approachCfg { quiet.routes with mode := .strict } quiet.classes
    let s := after .radioFrameApplication (taking item (holding [(3, bus 7 0 2 0 0)] quiet))
    s.table[3] = some (bus 7 0 2 0 0) ∧ s.intake.item = none ∧ s.port.outcomes.map (·.body) = [.rejected .route] := by decide

/-- A rider that changes approach leaves its channel, which keeps the other's level (R26, R112). -/
theorem test_radioFrame_leaves_other_rider :
    let g (v : Vehicle) (level : Nat) : Entry := { bus v 3 level 0 0 with state := .granted 1 }
    let s := after .radioFrameApplication (taking (radioItem .update 2 7)
      (carrying 1 { extension .running 0 .p2 20 [3, 4] with level := 6 } (holding [(3, g 7 6), (4, g 8 5)] quiet)))
    (s.channels[1].live).map (fun l => (l.riders, l.level)) = some ([4], 5) ∧
      (s.table[3]).map (fun e => (e.approach, e.state)) = some (0, .tracking) := by decide

theorem test_radioFrame_old_sequence :
    (after .radioFrameApplication (taking (radioItem .update 9 7) (holding [(3, bus 7 0 2 0 0)] quiet))).table[3] =
      some (bus 7 0 2 0 0) := by decide

theorem test_radioFrame_moves_approach :
    let s := after .radioFrameApplication (taking (radioItem .update 2 7)
      (carrying 1 (extension .running 0 .p2 20 [3]) (holding [(3, { bus 7 3 2 0 0 with state := .granted 1 })] quiet)))
    s.channels[1].lastEnd = some (.released, 10000) ∧ (s.table[3]).map (fun e => (e.approach, e.state, e.note)) =
      some (0, .tracking, none) := by decide

theorem witness_CheckOutsCloseEntries :
    let s := taking (radioItem .checkOut 2 7) (holding [(3, bus 7 0 2 0 0)] quiet)
    let u := taking (.loop 0) (holding [(3, bus 7 0 2 9000 0), (9, bus 8 0 2 9000 0), (1, bus 9 0 2 9001 0)] quiet)
    (s.held = false ∧ s.intake.item = some (radioItem .checkOut 2 7) ∧ s.table[3] = some (bus 7 0 2 0 0)) ∧
    s.VehiclesDistinct ∧ (∀ i : EntryIx, (taking (radioItem .cancel 2 7) quiet).table[i] = none) ∧
    (u.intake.item = some (.loop 0) ∧ u.table[3] = some (bus 7 0 2 9000 0)) ∧
    (∀ (i : EntryIx) e, u.table[i] = some e → (timeDiff e.windowE u.time).natAbs < 2 ^ 30) :=
  ⟨by decide, vehiclesDistinct_of _ (by decide), by decide, by decide,
    fun i e h => of_decide_eq_true (present_all (fun i : EntryIx => (taking (.loop 0) (holding [(3, bus 7 0 2 9000 0),
      (9, bus 8 0 2 9000 0), (1, bus 9 0 2 9001 0)] quiet)).table[i])
      (fun _ e => decide ((timeDiff e.windowE 10000).natAbs < 2 ^ 30)) (by decide) i e h)⟩

theorem test_loopItem_closes_earliest :
    let s := after .loopItem (taking (.loop 0)
      (holding [(3, bus 7 0 2 9000 0), (9, bus 8 0 2 9000 0), (1, bus 9 0 2 9001 0)] quiet))
    (s.table[3], s.port.outcomes.map (fun r => r.vehicle)) = (none, [7, 7]) := by decide

/-- A handoff taken from LINK-A for approach 1. -/
def handoffItem : Item :=
  .handoff .linkA { id := 4, vehicle := 7, route := 5, lateness := 200, nominal := 400, tolerance := 100 } 9 false

/-- Approach 1 serving handoffs from LINK-A. -/
def corridor (s : State) : State :=
  { s with approaches := put s.approaches 1 { approachPowerOn .p4 with enabled := true, entrySide := .fromA } }

theorem witness_HandoffsAreJudged :
    let s := taking handoffItem (corridor quiet)
    (s.held = false ∧ s.intake.item = some handoffItem) ∧
    (∀ a : Approach, ¬ ((taking handoffItem quiet).approaches[a].enabled = true)) ∧
    (s.approaches[(1 : Approach)].enabled = true ∧ s.approaches[(1 : Approach)].entrySide = .fromA ∧
      s.approaches[(0 : Approach)].enabled = false) ∧
    lookupRoute s.routes 5 1 = .ok 1 ∧ (∃ why, lookupRoute { s.routes with mode := .strict } 5 1 = .error why) ∧
    (∀ i : EntryIx, s.table[i] = none) ∧
    (∀ i : EntryIx, (holding (allEntries.map fun i => (i, bus 100 1 1 0 0)) s).table[i] ≠ none) ∧
    (bus 100 1 1 0 0).vehicle ≠ 7 ∧ 1 ≤ (bus 100 1 1 0 0).level ∧
    4 ≤ [OutMsg.ack 0 .full, .ack 1 .full, .ack 2 .full, .ack 3 .full].length ∧
    (∀ i : EntryIx, (holding full s).table[i] ≠ none) ∧
    (∀ (i : EntryIx) e, (holding full s).table[i] = some e → e.vehicle ≠ 7 ∧ atOrAfter (holding full s).time e.created = true) ∧
    ((holding full s).table[5] = some (bus 105 1 0 0 0) ∧ (bus 105 1 0 0 0).state = .tracking ∧
      (bus 105 1 0 0 0).level < min (levelOf s.classes 200) 1) :=
  ⟨by decide, by decide, by decide, rfl, ⟨_, rfl⟩, by decide, by decide, by decide, by decide, by decide, by decide,
    fun i e h => of_decide_eq_true (present_all (fun i : EntryIx => (holding full (taking handoffItem (corridor quiet))).table[i])
      (fun _ e => decide (e.vehicle ≠ 7 ∧ atOrAfter 10000 e.created = true)) (by decide) i e h), by decide⟩

/-- A handoff on a full table takes the place of the entry whose level is below its own (R22, R27, R149). -/
theorem test_handoff_evicts :
    let s := after .handoffJudgement (taking handoffItem (corridor (holding full quiet)))
    (s.table[5]).map (·.vehicle) = some 7 ∧ s.linkA.outgoing = [.ack 4 .accepted] ∧
      s.port.outcomes.map (fun r => (r.vehicle, r.body)) = [(105, .closed .evicted .none 0 .radio)] := by decide

theorem test_handoff_creates :
    let s := after .handoffJudgement (taking handoffItem (corridor quiet))
    (s.table[0]).map (fun e => (e.windowE, e.windowL, e.confirmed, e.origin, e.approach)) =
      some (10300, 10500, false, .handoff 9, 1) ∧ s.linkA.outgoing = [.ack 4 .accepted] := by decide

theorem test_handoff_duplicate :
    (after .handoffJudgement (taking handoffItem (corridor (holding [(3, bus 7 2 1 0 0)] quiet)))).linkA.outgoing =
      [.ack 4 .duplicate] := by decide

/-- The stale timer at the decisecond it falls due and one before, and an A_l reached and passed. -/
theorem witness_StaleAndExpiryChecks :
    let c := bus 7 0 2 0 150
    let h : Entry := { bus 7 0 2 0 150 with confirmed := false }
    let s (e : Entry) (t : Time) : State := { holding [(3, e)] quiet with time := t }
    ((s c 150).held = false ∧ (s c 150).table[3] = some c ∧ c.confirmed = true ∧
      ((s c 150).policy.tStale : Int) ≤ timeDiff (s c 150).time c.lastUpdate ∧
      ¬ ((s c 149).policy.tStale : Int) ≤ timeDiff (s c 149).time c.lastUpdate) ∧
    ((s h 151).table[3] = some h ∧ h.confirmed = false ∧ 0 < timeDiff (s h 151).time h.windowL ∧
      ¬ 0 < timeDiff (s h 150).time h.windowL) ∧
    ((s c 150).intake.item = none ∧
      (after (.staleExpiry 3) (s c 150)).intake.staleDue[3] = true ∧
      (after (.unconfirmedExpiry 3) (s h 151)).intake.expiryDue[3] = true) ∧
    (taking handoffItem quiet).intake.item ≠ none := by decide

theorem test_staleCheck_closes :
    let s := after .staleCheck (after (.staleExpiry 3) { holding [(3, bus 7 0 2 0 150)] quiet with time := 150 })
    (s.table[3], s.port.outcomes.map (·.body)) = (none, [.closed .stale .none 0 .radio]) := by decide

theorem test_expiryCheck_closes :
    let s := after .expiryCheck (after (.unconfirmedExpiry 3)
      { holding [(3, { bus 7 0 2 0 150 with confirmed := false })] quiet with time := 151 })
    (s.table[3], s.port.outcomes.map (·.body)) = (none, [.closed .unconfirmedExpired .none 0 .radio]) := by decide

theorem witness_LoopsRecogniseCrossings :
    let s (l : LoopState) : State := { quiet with time := 301, loops := put quiet.loops 3 l }
    let asks : LoopState := { loopPowerOn with changeAt := some 301 }
    let on : LoopState := { loopPowerOn with active := true }
    (quiet.held = false ∧ (s asks).loops[3].changeAt = some 301 ∧ (s asks).loops[3].active = false) ∧
    ((s { asks with active := true }).loops[3].active = true ∧ quiet.loops[3].changeAt = none) ∧
    ((s on).loops[3].active = true ∧ (s on).loops[3].stuckReported = false ∧
      ((s on).stuckLimit : Int) < timeDiff (s on).time (s on).loops[3].activation ∧
      ¬ ((s on).stuckLimit : Int) < timeDiff 300 (s on).loops[3].activation) := by decide

theorem test_loopActivation_time :
    (after (.loopActivation 3) { quiet with time := 301, loops := put quiet.loops 3 { loopPowerOn with changeAt := some 301 }
      }).loops[3] = { loopPowerOn with active := true, activation := 300, pending := true } := by decide

theorem test_checkoutStuck_source :
    (after (.checkoutStuck 3) { quiet with time := 301, loops := put quiet.loops 3 { loopPowerOn with active := true }
      }).faults.record.source = .approach 3 := by decide

/-- A stuck limit lowered to 10 while a loop has been active for 20: nothing until the next sample (R16). -/
theorem test_stuckLimit_applies_from_next_sample :
    let on : LoopState := { loopPowerOn with active := true }
    let s := after (.setPins 0 0 5 600 10) (asked { quiet with
      time := 20, loops := put quiet.loops 3 on
      approaches := put quiet.approaches 3 { approachPowerOn .p4 with enabled := true, loopUse := true } })
    s.pins.stuckLimit = 10 ∧ (after (.checkoutStuck 3) s).faults.status = 0 ∧
      (after (.checkoutStuck 3) (after (.timeBaseDecisecond 0 7 false) s)).faults.pointer = some .checkoutStuck := by decide

theorem test_loopClear :
    (after (.loopClear 3) { quiet with loops := put quiet.loops 3 { loopPowerOn with active := true, changeAt := some 9 }
      }).loops[3].active = false := by decide

/-! ## The phase tracker -/

/-- The state with a change of one phase green input waiting since a time. -/
def changing (ph : Phase) (level : Bool) (t0 : Time) (s : State) : State :=
  let x : PhaseInput := { lastSample := !level, recognised := level, changeAt := some t0 }
  { s with time := t0, inputs := put s.inputs (phaseIndex ph) x }

/-- The state with the worked plan staged. -/
def staging (s : State) : State := { s with plans := { s.plans with staged := some worked } }

/-- The worked plan active with the tracker UNSYNCED. -/
def unsynced : State := { following 0 10100 10160 with tracker := .unsynced, inputs := quiet.inputs }

/-- The worked plan with no green showing. -/
def dark (cur : SlotIx) (t : Time) : State :=
  { following cur 10100 t with inputs := quiet.inputs }

theorem witness_OnsetWithoutPlan :
    let s := changing .p2 false 10100 (staging quiet)
    (s.held = false ∧ s.tracker = .noPlan ∧ s.inputs[phaseIndex .p2].changeAt = some 10100 ∧
      s.inputs[phaseIndex .p2].recognised = false) ∧
    (∀ q : Phase, q ≠ .p2 → s.inputs[phaseIndex q].recognised = false) ∧
    (s.plans.staged = some worked ∧ (worked.slots.head?).map (·.phase) = some .p2 ∧
      (worked.slots.head?).map (·.phase) ≠ some .p3) ∧ quiet.plans.staged = none :=
  ⟨by decide, by intro q; cases q <;> decide, by decide⟩

theorem test_onset_adopts :
    let s := after (.greenOnset .p2) (changing .p2 false 10100 (staging quiet))
    s.plans = { active := some worked, staged := none } ∧ s.port.events.plan = true ∧
      s.tracker = .inStep { cur := 0, period := .green, onset := 10100, lastBoundary := 10100 } := by decide

theorem test_onset_plan_missing :
    (after (.greenOnset .p3) (changing .p3 false 10100 (staging quiet))).faults.pointer = some .planMissing := by decide

/-- An onset in each state of the tracker: a conflict, no change waiting, an adoption and a boundary from UNSYNCED, an
onset that has no effect there, and in IN_STEP an adoption, a boundary within and beyond 100 ds of the cycle, a later slot,
an earlier one and a phase of no slot. -/
theorem witness_OnsetsFollowTheRing :
    (changing .p4 false 10600 (following 0 10100 10600)).inputs[phaseIndex .p2].recognised = true ∧
    quiet.inputs[phaseIndex .p2].changeAt = none ∧
    (∀ ph ∈ allPhases, (changing ph false 11000 unsynced).tracker = .unsynced ∧
      (changing ph false 11000 unsynced).inputs[phaseIndex ph].changeAt = some 11000 ∧
      (changing ph false 11000 unsynced).plans.active = some worked) ∧
    (changing .p2 false 11000 (staging unsynced)).plans.staged = some worked ∧
    (∀ ph ∈ allPhases, ∀ q ∈ allPhases, q ≠ ph → (changing ph false 11000 (dark 1 11000)).inputs[phaseIndex q].recognised = false) ∧
    (changing .p1 false 11000 (dark 1 11000)).tracker =
      .inStep { cur := 1, period := .green, onset := 10100, lastBoundary := 10100 } ∧
    (slotOf worked .p2 = some 0 ∧ slotOf worked .p4 = some 1 ∧ slotOf worked .p1 = some 2 ∧ slotOf worked .p3 = none) ∧
    (changing .p4 false 10600 (carrying 2 (advance .running 1 .p4 10800 [4]) (dark 0 10600))).channels[2].live =
      some (advance .running 1 .p4 10800 [4]) ∧
    (timeDiff 11100 10100 - 900).natAbs ≤ 100 ∧ ¬ (timeDiff 11101 10100 - 900).natAbs ≤ 100 := by decide

theorem test_onset_boundary_length :
    (after (.greenOnset .p2) (changing .p2 false 11100 (dark 2 11100))).faults.status = 0 ∧
    (after (.greenOnset .p2) (changing .p2 false 11101 (dark 2 11101))).faults.pointer = some .cycleLength := by decide

theorem test_onset_sequence_break :
    let s := after (.greenOnset .p4) (changing .p4 false 11000 (dark 2 11000))
    s.tracker = .unsynced ∧ s.faults.pointer = some .sequenceBreak := by decide

theorem witness_DropsBeginClearance :
    let s := carrying 1 (extension .running 0 .p2 20 [3]) (changing .p2 true 10520 (following 0 10100 10520))
    (s.held = false ∧ s.inputs[phaseIndex .p2].changeAt = some 10520 ∧ s.inputs[phaseIndex .p2].recognised = true) ∧
    (s.tracker = .inStep { cur := 0, period := .green, onset := 10100, lastBoundary := 10100 } ∧
      s.plans.active = some worked ∧ (slotAt worked 0).phase = .p2) ∧
    (changing .p4 true 10520 (following 0 10100 10520)).inputs[phaseIndex .p4].recognised = true ∧
    (slotAt worked 0).phase ≠ .p4 ∧ s.channels[1].live = some (extension .running 0 .p2 20 [3]) ∧
    countedOut (extension .running 0 .p2 20 [3]) = false ∧ countedOut (extension .running 0 .p2 0 [3]) = true := by decide

/-- An extension of 0 ds is found with nothing to refund (R115), another with its last decisecond. -/
theorem test_uncounted :
    (uncounted { extension .running 0 .p2 0 [3] with amount := 0, charges := [] }).action = .extend 0 10500 ∧
    (uncounted (extension .running 0 .p2 0 [3])).action = .extend 1 10500 := by decide

theorem test_drop_ends_extension_and_starts_advance :
    let s := after (.greenDrop .p2) (carrying 2 (advance .armed 2 .p1 10800 [4])
      (carrying 1 (extension .running 0 .p2 20 [3]) (changing .p2 true 10520 (following 0 10100 10520))))
    s.channels[1].lastEnd = some (.greenEnded, 10520) ∧ (s.channels[2].live).map (·.run) = some .running ∧
      s.tracker = .inStep { cur := 0, period := .clearance 10520, onset := 10100, lastBoundary := 10100 } := by decide

/-! ## The decision engine -/

/-- The worked extension (spec/04): need 45, charged to slot 1. -/
theorem test_worked_extension :
    let s := after .candidateTurn (passing [(3, bus 7 0 2 10400 10545)] (following 0 10100 10160))
    (s.channels[0].live).map (fun l => (l.run, l.action, l.charges)) = some (.armed, .extend 45 10500, [(1, 45)]) ∧
      s.account.xcur = 45 ∧ s.account.budgetLeft = 155 ∧ s.account.debt[3] = 45 ∧
      s.account.charge[1] = 45 := by decide

/-- The worked advance (spec/04): 190, charged to slots 1 and 2, its deadline 20760. -/
theorem test_worked_advance :
    let s := after .candidateTurn (passing [(3, bus 7 0 2 20700 20820)] (following 1 20450 20500))
    (s.channels[0].live).map (fun l => (l.run, l.action, l.charges)) =
      some (.running, .advance 20760, [(1, 100), (2, 90)]) ∧ s.account.budgetLeft = 10 := by decide

theorem test_worked_advance_later :
    ((after .candidateTurn (passing [(3, bus 7 0 2 20700 20820)] (following 1 20450 20600))).channels[0].live).map (·.amount) =
      some 140 := by decide

/-- The figures after the worked extension: TTG_1, TTG_2 and S_ext (spec/04). -/
theorem test_worked_figures :
    let s := after .candidateTurn (passing [(3, bus 7 0 2 10400 10545)] (following 0 10100 10160))
    s.figures.map (fun f => (f.plannedEnd, f.timeToGreen 1, f.timeToGreen 2, f.sExt)) = some (10545, 10595, 10800, 145) := by
  decide

/-- Turns in the worked plan, with needs and windows at the limits where one clause gives way to the next. -/
theorem witness_TurnsGrantOrDeny :
    let s (e : Entry) := passing [(3, e)] (following 0 10100 10160)
    let e := bus 7 0 2 10400 10545
    let f (k : SlotIx) : Figures := { t := 10160, plan := worked, account := quiet.account, channels := quiet.channels,
                                      policy := quiet.policy,
                                      step := { cur := k, period := .green, onset := 10100, lastBoundary := 10100 } }
    ((s e).held = false ∧ (s e).engine.pass = some [(3, 7)] ∧ (s e).figures = some (f 0) ∧ (s e).table[3] = some e) ∧
    (s e).RunningCondition ∧ quiet.engine.pass = none ∧
    ¬ State.RunningCondition { quiet with engine := { pass := some [(3, 7)], again := false } } ∧
    (e.vehicle = 7 ∧ 1 ≤ e.level ∧ (∀ c, e.state ≠ .granted c) ∧ (s e).LowestIdle 0 ∧
      slotOf worked .p2 = some 0 ∧ slotOf worked .p3 = none) ∧
    (timeDiff 11060 10160 ≤ quiet.policy.horizon ∧ (quiet.policy.horizon : Int) < timeDiff 11061 10160) ∧
    (atOrAfter (f 0).plannedEnd 10500 = true ∧ atOrAfter (f 0).plannedEnd 10501 = false ∧
      (timeDiff 10650 (f 0).referenceEnd).toNat = (slotAt worked 0).e ∧ (f 0).sExt = 190) ∧
    (atOrAfter ((f 0).timeToGreen 1) 10549 = true ∧ (f 0).timeToGreen 1 = 10550 ∧ atOrAfter 10550 ((f 0).timeToGreen 1) = true ∧
      (f 0).sAdv 1 = 250 ∧ quiet.policy.aMin = 30) :=
  ⟨by decide, ⟨by decide, by decide, _, rfl⟩, by decide, (by rintro ⟨_, _, r, h⟩; cases h),
    ⟨by decide, by decide, by decide, ⟨by decide, by decide⟩, by decide⟩, by decide, by decide, by decide⟩

theorem test_turn_extLimit :
    ((after .candidateTurn (passing [(3, bus 7 0 2 10400 10651)] (following 0 10100 10160))).table[3]).map
      (fun e => (e.note, e.state)) = some (some (.denied .extLimit), .tracking) ∧
    ((after .candidateTurn (passing [(3, bus 7 0 2 10400 10650)] (following 0 10100 10160))).table[3]).map (·.state) =
      some (.granted 0) := by decide

/-- A turn of the bus of the worked extension, need 45, with an account and channels. -/
def turning (a : Account) (f : State → State) : State :=
  f (passing [(3, bus 7 0 2 10400 10545)] { following 0 10100 10160 with account := a })

/-- The debts of phases 1 and 4 at the cap, so that slots 1 and 2 give nothing. -/
def indebted : Account := { quiet.account with debt := #v[600, 0, 0, 600, 0, 0] }

/-- An advance of slot 2 that charges slot 0, of level 2 as the candidate's. -/
def chargesZero : LiveChannel := { advance .running 2 .p1 10800 [4] with charges := [(0, 30)] }

/-- The denials of an extension and of an advance, each with the condition that lets it stand. -/
theorem witness_TurnsGrantOrDeny_denials :
    ((turning indebted id).figures.map (fun f => (f.sExt, (timeDiff 10545 f.referenceEnd).toNat)) = some (0, 45) ∧
      (∀ c : ChannelIx, (turning indebted id).channels[c].live = none)) ∧
    ((turning { quiet.account with budgetLeft := 44 } id).figures.map (fun f => (f.sExt, f.account.budgetLeft)) =
      some (190, 44)) ∧
    ((turning quiet.account (carrying 1 chargesZero)).channels[1].live = some chargesZero ∧
      (0 : SlotIx) ∈ chargesZero.charges.map (·.1) ∧ isExtend chargesZero = false ∧ 2 ≤ chargesZero.level ∧
      chargesZero.slot ≠ 0) ∧
    ((carrying 1 (extension .running 0 .p2 20 [4]) quiet).channels[1].live = some (extension .running 0 .p2 20 [4]) ∧
      (1 : SlotIx) ∈ (extension .running 0 .p2 20 [4]).charges.map (·.1) ∧ (extension .running 0 .p2 20 [4]).slot ≠ 1) ∧
    ({ quiet with policy := { quiet.policy with preemption := false } } : State).policy.preemption = false := by decide

theorem test_turn_denials :
    let note (s : State) := ((after .candidateTurn s).table[3]).map fun e => (e.note, e.state)
    note (turning indebted id) = some (some (.denied .capacity), .pending) ∧
    note (turning { quiet.account with budgetLeft := 44 } id) = some (some (.denied .budget), .pending) ∧
    note (turning quiet.account (carrying 1 chargesZero)) = some (some (.denied .conflict), .pending) ∧
    note (carrying 1 (extension .running 0 .p2 20 [4]) (passing [(3, bus 7 1 2 10400 10545)] (following 0 10100 10160))) =
      some (some (.denied .conflict), .pending) := by decide

/-- A second bus of an advance, a rider of an extension with and without a further need, and four live channels of which
one is of the lowest level. -/
theorem witness_TurnsJoinTopUpAndPreempt :
    let e := bus 7 1 2 10400 10545
    let s (n : Nat) := carrying 2 (advance .running 1 .p4 10560 ((List.range n).map (Fin.ofNat 16))) (passing [(9, e)]
      (following 0 10100 10160))
    let g : Entry := { bus 8 0 2 10400 10580 with state := .granted 1 }
    let u := carrying 1 (extension .armed 0 .p2 45 [9]) (passing [(9, g)] { following 0 10100 10170 with
      account := { quiet.account with charge := #v[0, 45, 0, 0, 0, 0], xcur := 45, budgetLeft := 155 } })
    ((s 3).engine.pass = some [(9, 7)] ∧ (s 3).table[9] = some e ∧ (s 3).approaches[(1 : Approach)].phase = .p4 ∧
      (s 3).channels[2].live = some (advance .running 1 .p4 10560 [0, 1, 2]) ∧ e.level = 2 ∧
      (s 3).channels[0].live = none ∧ (s 3).channels[1].live = none ∧ (s 3).channels[3].live = none) ∧
    ((advance .running 1 .p4 10560 [0, 1, 2]).riders.length < 4 ∧ 4 ≤ (advance .running 1 .p4 10560 [0, 1, 2, 3]).riders.length) ∧
    (s 3).figures.map (fun f => (f.timeToGreen 1, timePlus (f.timeToGreen 1) 30)) = some (10550, 10580) ∧
    (u.engine.pass = some [(9, 8)] ∧ u.table[9] = some g ∧ g.state = .granted 1 ∧
      u.channels[1].live = some (extension .armed 0 .p2 45 [9]) ∧ ([9] : List EntryIx).Nodup) ∧
    u.figures.map (fun f => (f.plannedEnd, timeDiff 10580 f.referenceEnd, f.sExt)) = some (10545, 35, 145) := by decide

/-- The top-up of the worked extension: 35 more, to 80 (spec/04). -/
theorem test_top_up :
    let s := after .candidateTurn (carrying 1 (extension .armed 0 .p2 45 [9])
      (passing [(9, { bus 8 0 2 10400 10580 with state := .granted 1 })] { following 0 10100 10170 with
        account := { quiet.account with charge := #v[0, 45, 0, 0, 0, 0], xcur := 45, budgetLeft := 155 } }))
    (s.channels[1].live).map (fun l => (l.amount, l.action, l.charges)) = some (80, .extend 80 10500, [(1, 80)]) ∧
      s.account.xcur = 80 := by decide

theorem test_join_riders_full :
    ((after .candidateTurn (carrying 2 (advance .running 1 .p4 10560 [0, 1, 2, 3]) (passing [(9, bus 7 1 2 10400 10545)]
      (following 0 10100 10160)))).table[9]).map (·.note) = some (some (.denied .ridersFull)) := by decide

/-- The worked extension live on channel 1 with its charge, and a second bus's turn. -/
def second (t : Time) (aL : Time) (riders : List EntryIx) (a : Account) : State :=
  carrying 1 (extension .armed 0 .p2 45 riders) (passing [(9, bus 7 0 2 10400 aL)]
    { following 0 10100 t with account := { a with charge := #v[0, 45, 0, 0, 0, 0], xcur := 45 } })

/-- A second bus of the extension: with the riders full, not in need of it, in need of what it gives, in need of more
within each check and beyond it, and in need of nothing more at a green held past its planned end. -/
theorem witness_TurnsJoinTopUpAndPreempt_joins :
    let f (aL : Time) (a : Account) := (second 10170 aL [3] a).figures.map fun f =>
      ((timeDiff aL f.referenceEnd).toNat, f.sExt, f.account.budgetLeft)
    ((second 10170 10546 [3] quiet.account).channels[1].live = some (extension .armed 0 .p2 45 [3]) ∧
      (second 10170 10546 [3] quiet.account).table[9] = some (bus 7 0 2 10400 10546) ∧
      4 ≤ (extension .armed 0 .p2 45 [0, 1, 2, 3]).riders.length ∧
      ([3] : List EntryIx).Nodup ∧ 9 ∉ ([3] : List EntryIx) ∧
      ∀ b : ChannelIx, b ≠ 1 → (second 10170 10546 [3] quiet.account).channels[b].live = none) ∧
    (timePlus 10545 (-(45 : Int)) = 10500 ∧ atOrAfter 10500 10500 = true ∧ atOrAfter 10500 10501 = false ∧
      atOrAfter 10545 10545 = true ∧ atOrAfter 10545 10546 = false) ∧
    (f 10546 quiet.account = some (1, 145, 200) ∧ f 10650 quiet.account = some (105, 145, 200) ∧
      f 10651 quiet.account = some (106, 145, 200) ∧ f 10546 indebted = some (1, 0, 200) ∧
      f 10546 { quiet.account with budgetLeft := 0 } = some (1, 145, 0) ∧ 45 + 105 = (slotAt worked 0).e) ∧
    (second 10560 10560 [3] quiet.account).figures.map (fun f => (f.plannedEnd, timeDiff 10560 f.referenceEnd)) =
      some (10545, 0) ∧
    ((carrying 2 chargesZero (second 10170 10546 [3] quiet.account)).channels[2].live = some chargesZero) := by decide

/-- A second bus that needs 35 ds more than the worked extension: it joins, the channel is topped up to 80, and both
riders are credited (R89). -/
theorem test_join_with_top_up :
    let s := after .candidateTurn (holding [(3, { bus 8 0 2 10400 10545 with state := .granted 1, grantedTotal := 45 })]
      (second 10170 10580 [3] { quiet.account with budgetLeft := 155 }))
    (s.channels[1].live).map (fun l => (l.amount, l.action)) = some (80, .extend 80 10500) ∧
    (s.channels[1].live).map (fun l => (l.charges, l.riders)) = some ([(1, 80)], [3, 9]) ∧
    s.account.xcur = 80 ∧ s.account.budgetLeft = 120 ∧ (s.table[3]).map (·.grantedTotal) = some 80 ∧
    (s.table[9]).map (fun e => (e.state, e.note)) = some (.granted 1, none) ∧
    (s.table[9]).map (·.grantedTotal) = some 80 := by decide

theorem test_join_refused_top_up :
    ((after .candidateTurn (second 10170 10651 [3] quiet.account)).table[9]).map (fun e => (e.note, e.state)) =
      some (some (.denied .extLimit), .tracking) ∧
    ((after .candidateTurn (second 10170 10501 [3] quiet.account)).channels[1].live).map (fun l => (l.amount, l.riders)) =
      some (45, [3, 9]) := by decide

/-- All four channels live on other slots, one of the lowest level. -/
def busy : State :=
  let l (n : Nat) : LiveChannel := { advance .running 5 .p6 10560 [0] with level := n, charges := [] }
  carrying 0 (l 3) (carrying 1 (l 1) (carrying 2 (l 2) (carrying 3 (l 3) (passing [(9, bus 7 0 2 10400 10545)]
    (following 0 10100 10160)))))

theorem witness_TurnsJoinTopUpAndPreempt_preempts :
    (∀ c : ChannelIx, busy.channels[c].live ≠ none) ∧ busy.policy.preemption = true ∧
    busy.figures.map (fun f => (f.judgeExtend 10545, (timeDiff 10545 f.referenceEnd).toNat)) =
      some (.feasible (.extend 45), 45) ∧
    ((busy.channels[1].live).map (·.level) = some 1 ∧ (busy.channels[0].live).map (·.level) = some 3 ∧
      (busy.channels[2].live).map (·.level) = some 2 ∧ (busy.channels[3].live).map (·.level) = some 3) ∧
    ((busy.endChannel 1 .preempted).figures).map (fun g => g.judgeCase (10400, 10545) 0) = some (.feasible (.extend 45)) := by
  decide

theorem test_preemption :
    (after .candidateTurn busy).channels[1].lastEnd = some (.preempted, 10160) ∧
    ((after .candidateTurn busy).channels[1].live).map (·.riders) = some [9] := by decide

/-- The four channels of the lowest level of `busy`, granted at the times given. -/
def tied (t0 t1 t2 t3 : Time) : State :=
  let l (t : Time) : LiveChannel := { advance .running 5 .p6 10560 [0] with level := 1, charges := [], grantTime := t }
  carrying 0 (l t0) (carrying 1 (l t1) (carrying 2 (l t2) (carrying 3 (l t3) busy)))

/-- Among channels of one level the latest grant is the victim, and of one time the highest number (R91). -/
theorem witness_TurnsJoinTopUpAndPreempt_ties :
    (∀ c : ChannelIx, (tied 10150 10160 10160 10155).channels[c].live.map (·.level) = some 1) ∧
    ((tied 10150 10160 10160 10155).channels[2].live).map (·.grantTime) = some 10160 ∧
    isLater 10160 10150 = true ∧ isLater 10160 10155 = true ∧ (1 : ChannelIx) < 2 ∧
    (((tied 10150 10160 10160 10155).endChannel 2 .preempted).figures).map (fun g => g.judgeCase (10400, 10545) 0) =
      some (.feasible (.extend 45)) := by decide

theorem test_preemption_ties :
    (after .candidateTurn (tied 10150 10160 10160 10155)).channels[2].lastEnd = some (.preempted, 10160) ∧
    (after .candidateTurn (tied 10150 10160 10160 10155)).channels[1].lastEnd = none := by decide

/-- A CONFLICT whose channels in the way are all of lower level: they end, and the candidate is granted; where it would
stay denied, at a debt, none of them ends (R92). -/
theorem witness_TurnsJoinTopUpAndPreempt_clears :
    let low : LiveChannel := { chargesZero with level := 1 }
    let s := turning quiet.account (carrying 1 low)
    let f (s : State) := s.figures.map fun f => f.judgeCase (10400, 10545) 0
    (f s = some (.deny .conflict .extend) ∧ s.channels[1].live = some low ∧ low.level < 2 ∧
      f (s.endChannel 1 .preempted) = some (.feasible (.extend 45))) ∧
    f ((turning indebted (carrying 1 low)).endChannel 1 .preempted) = some (.deny .capacity .extend) ∧
    f (turning indebted (carrying 1 { low with charges := [] })) = some (.deny .capacity .extend) := by decide

theorem test_cleared_channels :
    let low : LiveChannel := { chargesZero with level := 1 }
    let s := after .candidateTurn (turning quiet.account (carrying 1 low))
    let u := after .candidateTurn (turning indebted (carrying 1 low))
    s.channels[1].lastEnd = some (.preempted, 10160) ∧ (s.table[3]).map (·.state) = some (.granted 0) ∧
      u.channels[1].lastEnd = none ∧ (u.table[3]).map (fun e => (e.note, e.state)) = some (some (.denied .conflict), .pending) := by decide

/-! ## Corridor ports -/

/-- A HANDOFF message. -/
def handoff : HandoffMsg := { id := 1, vehicle := 7, route := 5, lateness := -5, nominal := 60, tolerance := 100 }

/-- A frame with a message. -/
def framed (isReply : Bool) (msg : Option OutMsg) : OutFrame := { isReply, sender := 9, contained := false, msg }

/-- LINK-B changed, its link UP. -/
def linkB (f : CorridorPort → CorridorPort) : State := quiet.setLink .linkB (f { quiet.linkB with state := .up })

/-- LINK-A changed, its link UP. -/
def linkA (f : CorridorPort → CorridorPort) : State := quiet.setLink .linkA (f { quiet.linkA with state := .up })

theorem witness_PortsSendFrames :
    let due := linkB fun x => { x with pollDue := some 0 }
    let early := linkB fun x => { x with pollDue := some 1 }
    let sent (m : Option OutMsg) := linkB fun x => { x with line := .frame (framed false m), outgoing := m.toList }
    let reply := linkA fun x => { x with replyDue := true }
    (due.held = false ∧ (due.link .linkB).state = .up ∧ (due.link .linkB).line = .listening ∧ due.startUpEnd = none ∧
      (due.link .linkB).settings.role = .poller ∧ (due.link .linkB).windowClose = none ∧ atOrAfter due.time 0 = true) ∧
    atOrAfter early.time 1 = false ∧ ((reply.link .linkA).replyDue = true ∧ (due.link .linkA).replyDue = false) ∧
    (∀ m ∈ [none, some (OutMsg.ack 4 .full), some (.handoff handoff 0 3 30)],
      ((sent m).link .linkB).line = .frame (framed false m) ∧ ((sent m).link .linkB).deferredWrites = [] ∧
      ((sent m).link .linkB).breakWaiting = false) ∧
    ((linkB fun x => { x with line := .frame (framed false none), breakWaiting := true }).link .linkB).breakWaiting = true ∧
    (∀ b, let s := linkB fun x => { x with
        line := .frame (framed false none), breakWaiting := b
        deferredWrites := [State.reset.linkB.settings, quiet.linkA.settings] }
      (s.link .linkB).line = .frame (framed false none) ∧ (s.link .linkB).breakWaiting = b ∧
        (s.link .linkB).deferredWrites ≠ []) := by decide

/-- Two SET_LINKs accepted during a frame, the first OFF: its role write discards the queue with NOT_SENT records, and
the second makes the port a responder (R134, R136). -/
theorem test_transmissionEnd_makes_every_waiting_write :
    let send : Instr := .setLink 3 0 3 50 10 15 600 600 0x803C 0x800C
    let s := after (.setLink 3 2 3 50 10 15 600 600 0x803C 0x800C) (asked (after send (asked (linkB fun x =>
      { x with line := .frame (framed false none), outgoing := [.handoff handoff 0 3 30, .ack 4 .full] }))))
    let t := after (.transmissionEnd .linkB) s
    s.linkB.deferredWrites.map (·.role) = [.off, .responder] ∧ s.linkB.settings.role = .poller ∧
      t.linkB.settings.role = .responder ∧ t.linkB.state = .syncing ∧ t.linkB.outgoing = [] ∧
      t.linkB.deferredWrites = [] ∧ t.port.outcomes.map (·.body) = [.handoff (.notSent .linkNotUp)] := by decide

theorem test_poll_carries_head :
    (after (.poll .linkB) (linkB fun x => { x with pollDue := some 0, outgoing := [.ack 4 .full, .ack 5 .full] })).linkB.line =
      .frame { isReply := false, sender := 0, contained := false, msg := some (.ack 4 .full) } := by decide

theorem test_reply_sends :
    (after (.reply .linkA) (linkA fun x => { x with replyDue := true })).linkA.line =
      .frame { isReply := true, sender := 0, contained := false, msg := none } := by decide

theorem test_transmissionEnd_awaits :
    let s := after (.transmissionEnd .linkB) (linkB fun x =>
      { x with line := .frame (framed false (some (.handoff handoff 0 3 30))), outgoing := [.handoff handoff 0 3 30] })
    s.linkB.outgoing = [] ∧ s.linkB.windowClose = some 2 ∧ s.linkB.awaiting.map (fun i => (i.id, i.deadline)) = [(1, 30)] := by
  decide

/-- An awaited item. -/
def awaited (id : Byte) (deadline : Time) : AwaitItem :=
  { id, deadline, vehicle := 7, route := 5, approach := 0, level := 3 }

theorem witness_WindowsSilenceAndDeadlines :
    let open_ (n : Nat) := linkB fun x => { x with windowClose := some 0, missCount := n }
    let silent := linkA fun x => { x with silenceExpiry := some 0 }
    let waits := linkB fun x => { x with awaiting := [awaited 1 0, awaited 2 1] }
    ((open_ 2).held = false ∧ ((open_ 2).link .linkB).windowClose = some 0 ∧ atOrAfter (open_ 2).time 0 = true ∧
      ((open_ 2).link .linkB).state = .up ∧ min (2 + 1) ((open_ 2).link .linkB).settings.missLimit = 3 ∧
      min (1 + 1) ((open_ 1).link .linkB).settings.missLimit = 2 ∧ ((open_ 2).link .linkB).settings.missLimit = 3) ∧
    ((silent.link .linkA).silenceExpiry = some 0 ∧ (silent.link .linkA).state = .up ∧ quiet.linkB.silenceExpiry = none) ∧
    (awaited 1 0 ∈ (waits.link .linkB).awaiting ∧ (∀ j ∈ (waits.link .linkB).awaiting, j.id = 1 → j = awaited 1 0) ∧
      awaited 2 1 ∈ (waits.link .linkB).awaiting ∧ atOrAfter waits.time 1 = false ∧
      ∀ j ∈ (waits.link .linkB).awaiting, j.id ≠ 3) := by decide

theorem test_replyWindow_down :
    let s := after (.replyWindowClose .linkB) (linkB fun x => { x with windowClose := some 0, missCount := 2 })
    s.linkB.state = .down ∧ s.faults.pointer = some .linkBDown := by decide

theorem test_silence_down :
    let s := after (.silenceTimeout .linkA) (linkA fun x => { x with silenceExpiry := some 0 })
    s.linkA.state = .down ∧ s.faults.pointer = some .linkADown := by decide

theorem test_ackDeadline_unconfirmed :
    let s := after (.ackDeadline .linkB 1) (linkB fun x => { x with awaiting := [awaited 1 0, awaited 2 1] })
    s.linkB.awaiting = [awaited 2 1] ∧ s.port.outcomes.map (·.body) = [.handoff .unconfirmed] := by decide

/-- The published check value of the CRC that R138 describes, over the digits 1 to 9. -/
theorem test_crc_check_value : crc16 [0x31, 0x32, 0x33, 0x34, 0x35, 0x36, 0x37, 0x38, 0x39] = 0x29B1 := by decide +kernel

/-- Received frames: the last of a frame with a bad CRC, and a POLL and a REPLY with each kind of message. -/
theorem witness_FramesAreActedOn :
    let x := linkB id
    let open_ := linkB fun x => { x with windowClose := some 2, awaiting := [awaited 4 30] }
    (x.held = false ∧ (x.link .linkB).state ≠ .off ∧ (x.link .linkB).line = .listening) ∧
    (powerOnState false false).linkB.state = .off ∧ receiveFrame [0x00, 0x09, 0x00, 0x00] = .bad ∧
    receiveFrame [0x01, 0x09] = .incomplete ∧ receiveFrame [0x43, 0x09, 0xD4, 0xB9] = .unknownKind true 9 ∧
    (0x43 : Byte).toNat % 4 = 3 ∧
    (∀ b, ∀ m ∈ [none, some (OutMsg.ack 4 .full), some (.handoff handoff 0 3 30)],
      receiveFrame (frameBytes (framed b m)) = .valid (framed b m).asReceived) ∧
    ((x.link .linkB).settings.role = .poller ∧ (x.link .linkB).windowClose = none ∧
      (open_.link .linkB).windowClose ≠ none ∧ ((linkA id).link .linkA).settings.role = .responder ∧
      ((linkA fun x => { x with state := .roleFault }).link .linkA).state = .roleFault) ∧
    ((open_.link .linkB).received.length < 2 ∧ 2 ≤ [(handoff, (9 : Byte)), (handoff, 9)].length ∧
      awaited 4 30 ∈ (open_.link .linkB).awaiting ∧ (∀ j ∈ (open_.link .linkB).awaiting, j.id = 4 → j = awaited 4 30) ∧
      (∀ j ∈ (x.link .linkB).awaiting, j.id ≠ 4) ∧ 5 ≤ (5 : Byte).toNat) := by decide +kernel

theorem test_frame_reply_acks :
    let s := after (.corridorFrameReceived .linkB (frameBytes (framed true (some (.ack 4 .full)))))
      (linkB fun x => { x with state := .syncing, windowClose := some 2, awaiting := [awaited 4 30] })
    s.linkB.state = .up ∧ s.linkB.awaiting = [] ∧ s.linkB.lastPeer = 9 ∧
      s.port.outcomes.map (·.body) = [.handoff (.acked .full)] := by decide +kernel

theorem test_frame_poll_at_poller :
    let s := after (.corridorFrameReceived .linkB (frameBytes (framed false none))) (linkB id)
    s.linkB.state = .roleFault ∧ s.faults.pointer = some .linkBRole := by decide +kernel

/-- A frame of kind 3 whose CRC matches is valid and discarded with the fault (R137, R138). -/
theorem test_frame_unknown_kind :
    let s := after (.corridorFrameReceived .linkA [0x43, 0x09, 0xD4, 0xB9]) (linkA id)
    s.linkA.peerContained = true ∧ s.linkA.lastPeer = 9 ∧ s.linkA.replyDue = false ∧
      s.faults.pointer = some .linkACrc := by decide +kernel

theorem test_frame_cut : (after (.corridorFrameCut .linkA) (linkA id)).faults.pointer = some .linkACrc := by decide

theorem witness_BreaksResetPorts :
    let sends := linkB fun x => { x with line := .sendingBreak, outgoing := [.handoff handoff 0 3 30, .ack 4 .full] }
    let faulted := linkB fun x => { x with state := .roleFault }
    ((∀ s ∈ [linkB id, sends, faulted, State.reset], s.port.command = .idle ∧ s.held = false)) ∧ (asked (linkB id)).Serves ∧
    ((1 : Byte).toNat < 2 ∧ 4 ≤ (4 : Byte).toNat ∧ State.reset.linkB.settings.role = .off ∧
      (sends.link .linkB).line = .sendingBreak ∧ (faulted.link .linkB).state = .roleFault) ∧
    (((linkB id).link .linkB).settings.role = .poller ∧ ((linkB id).link .linkB).line = .listening ∧
      (linkA id).linkA.settings.role = .responder) ∧
    ((sends.link .linkB).deferredWrites = [] ∧ (quiet.link .linkB).line ≠ .sendingBreak ∧ State.reset.linkB.state = .off) ∧
    (∀ st ∈ [LinkState.up, .off],
      let s := linkB fun x => { x with state := st, line := .sendingBreak, deferredWrites := [quiet.linkA.settings] }
      (s.link .linkB).state = st ∧ (s.link .linkB).line = .sendingBreak ∧ (s.link .linkB).deferredWrites ≠ []) :=
  ⟨by decide, asked_serves _ rfl rfl, by decide⟩

theorem test_break_reports_queue :
    let s := after (.corridorBreak .linkB) (linkB fun x =>
      { x with outgoing := [.handoff handoff 0 3 30, .ack 4 .full], awaiting := [awaited 4 30], nextId := 2 })
    s.port.outcomes.map (·.body) = [.handoff (.notSent .linkNotUp), .handoff .unconfirmed] ∧ s.linkB.nextId = 0 ∧
      s.linkB.state = .syncing := by decide

/-- A REPLY still due is kept by a break and by a SET_LINK to RESPONDER, and dropped by one to OFF (R141). -/
theorem test_reply_due_survives :
    let s := linkA fun x => { x with replyDue := true }
    (after (.corridorBreak .linkA) s).linkA.replyDue = true ∧
    (after (.setLink 2 2 3 50 10 15 600 600 0 0) (asked s)).linkA.replyDue = true ∧
    (after (.setLink 2 0 3 50 10 15 600 600 0 0) (asked s)).linkA.replyDue = false := by decide

theorem test_linkBreak_waits :
    (after (.linkBreak 3) (asked (linkB fun x => { x with line := .frame (framed false none) }))).linkB.breakWaiting = true ∧
    (after (.linkBreak 3) (asked (linkB id))).linkB.line = .sendingBreak ∧
    answer (.linkBreak 1) quiet = some (.badArg, []) := by decide

/-- A SET_LINK that waits for a break is made after the break's reset, whose records come first (R134, R151). -/
theorem test_breakSendEnd_makes_waiting_write :
    let s := after (.breakSendEnd .linkB) (linkB fun x => { x with
      line := .sendingBreak, deferredWrites := [quiet.linkA.settings], outgoing := [.handoff handoff 0 3 30] })
    s.linkB.settings = quiet.linkA.settings ∧ s.linkB.deferredWrites = [] ∧ s.linkB.line = .listening ∧
      s.port.outcomes.map (·.body) = [.handoff (.notSent .linkNotUp)] := by decide

theorem test_breakSendEnd_listens :
    (after (.breakSendEnd .linkB) (linkB fun x => { x with line := .sendingBreak })).linkB.line = .listening := by decide

/-! ## Time and the invariants -/

/-- Inputs that have asked for a change and that have not, loops watched and not, either edge, and a RUNNING extension. -/
theorem witness_DecisecondSamplesInputs :
    let s := { following 0 10100 10160 with
      inputs := put quiet.inputs 5 { lastSample := true, recognised := false, changeAt := none }
      approaches := put quiet.approaches 3 { approachPowerOn .p4 with enabled := true, loopUse := true } }
    s.held = false ∧ (s.inputs[5].changeAt = none ∧ (0x20 : BitVec 6).getLsbD 5 = s.inputs[5].lastSample ∧
      (0x20 : BitVec 6).getLsbD 5 ≠ s.inputs[5].recognised) ∧
    (s.approaches[(3 : Approach)].enabled = true ∧ s.approaches[(3 : Approach)].loopUse = true ∧
      s.approaches[(0 : Approach)].enabled = false) ∧ s.ovr.changeAt = none ∧ s.pins.edge = .rising ∧
    (carrying 0 (extension .running 0 .p2 20 [3]) s).channels[0].live = some (extension .running 0 .p2 20 [3]) ∧
    s.channels[1].live = none := by decide

theorem test_decisecond_counts :
    let s := after (.timeBaseDecisecond 0x02 0xF true) (carrying 0 (extension .running 0 .p2 20 [3]) { quiet with
      inputs := put quiet.inputs 1 { lastSample := true, recognised := false, changeAt := none }
      ovr := { quiet.ovr with runCount := 4 } })
    s.inputs[1].changeAt = some 1 ∧ s.ovr.changeAt = some 1 ∧
      (s.channels[0].live).map (·.action) = some (.extend 19 10500) := by decide

/-- The invariants hold of the state after power-on, whose queue takes one step. -/
theorem witness_QueuesStayBounded : State.reset.QueuesSound ∧ step State.reset = .next State.reset :=
  ⟨⟨by decide, by decide, nofun, nofun⟩, rfl⟩

theorem witness_TableStaysSound : State.reset.TableSound ∧ State.reset.WindowsOrdered ∧ step State.reset = .next State.reset := by
  have h : ∀ i : EntryIx, State.reset.table[i] = none := by decide
  refine ⟨⟨fun i j e f he => ?_, fun i e he => ?_, fun i e he => ?_⟩,
    ⟨fun i e he => ?_, by decide, fun _ _ _ _ _ he => nomatch he⟩, rfl⟩ <;> rw [h] at he <;> cases he

theorem witness_GuardsHold : State.reset.Guarded ∧ step State.reset = .next State.reset := by
  have h : ∀ c : ChannelIx, State.reset.channels[c].live = none := by decide
  refine ⟨⟨fun _ => h, nofun, fun h' => absurd rfl h', by decide, trivial, fun c l hl => ?_⟩, rfl⟩
  rw [h] at hl
  cases hl

/-- The worked plan with the extension of its first green live on channel 1. -/
def extended : State :=
  carrying 1 (extension .armed 0 .p2 45 [3]) (holding [(3, { bus 7 0 2 10400 10545 with state := .granted 1 })]
    (following 0 10100 10160))

/-- With a live channel too: the invariants of channels, table and tracker together. -/
theorem witness_GuardsHold_linked :
    extended.Guarded ∧ extended.Linked ∧ (∀ left, extended.port.command ≠ .resetCore left) ∧
      step extended = .next extended := by
  have hc : ∀ (c : ChannelIx) l, extended.channels[c].live = some l → c = 1 ∧ l = extension .armed 0 .p2 45 [3] :=
    fun c l h => of_decide_eq_true (present_all (fun c : ChannelIx => extended.channels[c].live)
      (fun c l => decide (c = 1 ∧ l = extension .armed 0 .p2 45 [3])) (by decide) c l h)
  have ht : ∀ (i : EntryIx) e, extended.table[i] = some e → i = 3 ∧ e.state = .granted 1 :=
    fun i e h => of_decide_eq_true (present_all (fun i : EntryIx => extended.table[i])
      (fun i e => decide (i = 3 ∧ e.state = .granted 1)) (by decide) i e h)
  refine ⟨⟨fun h => absurd rfl h, nofun, fun h => absurd rfl h, ⟨nofun, nofun⟩, trivial, fun c l h => ?_⟩,
    ⟨⟨fun i c e h hs => ?_, fun c l h => ?_⟩, fun c d l m n h h' => ?_, fun c l h => ?_, fun r p h _ h' => ?_,
      fun h => absurd rfl (h _)⟩, nofun, rfl⟩
  · obtain ⟨rfl, rfl⟩ := hc c l h
    decide
  · obtain ⟨rfl, h'⟩ := ht i e h
    obtain rfl : 1 = c := by simpa [h'] using hs
    exact ⟨_, rfl, by decide⟩
  · obtain ⟨rfl, rfl⟩ := hc c l h
    exact ⟨by decide, fun i hi => by obtain rfl : i = 3 := by simpa [extension] using hi
                                     exact ⟨_, rfl, rfl⟩⟩
  · exact absurd ((hc c l h).1.trans (hc d m h').1.symm) n
  · obtain ⟨rfl, rfl⟩ := hc c l h
    exact ⟨fun _ => ⟨⟨_, rfl, rfl, rfl⟩, by decide⟩, nofun⟩
  · cases h
    cases h'
    decide

theorem witness_AccountStaysWithinLimits : State.reset.AccountSound ∧ step State.reset = .next State.reset :=
  ⟨⟨⟨nofun, nofun⟩, by decide, by decide, nofun⟩, rfl⟩

/-- The account of the worked extension is sound as well: 45 charged to slot 1 of the active plan. -/
theorem test_worked_account_balanced :
    (after .candidateTurn (passing [(3, bus 7 0 2 10400 10545)] (following 0 10100 10160))).account.Balanced := by decide

theorem witness_SettingsChangeByCommandAlone : exec .settleTimeout quiet = .next quiet := rfl

theorem test_step_takes_front : step { quiet with pending := [.settleTimeout, .null] } =
    .next { quiet with pending := [.null] } := rfl

end Sys2Proof.Tests
end

section
/-! PROOFS. FORCE_GRANT (R95, R96): its operands, the checks on slot and channels, and the grant it writes. The laws of
operands, live channels and grants come first; they serve any command that reads or writes the same things. -/

namespace Sys2Proof.Machine

/-! ## Operands -/

theorem entryOfByte_of_val {b : Byte} {i : EntryIx} (h : b.toNat = i.val) : entryOfByte b = some i := by
  simp [entryOfByte, h]

theorem entryOfByte_of_ge {b : Byte} (h : 16 ≤ b.toNat) : entryOfByte b = none := by
  simp [entryOfByte, h]

/-- The byte that names an action (R184). -/
def actionByte : GrantAction → Byte
  | .extend => 1
  | .advance => 2

theorem actionOfByte_actionByte (act : GrantAction) : actionOfByte (actionByte act) = some act := by
  cases act <;> rfl

theorem exists_actionByte {b : Byte} (h : b = 1 ∨ b = 2) : ∃ act, b = actionByte act :=
  h.elim (fun h => ⟨.extend, h⟩) fun h => ⟨.advance, h⟩

theorem actionOfByte_of_other {b : Byte} (h1 : b ≠ 1) (h2 : b ≠ 2) : actionOfByte b = none := by
  have h1' : b.toNat ≠ 1 := fun h => h1 (BitVec.eq_of_toNat_eq h)
  have h2' : b.toNat ≠ 2 := fun h => h2 (BitVec.eq_of_toNat_eq h)
  unfold actionOfByte
  split
  · contradiction
  · contradiction
  · rfl

theorem durationIn_of_mem {w : Half} {lo hi d : Nat} (h : duration w = some d) (hlo : lo ≤ d) (hhi : d ≤ hi) :
    durationIn w lo hi = some d := by
  simp [durationIn, h, inRange, hlo, hhi]

theorem durationIn_of_out {w : Half} {lo hi : Nat} (h : ∀ d, duration w = some d → d < lo ∨ hi < d) :
    durationIn w lo hi = none := by
  unfold durationIn
  cases hd : duration w with
  | none => rfl
  | some d =>
    have := h d hd
    exact if_neg (by omega)

/-- A count's two bytes, by division (R180). -/
theorem natBytes_eq (n : Nat) : natBytes n = [BitVec.ofNat 8 (n / 256), BitVec.ofNat 8 n] := by
  have high : (BitVec.ofNat 16 n).extractLsb' 8 8 = BitVec.ofNat 8 (n / 256) := by
    apply BitVec.eq_of_toNat_eq
    simp [Nat.shiftRight_eq_div_pow]
    omega
  have low : (BitVec.ofNat 16 n).extractLsb' 0 8 = BitVec.ofNat 8 n := by
    apply BitVec.eq_of_toNat_eq
    simp
  simp [natBytes, halfBytes, high, low]

/-! ## Live channels and idle ones -/

theorem liveChannels_any_iff (cs : Vector Channel 4) (test : ChannelIx × LiveChannel → Bool) :
    (liveChannels cs).any test = true ↔ ∃ (c : ChannelIx) (l : LiveChannel), cs[c].live = some l ∧ test (c, l) = true := by
  simp only [liveChannels, List.any_eq_true, List.mem_filterMap, Option.map_eq_some_iff]
  constructor
  · rintro ⟨_, ⟨c, _, l, h, rfl⟩, ht⟩
    exact ⟨c, l, h, ht⟩
  · rintro ⟨c, l, h, ht⟩
    exact ⟨(c, l), ⟨c, (by decide : ∀ c : ChannelIx, c ∈ allChannels) c, l, h, rfl⟩, ht⟩

theorem namesSlot_iff (charges : List (SlotIx × Nat)) (k : SlotIx) :
    namesSlot charges k = true ↔ k ∈ charges.map (·.1) := by
  simp [namesSlot]

theorem isExtend_eq_false_iff (l : LiveChannel) : isExtend l = false ↔ ∃ deadline, l.action = .advance deadline := by
  unfold isExtend
  cases l.action <;> simp

theorem Figures.isProtected_iff (f : Figures) (k : SlotIx) :
    f.isProtected k = true ↔ ∃ (c : ChannelIx) (l : LiveChannel), f.channels[c].live = some l ∧ l.slot = k := by
  simp only [Figures.isProtected, liveChannels_any_iff, decide_eq_true_eq]

/-- The channel a grant takes is the lowest-numbered IDLE one (R90). -/
theorem State.idleChannel_eq_some_iff (s : State) (c : ChannelIx) : s.idleChannel = some c ↔ s.LowestIdle c := by
  have inOrder : allChannels = List.finRange 4 := by decide
  rw [State.idleChannel, inOrder, List.find?_eq_some_iff_getElem]
  simp only [List.getElem_finRange, List.length_finRange, Option.isNone_iff_eq_none, Bool.not_eq_true',
    Option.isNone_eq_false_iff, Option.isSome_iff_ne_none]
  constructor
  · rintro ⟨h, i, hi, rfl, hlow⟩
    exact ⟨h, fun d hd => hlow d.val hd⟩
  · rintro ⟨h, hlow⟩
    exact ⟨h, c.val, c.isLt, rfl, fun d hd => hlow ⟨d, by omega⟩ hd⟩

/-! ## The figures a state gives -/

theorem State.figures_reads {s : State} {f : Figures} (h : s.figures = some f) :
    f.account = s.account ∧ f.channels = s.channels := by
  unfold State.figures at h
  split at h
  · cases h
    exact ⟨rfl, rfl⟩
  · cases h

theorem Figures.caseOf_eq_extension_iff (f : Figures) (j : SlotIx) :
    f.caseOf j = .extension ↔ f.step.cur = j ∧ f.step.period = .green := by
  unfold Figures.caseOf
  by_cases h : j = f.step.cur
  · cases hp : f.step.period <;> simp [h]
  · rw [if_neg h]
    have : f.step.cur ≠ j := fun e => h e.symm
    split <;> simp [this]

theorem Figures.caseOf_eq_advance_iff (f : Figures) (j : SlotIx) :
    f.caseOf j = .advance ↔ f.step.cur < j ∨ j = 0 ∧ f.step.cur ≠ 0 := by
  unfold Figures.caseOf
  by_cases h : j = f.step.cur
  · cases hp : f.step.period <;> simp [h]
  · rw [if_neg h]
    have : j = 0 → f.step.cur ≠ 0 := fun e e' => h (e.trans e'.symm)
    by_cases h' : f.step.cur < j ∨ j = 0
    · rw [if_pos h']
      exact iff_of_true rfl (h'.imp_right fun e => ⟨e, this e⟩)
    · rw [if_neg h']
      exact iff_of_false nofun fun g => h' (g.imp_right And.left)

/-! ## Grants -/

/-- Charges leave x_cur alone; only the grant of an extension raises it (R94). -/
theorem chargeAll_xcur (p : Plan) (a : Account) (pairs : List (SlotIx × Nat)) : (chargeAll p a pairs).xcur = a.xcur := by
  unfold chargeAll
  induction pairs generalizing a with
  | nil => rfl
  | cons q rest ih => rw [List.foldl_cons, ih]; rfl

/-- What a proposal raises x_cur by (R94). -/
def Proposal.rise : Proposal → Nat
  | .extend n => n
  | .advance _ _ => 0

/-- The account after a grant, its x_cur and its charges apart. -/
theorem Figures.charged_eq (f : Figures) (p : Proposal) (l : LiveChannel) :
    f.charged p l = { chargeAll f.plan f.account l.charges with xcur := f.account.xcur + p.rise } := by
  have hx := chargeAll_xcur f.plan f.account l.charges
  cases p with
  | extend n => simp [Figures.charged, Proposal.rise, hx]
  | advance j n => simp [Figures.charged, Proposal.rise, ← hx]

theorem Figures.markOf_record (f : Figures) (p : Proposal) (i : EntryIx) (level : Nat) (cause : StartCause) :
    markOf (f.record p i level cause) = proposalMark p := by
  cases p <;> rfl

/-- A grant over the figures of the account it charges writes channel, account and entry, and nothing else (R93, R94). -/
theorem State.grant_granted (s : State) {f : Figures} (h : f.account = s.account) (c : ChannelIx) (i : EntryIx)
    (e : Entry) (p : Proposal) (cause : StartCause) :
    s.Granted (s.grant f c i e p cause) c i e (f.record p i e.level cause) (proposalMark p) f.plan p.rise := by
  refine ⟨?_, put_same .., fun d hd => put_other _ _ hd, ?_, fun j hj => put_other _ _ hj⟩
  · rw [← h, ← Figures.charged_eq]
    rfl
  · rw [← f.markOf_record p i e.level cause]
    exact put_same ..

theorem State.grant_withPort (f : Figures) (c : ChannelIx) (i : EntryIx) (e : Entry) (p : Proposal) (cause : StartCause)
    (s : State) (q : ControllerPort) : (s.withPort q).grant f c i e p cause = (s.grant f c i e p cause).withPort q := rfl

theorem Figures.extendRecord_extends (f : Figures) (n : Nat) (i : EntryIx) (level : Nat) (cause : StartCause) :
    f.Extends (f.record (.extend n) i level cause) n i level cause := rfl

theorem Figures.advanceRecord_advances (f : Figures) (j : SlotIx) (n : Nat) (i : EntryIx) (level : Nat)
    (cause : StartCause) : f.Advances (f.record (.advance j n) i level cause) j n i level cause := by
  have run : (if f.step.cur ∈ f.truncation j ∨ f.step.period ≠ .green then RunState.running else .armed) =
      if f.step.period = .green ∧ f.step.cur ∉ f.truncation j then .armed else .running := by
    by_cases h : f.step.cur ∈ f.truncation j <;> by_cases g : f.step.period = .green <;> simp [h, g]
  change f.advanceRecord j n i level cause = _
  rw [Figures.advanceRecord, run]

/-! ## Forced proposals -/

/-- The amount of a forced grant, clipped to the limits of its case (R96). -/
def Figures.forcedAmount (f : Figures) (j : SlotIx) (d : Nat) : GrantAction → Nat
  | .extend => min d (min ((slotAt f.plan j).e - f.account.xcur) (min f.sExt f.account.budgetLeft))
  | .advance => min d (min (f.sAdv j) f.account.budgetLeft)

/-- What R95 asks of the slot of a forced grant and of the channels, by its case; the check that no channel targets the
slot is common to both. -/
def Figures.OpenTo (f : Figures) (j : SlotIx) : GrantAction → Prop
  | .extend => f.step.cur = j ∧ f.step.period = .green ∧ ∀ (c : ChannelIx) l dl,
      f.channels[c].live = some l → l.action = .advance dl → j ∉ l.charges.map (·.1)
  | .advance => (f.step.cur < j ∨ j = 0 ∧ f.step.cur ≠ 0) ∧ ∀ (c : ChannelIx) l,
      f.channels[c].live = some l → j ∉ l.charges.map (·.1)

/-- The conditions of a case, said of the action byte that asks for it. -/
theorem Figures.openTo_actionByte_iff (f : Figures) (j : SlotIx) (act : GrantAction) :
    f.OpenTo j act ↔ (actionByte act = 1 → f.OpenTo j .extend) ∧ (actionByte act = 2 → f.OpenTo j .advance) := by
  cases act with
  | extend => exact ⟨fun h => ⟨fun _ => h, nofun⟩, fun h => h.1 rfl⟩
  | advance => exact ⟨fun h => ⟨nofun, fun _ => h⟩, fun h => h.2 rfl⟩

/-- The proposal of a forced grant. -/
def forcedOf (j : SlotIx) (n : Nat) : GrantAction → Proposal
  | .extend => .extend n
  | .advance => .advance j n

theorem forcedOf_amount (j : SlotIx) (n : Nat) (act : GrantAction) : proposalAmount (forcedOf j n act) = n := by
  cases act <;> rfl

/-- No live channel targets a slot that is not protected (R72). -/
theorem Figures.isProtected_eq_false_iff (f : Figures) (k : SlotIx) :
    f.isProtected k = false ↔ ∀ (c : ChannelIx) l, f.channels[c].live = some l → l.slot ≠ k := by
  rw [← Bool.not_eq_true, Figures.isProtected_iff]
  push Not
  rfl

/-- No live channel's charge list names a slot. -/
theorem Figures.uncharged_iff (f : Figures) (j : SlotIx) :
    ((liveChannels f.channels).any fun c => namesSlot c.2.charges j) = false ↔
      ∀ (c : ChannelIx) l, f.channels[c].live = some l → j ∉ l.charges.map (·.1) := by
  rw [← Bool.not_eq_true, liveChannels_any_iff]
  simp only [namesSlot_iff]
  push Not
  rfl

/-- No live advance's charge list names a slot. -/
theorem Figures.unchargedByAdvance_iff (f : Figures) (j : SlotIx) :
    ((liveChannels f.channels).any fun c => !isExtend c.2 && namesSlot c.2.charges j) = false ↔
      ∀ (c : ChannelIx) l dl, f.channels[c].live = some l → l.action = .advance dl → j ∉ l.charges.map (·.1) := by
  rw [← Bool.not_eq_true, liveChannels_any_iff]
  simp only [Bool.and_eq_true, Bool.not_eq_true', namesSlot_iff, isExtend_eq_false_iff]
  push Not
  exact ⟨fun h c l dl hl ha => h c l hl ⟨dl, ha⟩, fun h c l hl ⟨dl, ha⟩ => h c l dl hl ha⟩

/-- FORCE_GRANT proposes the clipped amount, and does so exactly where the amount is not 0, no channel targets the slot,
and the conditions of its case hold (R95, R96). -/
theorem Figures.forcedProposal_eq_some_iff (f : Figures) (j : SlotIx) (act : GrantAction) (d : Nat) (p : Proposal) :
    f.forcedProposal j act d = some p ↔ forcedOf j (f.forcedAmount j d act) act = p ∧ 1 ≤ f.forcedAmount j d act ∧
      (∀ (c : ChannelIx) l, f.channels[c].live = some l → l.slot ≠ j) ∧ f.OpenTo j act := by
  rw [← f.isProtected_eq_false_iff, Nat.one_le_iff_ne_zero]
  cases act with
  | extend =>
    rw [Figures.OpenTo, ← f.unchargedByAdvance_iff, ← and_assoc (a := f.step.cur = j), ← f.caseOf_eq_extension_iff]
    simp only [Figures.forcedProposal, Option.ite_none_left_eq_some, Option.some.injEq, not_not, Bool.not_eq_true,
      Bool.or_eq_false_iff]
    exact ⟨fun ⟨hcase, ⟨hcharge, hslot⟩, hn, hp⟩ => ⟨hp, hn, hslot, hcase, hcharge⟩,
      fun ⟨hp, hn, hslot, hcase, hcharge⟩ => ⟨hcase, ⟨hcharge, hslot⟩, hn, hp⟩⟩
  | advance =>
    rw [Figures.OpenTo, ← f.uncharged_iff, ← f.caseOf_eq_advance_iff]
    simp only [Figures.forcedProposal, Option.ite_none_left_eq_some, Option.some.injEq, not_not, Bool.not_eq_true,
      Bool.or_eq_false_iff]
    exact ⟨fun ⟨hcase, ⟨hslot, hcharge⟩, hn, hp⟩ => ⟨hp, hn, hslot, hcase, hcharge⟩,
      fun ⟨hp, hn, hslot, hcase, hcharge⟩ => ⟨hcase, ⟨hslot, hcharge⟩, hn, hp⟩⟩

/-! ## A live entry judged -/

theorem isGranted_iff (e : Entry) : isGranted e = true ↔ ∃ c, e.state = .granted c := by
  unfold isGranted
  cases e.state <;> simp

/-- Without the running condition, or on an entry that is GRANTED, a forced grant is refused (R95). -/
theorem State.forceEntry_of_barred {s : State} {e : Entry} (h : ¬ s.RunningCondition ∨ ∃ c, e.state = .granted c)
    (i : EntryIx) (act : GrantAction) (d : Nat) : s.forceEntry i e act d = refuse s .badState := by
  rw [← s.mayRun_iff, ← isGranted_iff] at h
  exact if_pos (by simpa using h)

/-- Where the plan has no slot for the entry's phase, a forced grant is refused (R95). -/
theorem State.forceEntry_of_no_slot {s : State} {e : Entry} {f : Figures} (hf : s.figures = some f)
    (h : slotOf f.plan s.approaches[e.approach].phase = none) (i : EntryIx) (act : GrantAction) (d : Nat) :
    s.forceEntry i e act d = refuse s .badState := by
  unfold State.forceEntry
  simp only [hf, h, ite_self]

/-- A forced grant of an amount fits a slot and the channels: R95 gives no reason to refuse it. -/
def State.FitsForced (s : State) (f : Figures) (j : SlotIx) (act : GrantAction) (n : Nat) : Prop :=
  1 ≤ n ∧ (∃ c : ChannelIx, s.channels[c].live = none) ∧
    (∀ (c : ChannelIx) l, f.channels[c].live = some l → l.slot ≠ j) ∧ f.OpenTo j act

theorem State.not_barred {s : State} {e : Entry} (hrun : s.RunningCondition) (hfree : ∀ c, e.state ≠ .granted c) :
    (!s.mayRun || isGranted e) = false := by
  simpa [s.mayRun_iff.mpr hrun, ← Bool.not_eq_true, isGranted_iff] using hfree

section Judged

variable {s : State} {e : Entry} {f : Figures} {j : SlotIx} (hf : s.figures = some f)
  (hj : slotOf f.plan s.approaches[e.approach].phase = some j) {act : GrantAction} {d : Nat}

include hf hj

/-- A grant that fits is made on the lowest-numbered IDLE channel and answered with its index and the clipped amount
(R96). -/
theorem State.forceEntry_of_fits (hrun : s.RunningCondition) (hfree : ∀ c, e.state ≠ .granted c)
    (fits : s.FitsForced f j act (f.forcedAmount j d act)) {c : ChannelIx} (hc : s.LowestIdle c) (i : EntryIx) :
    let n := f.forcedAmount j d act
    s.forceEntry i e act d = okWith (s.grant f c i e (forcedOf j n act) .forced)
      [BitVec.ofNat 8 c.val, BitVec.ofNat 8 (n / 256), BitVec.ofNat 8 n] := by
  obtain ⟨hn, _, hslot, hopen⟩ := fits
  have hp := (f.forcedProposal_eq_some_iff j act d _).mpr ⟨rfl, hn, hslot, hopen⟩
  have hidle := (s.idleChannel_eq_some_iff c).mpr hc
  simp only [State.forceEntry, State.not_barred hrun hfree, Bool.false_eq_true, if_false, hf, hj, hp, hidle,
    forcedOf_amount, natBytes_eq, natByte]

/-- A grant that does not fit is refused (R95). -/
theorem State.forceEntry_of_not_fits (misfit : ¬ s.FitsForced f j act (f.forcedAmount j d act)) (i : EntryIx) :
    s.forceEntry i e act d = refuse s .badState := by
  cases hp : f.forcedProposal j act d with
  | none => simp only [State.forceEntry, hf, hj, hp, ite_self]
  | some p =>
    cases hc : s.idleChannel with
    | none => simp only [State.forceEntry, hf, hj, hp, hc, ite_self]
    | some c =>
      obtain ⟨_, hn, hslot, hopen⟩ := (f.forcedProposal_eq_some_iff j act d p).mp hp
      have idle := ((s.idleChannel_eq_some_iff c).mp hc).1
      exact absurd ⟨hn, ⟨c, idle⟩, hslot, hopen⟩ misfit

end Judged

/-! ## FORCE_GRANT judged -/

/-- Operands of FORCE_GRANT out of range are refused before the table is read (R95). -/
theorem State.judgeForce_of_bad {entry action : Byte} {amount : Half}
    (h : 16 ≤ entry.toNat ∨ (action ≠ 1 ∧ action ≠ 2) ∨ ∀ d, duration amount = some d → d < 1 ∨ 300 < d) (s : State) :
    s.judgeForce entry action amount = refuse s .badArg := by
  unfold State.judgeForce
  rcases h with h | ⟨h1, h2⟩ | h
  · rw [entryOfByte_of_ge h]
  · rw [actionOfByte_of_other h1 h2]
    cases entryOfByte entry <;> rfl
  · rw [durationIn_of_out h]
    cases entryOfByte entry <;> cases actionOfByte action <;> rfl

section Operands

variable {s : State} {entry : Byte} {i : EntryIx} {amount : Half} {d : Nat} (hi : entry.toNat = i.val)
  (hd : duration amount = some d) (hlo : 1 ≤ d) (hhi : d ≤ 300)

include hi hd hlo hhi

theorem State.judgeForce_of_free (act : GrantAction) (h : s.table[i] = none) :
    s.judgeForce entry (actionByte act) amount = refuse s .notFound := by
  unfold State.judgeForce
  rw [entryOfByte_of_val hi, actionOfByte_actionByte, durationIn_of_mem hd hlo hhi]
  simp only [h]

theorem State.judgeForce_of_entry (act : GrantAction) {e : Entry} (h : s.table[i] = some e) :
    s.judgeForce entry (actionByte act) amount = s.forceEntry i e act d := by
  unfold State.judgeForce
  rw [entryOfByte_of_val hi, actionOfByte_actionByte, durationIn_of_mem hd hlo hhi]
  simp only [h]

end Operands

/-! ## FORCE_GRANT taken -/

/-- A refused FORCE_GRANT is answered and changes nothing else (R171). -/
theorem exec_forceGrant_refused {s : State} (hs : s.Serves) {entry action : Byte} {amount : Half} {r : ResultCode}
    (h : s.endTransaction.judgeForce entry action amount = refuse s.endTransaction r) :
    exec (.forceGrant entry action amount) s = .next (s.replied 0x31 r []) :=
  congrArg Host.Outcome.next (State.take_refused hs codeForceGrant (·.judgeForce entry action amount) r h)

/-- An accepted FORCE_GRANT writes its grant and is answered (R96). -/
theorem exec_forceGrant_accepted {s : State} (hs : s.Serves) {entry action : Byte} {amount : Half} {f : Figures}
    {c : ChannelIx} {i : EntryIx} {e : Entry} {p : Proposal} {data : List Byte}
    (h : s.endTransaction.judgeForce entry action amount = okWith (s.endTransaction.grant f c i e p .forced) data) :
    exec (.forceGrant entry action amount) s = .next ((s.grant f c i e p .forced).replied 0x31 .ok data) := by
  have answered := State.take_of_serves hs codeForceGrant (·.judgeForce entry action amount)
  rw [h] at answered
  exact congrArg Host.Outcome.next (answered.trans
    (State.answer_of_withPort (·.grant f c i e p .forced) (State.grant_withPort f c i e p .forced) s 0x31 .ok data))

/-- Settles O31: each refusal of R95 in its order, and the grant of R96 on the figures of the moment. -/
theorem forceGrantIsJudged : Obligations.ForceGrantIsJudged := by
  intro s entry action amount hs f result
  refine ⟨fun hbad => exec_forceGrant_refused hs (State.judgeForce_of_bad hbad _), fun i d hi hact hd hlo hhi => ?_⟩
  obtain ⟨act, rfl⟩ := exists_actionByte hact
  refine ⟨fun hnone => exec_forceGrant_refused hs (State.judgeForce_of_free hi hd hlo hhi act hnone), fun e he => ?_⟩
  have judged := State.judgeForce_of_entry (s := s.endTransaction) hi hd hlo hhi act he
  refine ⟨fun hbarred => ?_, fun g hg hno => ?_, fun g j hrun hfree hg hj => ?_⟩
  · exact exec_forceGrant_refused hs (judged.trans (State.forceEntry_of_barred (s := s.endTransaction) hbarred i act d))
  · exact exec_forceGrant_refused hs (judged.trans (State.forceEntry_of_no_slot (s := s.endTransaction) hg hno i act d))
  · intro n fits
    obtain ⟨haccount, hchannels⟩ := State.figures_reads hg
    have hn : n = g.forcedAmount j d act := by
      cases act with
      | extend => exact (if_pos rfl).trans (by rw [Figures.forcedAmount, haccount])
      | advance => exact (if_neg (by decide)).trans (by rw [Figures.forcedAmount, haccount])
    have fits_iff : fits ↔ s.endTransaction.FitsForced g j act (g.forcedAmount j d act) := by
      rw [← hn, State.FitsForced, Figures.openTo_actionByte_iff]
      simp only [Figures.OpenTo, hchannels]
      exact Iff.rfl
    refine ⟨fun misfit => ?_, fun hfits c hc => ?_⟩
    · exact exec_forceGrant_refused hs
        (judged.trans (State.forceEntry_of_not_fits (s := s.endTransaction) hg hj (mt fits_iff.mpr misfit) i))
    · have accepted := exec_forceGrant_accepted hs
        (judged.trans (State.forceEntry_of_fits (s := s.endTransaction) hg hj hrun hfree (fits_iff.mp hfits) hc i))
      rw [← hn] at accepted
      have granted := s.grant_granted haccount c i e (forcedOf j n act) .forced
      refine ⟨_, g.record (forcedOf j n act) i e.level .forced, accepted, ?_⟩
      cases act with
      | extend => exact ⟨fun _ => ⟨g.extendRecord_extends n i e.level .forced, granted⟩, nofun⟩
      | advance => exact ⟨nofun, fun _ => ⟨g.advanceRecord_advances j n i e.level .forced, granted⟩⟩

end Sys2Proof.Machine
end

section
/-! PROOFS. RELEASE (R165): a block on the release read off the fault maps kind by kind, the judgement in each containment
state, and the answer. The laws of fault maps come first; they serve any command that reads or writes them. -/

namespace Sys2Proof.Machine

/-! ## Fault maps, kind by kind -/

/-- The fault kinds in the order of their indices (spec/09, Fault kinds). -/
def faultKinds : List FaultKind :=
  [.rx0Framing, .rx0Overrun, .rx0Check, .rx1Framing, .rx1Overrun, .rx1Check, .rxSource, .linkADown, .linkARole, .linkACrc,
    .linkBDown, .linkBRole, .linkBCrc, .phaseConflict, .sequenceBreak, .planMissing, .cycleLength, .advMissed,
    .checkoutStuck]

theorem faultKinds_map_faultIndex : faultKinds.map faultIndex = List.finRange 19 := by decide

theorem faultIndex_surjective : Function.Surjective faultIndex := fun i =>
  have hi : i ∈ faultKinds.map faultIndex := faultKinds_map_faultIndex ▸ List.mem_finRange i
  let ⟨k, _, hk⟩ := List.mem_map.mp hi
  ⟨k, hk⟩

@[simp] theorem kindBit_and (m n : BitVec 19) (k : FaultKind) : kindBit (m &&& n) k = (kindBit m k && kindBit n k) :=
  BitVec.getLsbD_and

@[simp] theorem kindBit_not (m : BitVec 19) (k : FaultKind) : kindBit (~~~m) k = !kindBit m k := by
  simp [kindBit]

@[simp] theorem kindBit_zero (k : FaultKind) : kindBit 0#19 k = false := BitVec.getLsbD_zero

/-- No bit of a map stands outside the kinds, so the kinds tell maps apart. -/
theorem eq_of_kindBit_eq {m n : BitVec 19} (h : ∀ k, kindBit m k = kindBit n k) : m = n := by
  refine BitVec.eq_of_getLsbD_eq fun i hi => ?_
  obtain ⟨k, hk⟩ := faultIndex_surjective ⟨i, hi⟩
  have hbit := h k
  unfold kindBit at hbit
  rwa [hk] at hbit

theorem ne_zero_iff_exists_kindBit (m : BitVec 19) : m ≠ 0 ↔ ∃ k, kindBit m k = true := by
  constructor
  · intro hm
    by_contra hno
    exact hm (eq_of_kindBit_eq fun k => by simpa using not_exists.mp hno k)
  · rintro ⟨k, hk⟩ rfl
    simp at hk

theorem FaultRecorder.blocksRelease_iff (f : FaultRecorder) : f.blocksRelease = true ↔
    ∃ k, kindBit f.status k = true ∧ kindBit f.mask k = false ∧ kindBit f.severity k = true := by
  unfold FaultRecorder.blocksRelease
  rw [decide_eq_true_iff, ne_zero_iff_exists_kindBit]
  simp [and_assoc]

/-! ## RELEASE judged -/

/-- The effect of a release: containment NORMAL with its reason absent, then an evaluation cause (R165, R80). -/
def State.released (s : State) : State :=
  State.cause { s with containment := { s.containment with state := .normal } }

theorem State.released_withPort (s : State) (p : ControllerPort) : (s.withPort p).released = s.released.withPort p :=
  State.cause_withPort { s with containment := { s.containment with state := .normal } } p

theorem State.judgeRelease_of_normal {s : State} (h : s.containment.state = .normal) : s.judgeRelease = okWith s [] := by
  unfold State.judgeRelease
  rw [h]

theorem State.judgeRelease_of_settling {s : State} {r : ContainReason} {e : Time}
    (h : s.containment.state = .settling r e) : s.judgeRelease = refuse s .badState := by
  unfold State.judgeRelease
  rw [h]

theorem State.judgeRelease_of_held {s : State} {r : ContainReason} (h : s.containment.state = .held r) :
    s.judgeRelease = if s.faults.blocksRelease then refuse s .badState else okWith s.released [] := by
  unfold State.judgeRelease
  rw [h]
  rfl

/-! ## RELEASE taken -/

/-- A command accepted with an effect that leaves the port alone is that effect, answered (R169). -/
theorem State.take_accepted {s : State} (h : s.Serves) (echo : Byte) (judge : State → Judged) (f : State → State)
    (hf : ∀ (t : State) p, f (t.withPort p) = (f t).withPort p) (data : List Byte)
    (hj : judge s.endTransaction = okWith (f s.endTransaction) data) :
    s.take echo judge = (f s).replied echo .ok data := by
  rw [State.take_of_serves h, hj]
  exact State.answer_of_withPort f hf s echo .ok data

/-- A refused RELEASE is answered and changes nothing else (R171). -/
theorem exec_release_refused {s : State} (hs : s.Serves)
    (h : s.endTransaction.judgeRelease = refuse s.endTransaction .badState) :
    exec .release s = .next (s.replied 0x13 .badState []) :=
  congrArg Host.Outcome.next (State.take_refused hs codeRelease State.judgeRelease .badState h)

/-- An accepted RELEASE is its effect, answered. -/
theorem exec_release_accepted {s : State} (hs : s.Serves) (f : State → State)
    (hf : ∀ (t : State) p, f (t.withPort p) = (f t).withPort p)
    (h : s.endTransaction.judgeRelease = okWith (f s.endTransaction) []) :
    exec .release s = .next ((f s).replied 0x13 .ok []) :=
  congrArg Host.Outcome.next (State.take_accepted hs codeRelease State.judgeRelease f hf [] h)

/-- Settles O22: the containment states one by one, and in HELD the block that the fault maps give. -/
theorem releaseIsJudged : Obligations.ReleaseIsJudged := by
  intro s hs blocked
  have held {r : ContainReason} (h : s.containment.state = .held r) :=
    State.judgeRelease_of_held (s := s.endTransaction) h
  have blocks_iff : s.endTransaction.faults.blocksRelease = true ↔ blocked := s.faults.blocksRelease_iff
  refine ⟨fun h => ?normal, fun r e h => ?settling, fun r h hblocked => ?blocked, fun r h hfree => ?free⟩
  case normal => exact exec_release_accepted hs id (fun _ _ => rfl) (State.judgeRelease_of_normal h)
  case settling => exact exec_release_refused hs (State.judgeRelease_of_settling h)
  case blocked => exact exec_release_refused hs ((held h).trans (if_pos (blocks_iff.mpr hblocked)))
  case free =>
    exact exec_release_accepted hs State.released State.released_withPort
      ((held h).trans (if_neg (mt blocks_iff.mp hfree)))

end Sys2Proof.Machine
end

section
/-! PROOFS. What lasts (O2, O60): the settings, the queue and the time base as one record, which every shared operation
keeps, and of which each command changes its own part alone. -/

namespace Sys2Proof.Machine

/-! ## The record of what lasts -/

/-- A receive link's settings (R1). -/
def RxLink.setting (x : RxLink) : Bool × LineRate := (x.enabled, x.rate)

/-- A corridor port's settings and those of the SET_LINKs that wait (R134). -/
def CorridorPort.wiring (x : CorridorPort) : PortSettings × List PortSettings := (x.settings, x.deferredWrites)

/-- The queue, the time base and every setting of the part. -/
structure Lasting where
  pending : List Instr
  time : Time
  approaches : Vector ApproachConfig 4
  routes : RouteTable
  classes : Vector Int 7
  policy : Policy
  pins : PinSettings
  identity : Byte
  mask : BitVec 19
  severity : BitVec 19
  enable : Bool
  settleTimeout : Nat
  enables : BitVec 7
  rx0 : Bool × LineRate
  rx1 : Bool × LineRate
  linkA : PortSettings × List PortSettings
  linkB : PortSettings × List PortSettings

/-- What stands outside the table, the channels, the engine and the tracker: the queue, the time base, every setting, the
corridor ports and the outcome queue. -/
structure Outer where
  pending : List Instr
  time : Time
  approaches : Vector ApproachConfig 4
  routes : RouteTable
  classes : Vector Int 7
  policy : Policy
  pins : PinSettings
  identity : Byte
  mask : BitVec 19
  severity : BitVec 19
  enable : Bool
  settleTimeout : Nat
  enables : BitVec 7
  rx0 : Bool × LineRate
  rx1 : Bool × LineRate
  linkA : CorridorPort
  linkB : CorridorPort
  outcomes : List OutcomeRecord

/-- What stands outside, of a state. -/
def State.outer (s : State) : Outer :=
  { pending := s.pending, time := s.time, approaches := s.approaches, routes := s.routes, classes := s.classes
    policy := s.policy, pins := s.pins, identity := s.identity, mask := s.faults.mask, severity := s.faults.severity
    enable := s.containment.enable, settleTimeout := s.containment.settleTimeout, enables := s.port.enables
    rx0 := s.rx0.setting, rx1 := s.rx1.setting, linkA := s.linkA, linkB := s.linkB, outcomes := s.port.outcomes }

/-- What lasts of what stands outside. -/
def Outer.lasting (o : Outer) : Lasting :=
  { pending := o.pending, time := o.time, approaches := o.approaches, routes := o.routes, classes := o.classes
    policy := o.policy, pins := o.pins, identity := o.identity, mask := o.mask, severity := o.severity
    enable := o.enable, settleTimeout := o.settleTimeout, enables := o.enables, rx0 := o.rx0, rx1 := o.rx1
    linkA := o.linkA.wiring, linkB := o.linkB.wiring }

/-- What lasts of a state. -/
def State.lasting (s : State) : Lasting := s.outer.lasting

theorem State.lasting_of_outer {s t : State} (h : t.outer = s.outer) : t.lasting = s.lasting :=
  congrArg Outer.lasting h

/-! ## Shared operations -/

theorem State.setRx_outer (s : State) {r : RxId} {x : RxLink} (h : x.setting = (s.rx r).setting) :
    (s.setRx r x).outer = s.outer := by
  cases r <;> simp only [State.setRx, State.outer, h] <;> rfl

theorem State.setLink_lasting (s : State) {p : PortId} {x : CorridorPort} (h : x.wiring = (s.link p).wiring) :
    (s.setLink p x).lasting = s.lasting := by
  cases p <;> simp only [State.setLink, State.lasting, State.outer, Outer.lasting, h] <;> rfl

@[simp] theorem State.stopPass_outer (s : State) : s.stopPass.outer = s.outer := rfl
@[simp] theorem State.setEntry_outer (s : State) (i e) : (s.setEntry i e).outer = s.outer := rfl
@[simp] theorem State.setChannel_outer (s : State) (c x) : (s.setChannel c x).outer = s.outer := rfl
@[simp] theorem State.setLoop_outer (s : State) (a l) : (s.setLoop a l).outer = s.outer := rfl
@[simp] theorem State.raise_outer (s : State) (e) : (s.raise e).outer = s.outer := rfl
@[simp] theorem State.answer_outer (s : State) (c r d) : (s.answer c r d).outer = s.outer := rfl
@[simp] theorem State.endTransaction_outer (s : State) : s.endTransaction.outer = s.outer := rfl
@[simp] theorem State.itemEnds_outer (s : State) : s.itemEnds.outer = s.outer := rfl
@[simp] theorem State.completeLong_outer (s : State) (c r d) : (s.completeLong c r d).outer = s.outer := rfl

@[simp] theorem State.startPass_outer (s : State) : s.startPass.outer = s.outer := by
  rw [State.startPass_frame]; rfl

@[simp] theorem State.cause_outer (s : State) : s.cause.outer = s.outer := by
  rw [State.cause_frame]; rfl

@[simp] theorem State.causeIf_outer (s : State) (b : Bool) : (s.causeIf b).outer = s.outer := by
  rw [State.causeIf_frame]; rfl

@[simp] theorem State.endChannel_outer (s : State) (c : ChannelIx) (r : EndReason) :
    (s.endChannel c r).outer = s.outer := by
  rw [State.endChannel_frame]; rfl

@[simp] theorem State.endWhere_outer (s : State) (test reason) : (s.endWhere test reason).outer = s.outer := by
  have h := State.endWhere_frame s test reason
  unfold State.EndsOnly at h
  rw [h]; rfl

@[simp] theorem State.settleCounts_outer (s : State) (test) : (s.settleCounts test).outer = s.outer := by
  rw [State.settleCounts_frame]; rfl

@[simp] theorem State.shed_outer (s : State) (i : EntryIx) (e : Entry) : (s.shed i e).1.outer = s.outer := by
  rw [State.shed_frame]; rfl

/-- A trigger writes the containment state, never its settings. -/
@[simp] theorem State.trigger_outer (s : State) (x : ContainReason) : (s.trigger x).outer = s.outer := by
  unfold State.trigger
  split
  · exact (State.raise_outer _ _).trans (State.endWhere_outer _ _ _)
  · rfl

/-- An occurrence writes status, pointer and record, never mask or severity. -/
@[simp] theorem State.occur_outer (s : State) (k src v) : (s.occur k src v).outer = s.outer := by
  have recorded : ∀ f : FaultRecorder, (takePointer f k s.time src v).mask = f.mask ∧
      (takePointer f k s.time src v).severity = f.severity := by
    intro f
    unfold takePointer
    split <;> exact ⟨rfl, rfl⟩
  unfold State.occur
  simp only []
  split
  · rfl
  · split
    · rw [State.trigger_outer, State.raise_outer]
      simp only [State.outer, recorded]
    · rw [State.raise_outer]
      simp only [State.outer, recorded]

@[simp] theorem State.setEntry_lasting (s : State) (i e) : (s.setEntry i e).lasting = s.lasting :=
  State.lasting_of_outer (s.setEntry_outer i e)

@[simp] theorem State.cause_lasting (s : State) : (s.cause).lasting = s.lasting :=
  State.lasting_of_outer (s.cause_outer)

@[simp] theorem State.causeIf_lasting (s : State) (b) : (s.causeIf b).lasting = s.lasting :=
  State.lasting_of_outer (s.causeIf_outer b)

@[simp] theorem State.shed_lasting (s : State) (i e) : ((s.shed i e).1).lasting = s.lasting :=
  State.lasting_of_outer (s.shed_outer i e)

@[simp] theorem State.occur_lasting (s : State) (k src v) : (s.occur k src v).lasting = s.lasting :=
  State.lasting_of_outer (s.occur_outer k src v)

@[simp] theorem State.itemEnds_lasting (s : State) : (s.itemEnds).lasting = s.lasting :=
  State.lasting_of_outer (s.itemEnds_outer)

@[simp] theorem State.pushOutcome_lasting (s : State) (r : OutcomeRecord) : (s.pushOutcome r).lasting = s.lasting := by
  rw [State.pushOutcome_frame]; rfl

@[simp] theorem State.pushOutcomes_lasting (s : State) (rs : List OutcomeRecord) :
    (s.pushOutcomes rs).lasting = s.lasting := by
  rw [State.pushOutcomes_frame]; rfl

@[simp] theorem State.requestHandoff_lasting (s : State) (e : Entry) : (s.requestHandoff e).lasting = s.lasting := by
  unfold State.requestHandoff
  simp only []
  split
  · simp
  · split
    · simp
    · exact s.setLink_lasting rfl

@[simp] theorem State.closeEntry_lasting (s : State) (i : EntryIx) (e : Entry) (r : CloseReason) :
    (s.closeEntry i e r).lasting = s.lasting := by
  unfold State.closeEntry
  simp only []
  split <;> simp

end Sys2Proof.Machine
end

section
/-! PROOFS. What lasts, command by command (O2, O60). -/

namespace Sys2Proof.Machine

/-! ## The ways a command is taken -/

/-- A command taken in either command state: nothing while RST is low, a discarded one ends its transaction, and any
other is judged and answered. -/
theorem State.takeAlways_cases (s : State) (echo : Byte) (judge : State → Judged) :
    s.takeAlways echo judge = s ∨ s.takeAlways echo judge = s.endTransaction ∨
    s.takeAlways echo judge =
      (judge s.endTransaction).1.answer echo (judge s.endTransaction).2.1 (judge s.endTransaction).2.2 := by
  unfold State.takeAlways
  split
  · exact .inl rfl
  · split
    · exact .inr (.inl rfl)
    · exact .inr (.inr rfl)

/-- The same for a command that a running long command collides with (R173). -/
theorem State.take_cases (s : State) (echo : Byte) (judge : State → Judged) :
    s.take echo judge = s ∨ s.take echo judge = s.endTransaction ∨
    s.take echo judge = s.endTransaction.collide.1.answer echo .collided [] ∨
    s.take echo judge =
      (judge s.endTransaction).1.answer echo (judge s.endTransaction).2.1 (judge s.endTransaction).2.2 := by
  unfold State.take
  refine (s.takeAlways_cases echo _).imp_right (Or.imp_right fun h => ?_)
  rw [h]
  split
  · exact .inl rfl
  · exact .inr rfl

/-- The same for a long command (R172, R173). -/
theorem State.takeLong_cases (s : State) (echo : Byte) (accept : State → State) :
    s.takeLong echo accept = s ∨ s.takeLong echo accept = s.endTransaction ∨
    s.takeLong echo accept = s.endTransaction.collide.1.answer echo .collided [] ∨
    s.takeLong echo accept = accept s.endTransaction := by
  unfold State.takeLong
  split
  · exact .inl rfl
  · split
    · exact .inr (.inl rfl)
    · simp only []
      split
      · exact .inr (.inr (.inl rfl))
      · exact .inr (.inr (.inr rfl))

/-- An event: nothing while RST is low, else its effect. -/
theorem State.whenReleased_cases (s : State) (f : State → State) : s.whenReleased f = s ∨ s.whenReleased f = f s := by
  unfold State.whenReleased
  split
  · exact .inl rfl
  · exact .inr rfl

section Taken
variable {R : Lasting → Lasting → Prop} (refl : ∀ x, R x x)
include refl

theorem State.takeAlways_lasting (s : State) (echo : Byte) {judge : State → Judged}
    (h : ∀ u : State, R u.lasting (judge u).1.lasting) : R s.lasting (s.takeAlways echo judge).lasting := by
  rcases s.takeAlways_cases echo judge with e | e | e <;> rw [e]
  · exact refl _
  · exact refl _
  · exact h s.endTransaction

theorem State.take_lasting (s : State) (echo : Byte) {judge : State → Judged}
    (h : ∀ u : State, R u.lasting (judge u).1.lasting) : R s.lasting (s.take echo judge).lasting := by
  rcases s.take_cases echo judge with e | e | e | e <;> rw [e]
  · exact refl _
  · exact refl _
  · exact refl _
  · exact h s.endTransaction

theorem State.takeLong_lasting (s : State) (echo : Byte) {accept : State → State}
    (h : ∀ u : State, R u.lasting (accept u).lasting) : R s.lasting (s.takeLong echo accept).lasting := by
  rcases s.takeLong_cases echo accept with e | e | e | e <;> rw [e]
  · exact refl _
  · exact refl _
  · exact refl _
  · exact h s.endTransaction

theorem State.whenReleased_lasting (s : State) {f : State → State} (h : ∀ u : State, R u.lasting (f u).lasting) :
    R s.lasting (s.whenReleased f).lasting := by
  rcases s.whenReleased_cases f with e | e <;> rw [e]
  · exact refl _
  · exact h s

end Taken

/-! ## Events that no setting follows -/

theorem portStarted_wiring (x : CorridorPort) (t : Time) : (portStarted x t).wiring = x.wiring := by
  unfold portStarted
  split
  · rfl
  · split <;> rfl
  · split <;> rfl

theorem State.endStartUp_lasting (s : State) : s.endStartUp.lasting = s.lasting := by
  unfold State.endStartUp
  split
  · split
    · simp only [State.lasting, State.outer, Outer.lasting, portStarted_wiring]
    · rfl
  · rfl

theorem State.startTransaction_outer (s : State) : s.startTransaction.outer = s.outer := by
  unfold State.startTransaction
  split
  · rfl
  · split
    · rfl
    · unfold ControllerPort.chooseResponse
      split <;> rfl

theorem State.flushVisit_lasting (s : State) : s.flushVisit.lasting = s.lasting := by
  have progress : ∀ (u : State) i n, (u.flushProgress i n).lasting = u.lasting := by
    intro u i n
    unfold State.flushProgress
    split <;> rfl
  unfold State.flushVisit
  split
  · split
    · rw [progress, State.closeEntry_lasting]
    · rw [progress]
  · rfl

theorem State.finishValidation_outer (s : State) : s.finishValidation.outer = s.outer := by
  unfold State.finishValidation
  split
  · split <;> rfl
  · rfl

/-! ### Receive links -/

theorem State.framingError_outer (s : State) (r : RxId) : (s.framingError r).outer = s.outer :=
  (State.occur_outer _ _ _ _).trans (s.setRx_outer rfl)

theorem State.judgeFrame_outer (s : State) (r : RxId) (bs : List Byte) : (s.judgeFrame r bs).outer = s.outer := by
  have hunts : (s.setRx r (hunting (s.rx r))).outer = s.outer := s.setRx_outer rfl
  unfold State.judgeFrame State.offerFrame
  simp only []
  split
  · split
    · refine (State.setRx_outer _ ?_).trans hunts
      rfl
    · exact (State.occur_outer _ _ _ _).trans hunts
  · exact (State.occur_outer _ _ _ _).trans hunts

theorem State.goodCharacter_outer (s : State) (r : RxId) (b : Byte) : (s.goodCharacter r b).outer = s.outer := by
  unfold State.goodCharacter
  simp only []
  split
  · split
    · exact s.setRx_outer rfl
    · rfl
  · split
    · exact s.setRx_outer rfl
    · exact s.judgeFrame_outer r _

theorem State.receiveCharacter_outer (s : State) (r : RxId) (b : Byte) (stop : Bool) :
    (s.receiveCharacter r b stop).outer = s.outer := by
  have idles : (s.setRx r { s.rx r with line := .idle }).outer = s.outer := s.setRx_outer rfl
  unfold State.receiveCharacter State.character
  simp only []
  split
  · rfl
  · split
    · exact (State.goodCharacter_outer _ r b).trans idles
    · split
      · exact (State.framingError_outer _ r).trans idles
      · refine (State.setRx_outer _ ?_).trans idles
        rfl

theorem State.receiveBreak_outer (s : State) (r : RxId) : (s.receiveBreak r).outer = s.outer := by
  unfold State.receiveBreak
  simp only []
  split
  · exact s.setRx_outer rfl
  · rfl

theorem State.receiveGap_outer (s : State) (r : RxId) : (s.receiveGap r).outer = s.outer := by
  unfold State.receiveGap
  simp only []
  split
  · exact s.framingError_outer r
  · rfl

theorem State.undecidedHigh_outer (s : State) (r : RxId) : (s.undecidedHigh r).outer = s.outer := by
  unfold State.undecidedHigh
  simp only []
  split
  · exact (State.framingError_outer _ r).trans (s.setRx_outer rfl)
  · rfl

/-! ### Intake and the table -/

theorem State.intakeTake_lasting (s : State) : s.intakeTake.lasting = s.lasting := by
  have takes : ∀ src, (s.takeFrom src).lasting = s.lasting := by
    intro src
    unfold State.takeFrom
    split
    · split
      · exact State.lasting_of_outer (s.setRx_outer rfl)
      · rfl
    · split
      · exact s.setLink_lasting rfl
      · rfl
    · split <;> rfl
  unfold State.intakeTake
  split
  · rfl
  · split
    · exact takes _
    · rfl

theorem State.makePlace_lasting {s t : State} {level : Nat} {i : EntryIx} (h : s.makePlace level = some (t, i)) :
    t.lasting = s.lasting := by
  unfold State.makePlace at h
  split at h
  · cases h; rfl
  · split at h
    · cases h; simp
    · cases h

theorem State.reportLevel_outer (s : State) (e : Entry) : (s.reportLevel e).outer = s.outer := by
  unfold State.reportLevel
  split
  · split <;> rfl
  · rfl

theorem State.updateEntry_outer (s : State) (i : EntryIx) (e : Entry) (r : Report) (level : Nat) (w : Time × Time) :
    (s.updateEntry i e r level w).outer = s.outer := by
  unfold State.updateEntry
  simp only [State.cause_outer, State.causeIf_outer, State.reportLevel_outer, State.setEntry_outer]
  split
  · exact s.shed_outer i e
  · rfl

theorem State.createEntry_lasting (s : State) (r : Report) (level : Nat) (w : Time × Time) :
    (s.createEntry r level w).lasting = s.lasting := by
  unfold State.createEntry
  split
  · rename_i h
    simp [State.makePlace_lasting h]
  · simp

theorem State.applyReport_lasting (s : State) (r : Report) (cfg routes classes) :
    (s.applyReport r cfg routes classes).lasting = s.lasting := by
  unfold State.applyReport
  simp only []
  split
  · simp
  · split
    · exact State.lasting_of_outer (s.updateEntry_outer ..)
    · exact s.createEntry_lasting ..

theorem State.radioFrameApplication_lasting (s : State) : s.radioFrameApplication.lasting = s.lasting := by
  unfold State.radioFrameApplication State.applyRadio State.judgeReport
  split
  · split
    · rfl
    · split
      · simp
      · split
        · split <;> simp
        · rfl
        · split <;> simp [State.applyReport_lasting]
        · simp [State.applyReport_lasting]
  · rfl

theorem State.judgeHandoff_lasting (s : State) (p m sender) : (s.judgeHandoff p m sender).1.lasting = s.lasting := by
  unfold State.judgeHandoff State.createHandoff
  split
  · rfl
  · split
    · rfl
    · split
      · rfl
      · split
        · rename_i h
          simp [State.makePlace_lasting h]
        · rfl

theorem State.enqueueAck_lasting (s : State) (p id r broken) : (s.enqueueAck p id r broken).lasting = s.lasting := by
  unfold State.enqueueAck
  simp only []
  split
  · rfl
  · exact s.setLink_lasting rfl

theorem State.handoffJudgement_lasting (s : State) : s.handoffJudgement.lasting = s.lasting := by
  unfold State.handoffJudgement
  split
  · simp only [State.enqueueAck_lasting, State.judgeHandoff_lasting, State.itemEnds_lasting]
  · rfl

theorem State.loopItem_lasting (s : State) : s.loopItem.lasting = s.lasting := by
  unfold State.loopItem
  split
  · simp only []
    split <;> simp
  · rfl

theorem State.staleExpiry_outer (s : State) (i : EntryIx) : (s.staleExpiry i).outer = s.outer := by
  unfold State.staleExpiry
  split
  · split <;> rfl
  · rfl

theorem State.unconfirmedExpiry_outer (s : State) (i : EntryIx) : (s.unconfirmedExpiry i).outer = s.outer := by
  unfold State.unconfirmedExpiry
  split
  · split <;> rfl
  · rfl

theorem State.closeIf_lasting (s : State) (i : EntryIx) (test r) : (s.closeIf i test r).lasting = s.lasting := by
  unfold State.closeIf
  split
  · split <;> simp
  · rfl

theorem State.staleCheck_lasting (s : State) : s.staleCheck.lasting = s.lasting := by
  unfold State.staleCheck
  split
  · split
    · exact State.closeIf_lasting _ _ _ _
    · rfl
  · rfl

theorem State.expiryCheck_lasting (s : State) : s.expiryCheck.lasting = s.lasting := by
  unfold State.expiryCheck
  split
  · split
    · exact State.closeIf_lasting _ _ _ _
    · rfl
  · rfl

/-! ### Loops and the tracker -/

theorem State.loopActivation_outer (s : State) (a : Approach) : (s.loopActivation a).outer = s.outer := by
  unfold State.loopActivation
  simp only []
  split
  · split <;> rfl
  · rfl

theorem State.loopClear_outer (s : State) (a : Approach) : (s.loopClear a).outer = s.outer := by
  unfold State.loopClear
  simp only []
  split
  · split <;> rfl
  · rfl

theorem State.checkoutStuck_outer (s : State) (a : Approach) : (s.checkoutStuck a).outer = s.outer := by
  unfold State.checkoutStuck
  simp only []
  split
  · simp
  · rfl

theorem State.leaveInStep_outer (s : State) (k : FaultKind) : (s.leaveInStep k).outer = s.outer := by
  unfold State.leaveInStep
  simp only [State.occur_outer, State.endWhere_outer, State.stopPass_outer]
  exact s.settleCounts_outer _

theorem State.observeBoundary_outer (s : State) : s.observeBoundary.outer = s.outer := by
  unfold State.observeBoundary
  split <;> rfl

theorem State.boundary_outer (s : State) (p t last) : (s.boundary p t last).outer = s.outer := by
  have whole : ((State.onsetOfSlot (State.cause { s with
      tracker := .inStep { cur := 0, period := .green, onset := t, lastBoundary := t }
      account := accountBoundary s.account s.policy }) 0).observeBoundary).outer = s.outer := by
    simp only [State.observeBoundary_outer, State.onsetOfSlot, State.endWhere_outer, State.cause_outer]
    rfl
  unfold State.boundary
  simp only []
  split
  · split
    · exact (State.occur_outer _ _ _ _).trans whole
    · exact whole
  · exact whole

theorem State.adopt_outer (s : State) (p t) : (s.adopt p t).outer = s.outer := by
  have settles := s.settleCounts_outer fun _ => true
  unfold State.adopt State.endAll
  generalize (s.settleCounts fun _ => true) = u at settles ⊢
  have ends := (State.endWhere_outer { u with
    plans := { active := some p, staged := none }
    tracker := .inStep { cur := 0, period := .green, onset := t, lastBoundary := t } } (fun _ _ => true)
    fun _ => .planChange).trans settles
  simp only [State.raise_outer, State.observeBoundary_outer, State.cause_outer]
  generalize State.endWhere _ _ _ = w at ends ⊢
  exact ends

theorem State.moveTo_outer (s : State) (r k t) : (s.moveTo r k t).outer = s.outer := by
  unfold State.moveTo State.onsetOfSlot
  simp only [State.endWhere_outer, State.cause_outer]
  rfl

theorem State.judgeOnset_outer (s : State) (ph t) : (s.judgeOnset ph t).outer = s.outer := by
  have follows : ∀ r p, (s.onsetFollow r p ph t).outer = s.outer := by
    intro r p
    unfold State.onsetFollow
    split
    · exact s.leaveInStep_outer _
    · split
      · exact s.boundary_outer ..
      · split
        · exact s.moveTo_outer ..
        · exact s.leaveInStep_outer _
  unfold State.judgeOnset State.conflict State.onsetNoPlan State.onsetUnsynced State.onsetInStep
  split
  · split
    · exact s.leaveInStep_outer _
    · simp
  · split
    · split
      · exact s.adopt_outer ..
      · simp
    · split
      · exact s.adopt_outer ..
      · split
        · split
          · exact s.boundary_outer ..
          · rfl
        · rfl
    · split
      · rfl
      · split
        · split
          · exact s.adopt_outer ..
          · exact follows _ _
        · exact follows _ _

theorem State.judgeDrop_outer (s : State) (ph t) : (s.judgeDrop ph t).outer = s.outer := by
  have drops : ∀ (u : State) k, (u.dropOfSlot k).outer = u.outer := by
    intro u k
    have ends := (State.endWhere_outer (u.settleCounts fun l => decide (l.slot = k))
      (fun _ l => isExtend l && decide (l.slot = k)) fun _ => .greenEnded).trans (u.settleCounts_outer _)
    unfold State.dropOfSlot
    simp only []
    generalize ((u.settleCounts fun l => decide (l.slot = k)).endWhere
      (fun _ l => isExtend l && decide (l.slot = k)) fun _ => .greenEnded) = w at ends ⊢
    exact ends
  unfold State.judgeDrop
  split
  · split
    · rw [drops, State.cause_outer]
      rfl
    · rfl
  · rfl

theorem State.takeChange_outer (s : State) (ph level) {judge : State → Time → State}
    (h : ∀ (u : State) t, (judge u t).outer = u.outer) : (s.takeChange ph level judge).outer = s.outer := by
  unfold State.takeChange
  simp only []
  split
  · split
    · rfl
    · exact h _ _
  · rfl

/-! ### The engine and the channels -/

theorem State.endPass_outer (s : State) : s.endPass.outer = s.outer := by
  unfold State.endPass
  simp only []
  split
  · exact State.startPass_outer _
  · rfl

theorem State.raiseGranted_outer (n : Nat) (s : State) (i : EntryIx) : (State.raiseGranted n s i).outer = s.outer := by
  unfold State.raiseGranted
  split <;> rfl

theorem State.topUp_outer (s : State) (f c l n) : (s.topUp f c l n).outer = s.outer :=
  foldl_keeps (fun a b : State => b.outer = a.outer) (fun _ => rfl) (fun _ _ _ h g => g.trans h)
    (State.raiseGranted n) (fun u i => State.raiseGranted_outer n u i) _ _

theorem State.join_outer (s : State) (f i e c n) : (s.join f i e c n).outer = s.outer := by
  have adds : ∀ u : State, (u.addRider c i e).outer = u.outer := by
    intro u
    unfold State.addRider
    split <;> rfl
  unfold State.join
  split
  · rfl
  · rw [adds]
    split
    · rfl
    · exact s.topUp_outer ..

theorem State.grant_outer (s : State) (f c i e p cause) : (s.grant f c i e p cause).outer = s.outer := rfl

theorem State.deny_outer (s : State) (i e d w) : (s.deny i e d w).outer = s.outer := rfl

theorem State.allot_outer (s : State) (f i e j p) : (s.allot f i e j p).outer = s.outer := by
  unfold State.allot
  split
  · rfl
  · simp only []
    split
    · rfl
    · split
      · rfl
      · split
        · rw [State.grant_outer, State.endChannel_outer]
        · rfl

theorem State.clearTheWay_outer (s : State) (f i e j d w) : (s.clearTheWay f i e j d w).outer = s.outer := by
  unfold State.clearTheWay
  simp only []
  split
  · rfl
  · split
    · rw [State.grant_outer, State.endWhere_outer]
    · rfl

theorem State.turn_outer (s : State) (f i v) : (s.turn f i v).outer = s.outer := by
  unfold State.turn State.fullTurn State.topUpTurn
  split
  · rfl
  · split
    · rfl
    · split
      · split
        · split
          · simp only []
            split
            · rfl
            · split
              · rfl
              · exact s.topUp_outer ..
          · rfl
        · rfl
      · simp only []
        split
        · split
          · exact s.clearTheWay_outer ..
          · rfl
        · rfl
        · exact s.join_outer ..
        · exact s.allot_outer ..
        · rfl

theorem State.takeTurn_outer (s : State) : s.takeTurn.outer = s.outer := by
  unfold State.takeTurn
  split
  · rfl
  · rfl
  · exact s.endPass_outer
  · split
    · rfl
    · simp only []
      split
      · exact (State.endPass_outer _).trans (State.turn_outer _ _ _ _)
      · exact State.turn_outer _ _ _ _

theorem State.startExtension_outer (s : State) (c) : (s.startExtension c).outer = s.outer := by
  unfold State.startExtension
  split
  · split
    · split <;> rfl
    · rfl
  · rfl

theorem State.completeExtension_outer (s : State) (c) : (s.completeExtension c).outer = s.outer := by
  unfold State.completeExtension
  split
  · split <;> simp
  · rfl

theorem State.missAdvance_outer (s : State) (c) : (s.missAdvance c).outer = s.outer := by
  unfold State.missAdvance
  split
  · split
    · rfl
    · split <;> simp
    · rfl
  · rfl

/-! ### Override -/

theorem State.activate_outer (s : State) : s.activate.outer = s.outer :=
  s.settleCounts_outer _

theorem State.formOverride_outer (s : State) : s.formOverride.outer = s.outer := by
  unfold State.formOverride
  split
  · split
    · exact s.activate_outer
    · rfl
  · split <;> rfl
  · split
    · exact s.activate_outer
    · rfl

theorem State.changeOverrideLevel_outer (s : State) : s.changeOverrideLevel.outer = s.outer := by
  unfold State.changeOverrideLevel
  split
  · exact State.formOverride_outer _
  · rfl

theorem State.judgeHold_outer (s : State) (b) : (s.judgeHold b).1.outer = s.outer := by
  unfold State.judgeHold
  split
  · rfl
  · simp only [okWith]
    split
    · rfl
    · exact State.formOverride_outer _

theorem State.expireSuspension_outer (s : State) : s.expireSuspension.outer = s.outer := by
  have ends := s.endWhere_outer (fun _ l => isSuspended l) fun _ => .overrideLong
  unfold State.expireSuspension
  split
  · split
    · simp only []
      generalize State.endWhere _ _ _ = w at ends ⊢
      exact ends
    · rfl
  · rfl

theorem State.visitChannel_outer (s : State) (c) : (s.visitChannel c).outer = s.outer := by
  unfold State.visitChannel State.resumeExtend State.resumeAdvance
  split
  · split
    · split
      · rfl
      · simp
    · split
      · simp
      · rfl
    · rfl
  · rfl

theorem State.resumeVisit_outer (s : State) : s.resumeVisit.outer = s.outer := by
  unfold State.resumeVisit
  split
  · rename_i c _
    have visited := s.visitChannel_outer c
    simp only []
    generalize s.visitChannel c = u at visited ⊢
    split
    · rw [State.finishResume, State.raise_outer, State.cause_outer]
      exact visited
    · exact visited
  · rfl

/-! ### Corridor ports -/

theorem State.beginPoll_lasting (s : State) (p) : (s.beginPoll p).lasting = s.lasting := by
  unfold State.beginPoll
  simp only []
  split
  · split
    · exact s.setLink_lasting rfl
    · rfl
  · rfl

theorem State.beginReply_lasting (s : State) (p) : (s.beginReply p).lasting = s.lasting := by
  unfold State.beginReply
  simp only []
  split
  · exact s.setLink_lasting rfl
  · rfl

theorem State.closeWindow_lasting (s : State) (p) : (s.closeWindow p).lasting = s.lasting := by
  unfold State.closeWindow State.countMiss State.loseLink
  simp only []
  split
  · split
    · split
      · exact (State.occur_lasting _ _ _ _).trans (s.setLink_lasting rfl)
      · exact s.setLink_lasting rfl
    · rfl
  · rfl

theorem State.silence_lasting (s : State) (p) : (s.silence p).lasting = s.lasting := by
  unfold State.silence State.loseLink
  simp only []
  split
  · split
    · exact (State.occur_lasting _ _ _ _).trans (s.setLink_lasting rfl)
    · rfl
  · rfl

theorem State.endAwaiting_lasting (s : State) (p i r) : (s.endAwaiting p i r).lasting = s.lasting :=
  (State.pushOutcome_lasting _ _).trans (s.setLink_lasting rfl)

theorem State.takeMessage_lasting (s : State) (p f) : (s.takeMessage p f).lasting = s.lasting := by
  unfold State.takeMessage State.takeHandoff State.takeAck
  simp only []
  split
  · rfl
  · split
    · exact s.setLink_lasting rfl
    · rfl
  · split
    · exact s.endAwaiting_lasting ..
    · rfl

theorem State.actOn_lasting (s : State) (p f) : (s.actOn p f).lasting = s.lasting := by
  unfold State.actOn
  simp only []
  split
  · exact s.setLink_lasting rfl
  · split
    · exact (State.occur_lasting _ _ _ _).trans (s.setLink_lasting rfl)
    · split
      · exact (State.takeMessage_lasting _ _ _).trans (s.setLink_lasting rfl)
      · exact s.setLink_lasting rfl
    · exact (State.takeMessage_lasting _ _ _).trans (s.setLink_lasting rfl)
    · exact s.setLink_lasting rfl
    · exact s.setLink_lasting rfl

theorem State.receive_lasting (s : State) (p bs) : (s.receive p bs).lasting = s.lasting := by
  unfold State.receive
  split
  · rfl
  · split
    · rfl
    · exact State.occur_lasting _ _ _ _
    · exact (State.occur_lasting _ _ _ _).trans (s.setLink_lasting rfl)
    · exact s.actOn_lasting p _

theorem State.cutFrame_outer (s : State) (p) : (s.cutFrame p).outer = s.outer := by
  unfold State.cutFrame State.discardFrame
  split <;> simp

theorem State.deadline_lasting (s : State) (p id) : (s.deadline p id).lasting = s.lasting := by
  unfold State.deadline
  split
  · split
    · exact s.endAwaiting_lasting ..
    · rfl
  · rfl

theorem withRoleWritten_wiring (x : CorridorPort) (t : Time) : (withRoleWritten x t).wiring = x.wiring := by
  unfold withRoleWritten
  split <;> rfl

theorem State.roleWrite_lasting (s : State) (p) : (s.roleWrite p).lasting = s.lasting :=
  (State.pushOutcomes_lasting _ _).trans (s.setLink_lasting (withRoleWritten_wiring _ _))

theorem State.breakReset_lasting (s : State) (p) : (s.breakReset p).lasting = s.lasting := by
  have empties : ((State.setLink { s with intake := { s.intake with item := s.intake.item.map (markBroken p) } } p
      (brokenPort (s.link p))).pushOutcomes (breakRecords (s.link p) s.time)).lasting = s.lasting :=
    (State.pushOutcomes_lasting _ _).trans (State.setLink_lasting
      { s with intake := { s.intake with item := s.intake.item.map (markBroken p) } } (by cases p <;> rfl))
  unfold State.breakReset
  simp only []
  split
  · exact empties
  · exact (State.roleWrite_lasting _ p).trans empties

theorem State.receiveBreakAt_lasting (s : State) (p) : (s.receiveBreakAt p).lasting = s.lasting := by
  unfold State.receiveBreakAt
  split
  · exact s.breakReset_lasting p
  · rfl

theorem State.judgeLinkBreak_lasting (s : State) (b) : (s.judgeLinkBreak b).1.lasting = s.lasting := by
  unfold State.judgeLinkBreak State.startBreak
  split
  · split
    · rfl
    · simp only [okWith]
      split
      · exact s.setLink_lasting rfl
      · exact s.setLink_lasting rfl
  · rfl

theorem State.settleTimeout_outer (s : State) : s.settleTimeout.outer = s.outer := by
  unfold State.settleTimeout
  split
  · split <;> rfl
  · rfl

end Sys2Proof.Machine
end

section
/-! PROOFS. Which part of what lasts each command may change; queue and time (O2) and the settings (O60) follow. -/

namespace Sys2Proof.Machine

/-! ## Writes of a corridor port's settings -/

/-- The settings of a corridor port change at most to those of the last SET_LINK that waited. -/
def Rewires (x y : PortSettings × List PortSettings) : Prop := y.1 = x.1 ∨ x.2.getLast? = some y.1

/-- What lasts but for the corridor ports' settings, which change at most to those that waited. -/
def Lasting.Rewired (x y : Lasting) : Prop :=
  y = { x with linkA := y.linkA, linkB := y.linkB } ∧ Rewires x.linkA y.linkA ∧ Rewires x.linkB y.linkB

theorem Lasting.Rewired.refl (x : Lasting) : x.Rewired x := ⟨rfl, .inl rfl, .inl rfl⟩

theorem State.setLink_rewired (s : State) {p : PortId} {x : CorridorPort}
    (h : Rewires (s.link p).wiring x.wiring) : s.lasting.Rewired (s.setLink p x).lasting := by
  cases p
  · exact ⟨rfl, h, .inl rfl⟩
  · exact ⟨rfl, .inl rfl, h⟩

/-- A write puts its settings into the port's place. -/
theorem State.writeSettings_lasting (s : State) (p : PortId) (st : PortSettings) :
    (s.writeSettings p st).lasting = (s.setLink p { s.link p with settings := st }).lasting :=
  State.roleWrite_lasting _ p

theorem State.lasting_link {s t : State} (h : s.lasting = t.lasting) (p : PortId) :
    (s.link p).wiring = (t.link p).wiring := by
  cases p
  · exact congrArg Lasting.linkA h
  · exact congrArg Lasting.linkB h

theorem State.setLink_lasting_congr {s t : State} (h : s.lasting = t.lasting) {p : PortId} {x y : CorridorPort}
    (g : x.wiring = y.wiring) : (s.setLink p x).lasting = (t.setLink p y).lasting := by
  simp only [State.lasting, State.outer, Outer.lasting, Lasting.mk.injEq] at h
  cases p <;> simp only [State.setLink, State.lasting, State.outer, Outer.lasting, h, g]

/-- Writes made one after another leave the port with the last one's settings. -/
theorem State.writeAll_lasting (p : PortId) (sts : List PortSettings) (s : State) :
    (sts.foldl (fun t st => t.writeSettings p st) s).lasting =
      (s.setLink p { s.link p with settings := (sts.getLast?).getD (s.link p).settings }).lasting := by
  induction sts generalizing s with
  | nil => exact (s.setLink_lasting rfl).symm
  | cons st sts ih =>
    have written := s.writeSettings_lasting p st
    have wires := State.lasting_link written p
    rw [State.setLink_link_same] at wires
    rw [List.foldl_cons, ih]
    refine (State.setLink_lasting_congr written (y := { s.link p with
      settings := ((st :: sts).getLast?).getD (s.link p).settings }) ?_).trans ?_
    · simp only [CorridorPort.wiring, Prod.mk.injEq] at wires ⊢
      rw [List.getLast?_cons, wires.1, wires.2]
      exact ⟨rfl, rfl⟩
    · rw [State.setLink_setLink]

/-- The waiting writes made: settings that waited, or the old ones where none did. -/
theorem State.writeDeferred_rewired (s : State) (p : PortId) : s.lasting.Rewired (s.writeDeferred p).lasting := by
  unfold State.writeDeferred
  rw [State.writeAll_lasting, State.setLink_setLink, State.setLink_link_same]
  refine s.setLink_rewired ?_
  cases h : (s.link p).deferredWrites.getLast? with
  | none => exact .inl rfl
  | some st => exact .inr h

theorem State.endTransmission_rewired (s : State) (p : PortId) : s.lasting.Rewired (s.endTransmission p).lasting := by
  have begins : ∀ u : State, (u.beginWaitingBreak p).lasting = u.lasting := by
    intro u
    unfold State.beginWaitingBreak
    simp only []
    split
    · exact u.setLink_lasting rfl
    · rfl
  have sent : ∀ f, (frameSent (s.link p) f s.time).wiring = (s.link p).wiring := by
    intro f
    unfold frameSent messageSent
    split <;> split <;> rfl
  unfold State.endTransmission
  simp only []
  split
  · rw [begins, ← s.setLink_lasting (sent _)]
    exact State.writeDeferred_rewired _ p
  · exact .refl _

theorem State.endBreak_rewired (s : State) (p : PortId) : s.lasting.Rewired (s.endBreak p).lasting := by
  have listens : (s.setLink p { s.link p with line := .listening }).lasting = s.lasting := s.setLink_lasting rfl
  unfold State.endBreak
  simp only []
  split
  · rw [← listens]
    split
    · exact State.writeDeferred_rewired _ p
    · rw [← State.breakReset_lasting _ p]
      exact State.writeDeferred_rewired _ p
  · exact .refl _

theorem State.resetPort_rewired (s : State) (p : PortId) : s.lasting.Rewired (s.resetPort p).lasting := by
  have rewires : Rewires (s.link p).wiring
      (portReset (s.link p) (Config.cutWriteTakesEffect s.freeIndex) s.time).wiring := by
    rw [portReset, withRoleWritten_wiring]
    unfold settingsAfterCut
    split
    · rename_i h
      split
      · exact .inr h
      · exact .inl rfl
    · exact .inl rfl
  exact State.setLink_rewired { s with freeIndex := s.freeIndex + 1 } rewires

/-- One block's reset keeps every setting, but that a port's waiting SET_LINK may take effect (assumption 6). -/
theorem State.blockReset_rewired (s : State) (b : Block) : s.lasting.Rewired (s.blockReset b).lasting := by
  have progress : ∀ (u : State) left, (u.resetProgress left).lasting = u.lasting := by
    intro u left
    unfold State.resetProgress
    split <;> rfl
  unfold State.blockReset
  split
  · split
    · rw [progress]
      cases b with
      | link p => exact s.resetPort_rewired p
      | rx r =>
        rw [show (s.resetBlock (.rx r)).lasting = s.lasting from State.lasting_of_outer (s.setRx_outer rfl)]
        exact .refl _
      | intake => exact .refl _
      | table => exact .refl _
      | tracker => exact .refl _
      | engine => exact .refl _
      | channels => exact .refl _
      | overrideMonitor => exact .refl _
      | faults => exact .refl _
    · exact .refl _
  · exact .refl _

/-! ## What each command may change -/

/-- What lasts of x, with the part a command may change taken from y: its own settings, and nothing else. -/
def ownPart (c : Instr) (x y : Lasting) : Lasting :=
  match c with
  | .timeBaseDecisecond _ _ _ => { x with time := y.time }
  | .setApproach _ _ _ _ _ _ => { x with approaches := y.approaches }
  | .setRoute _ _ _ _ => { x with routes := y.routes }
  | .setClass _ => { x with classes := y.classes }
  | .setPolicy _ _ _ _ _ _ _ _ => { x with policy := y.policy }
  | .setPins _ _ _ _ _ => { x with pins := y.pins }
  | .setIdent _ => { x with identity := y.identity }
  | .setFaultControl _ _ _ _ =>
    { x with mask := y.mask, severity := y.severity, enable := y.enable, settleTimeout := y.settleTimeout }
  | .setEvents _ => { x with enables := y.enables }
  | .setLink _ _ _ _ _ _ _ _ _ _ => { x with rx0 := y.rx0, rx1 := y.rx1, linkA := y.linkA, linkB := y.linkB }
  | .transmissionEnd _ => { x with linkA := y.linkA, linkB := y.linkB }
  | .breakSendEnd _ => { x with linkA := y.linkA, linkB := y.linkB }
  | .blockReset _ => { x with linkA := y.linkA, linkB := y.linkB }
  | _ => x

/-- No command changes the queue, and while RST is high a command changes its own part alone, and but for SET_LINK a
port's settings only to those that waited. -/
def MayChange (c : Instr) (x y : Lasting) : Prop :=
  y.pending = x.pending ∧ ((∀ a b, c ≠ .powerOnReset a b) → c ≠ .rstLow → y = ownPart c x y ∧
    ((∀ a b d e f g h i j k, c ≠ .setLink a b d e f g h i j k) → Rewires x.linkA y.linkA ∧ Rewires x.linkB y.linkB))

theorem ownPart_pending (c : Instr) (x y : Lasting) : (ownPart c x y).pending = x.pending := by
  unfold ownPart
  split <;> rfl

theorem MayChange.of_same {c : Instr} {x y : Lasting} (h : y = x) : MayChange c x y := by
  subst h
  refine ⟨rfl, fun _ _ => ⟨?_, fun _ => ⟨.inl rfl, .inl rfl⟩⟩⟩
  unfold ownPart
  split <;> rfl

theorem MayChange.refl {c : Instr} (x : Lasting) : MayChange c x x := .of_same rfl

theorem MayChange.of_links {c : Instr} {x y : Lasting} (h : y = ownPart c x y)
    (g : (∀ a b d e f g h i j k, c ≠ .setLink a b d e f g h i j k) → Rewires x.linkA y.linkA ∧ Rewires x.linkB y.linkB) :
    MayChange c x y :=
  ⟨(congrArg Lasting.pending h).trans (ownPart_pending c x y), fun _ _ => ⟨h, g⟩⟩

/-- A command whose own part holds no port's settings. -/
theorem MayChange.of_own {c : Instr} {x y : Lasting} (h : y = ownPart c x y) (ha : (ownPart c x y).linkA = x.linkA)
    (hb : (ownPart c x y).linkB = x.linkB) : MayChange c x y :=
  .of_links h fun _ => ⟨.inl (by rw [h, ha]), .inl (by rw [h, hb])⟩

theorem State.judgeApproach_lasting (s : State) (a cfg) :
    (s.judgeApproach a cfg).1.lasting = { s.lasting with approaches := (s.judgeApproach a cfg).1.approaches } := by
  unfold State.judgeApproach State.writeApproach
  split
  · split
    · rfl
    · simp only [okWith]
      split <;> rfl
  · rfl

theorem State.judgeRoute_lasting (s : State) (x) :
    (s.judgeRoute x).1.lasting = { s.lasting with routes := (s.judgeRoute x).1.routes } := by
  unfold State.judgeRoute
  split
  · rfl
  · split <;> rfl

theorem State.judgeClass_lasting (s : State) (x) :
    (s.judgeClass x).1.lasting = { s.lasting with classes := (s.judgeClass x).1.classes } := by
  unfold State.judgeClass
  split <;> rfl

theorem State.judgePolicy_lasting (s : State) (a b c d e f g h) : (s.judgePolicy a b c d e f g h).1.lasting =
    { s.lasting with policy := (s.judgePolicy a b c d e f g h).1.lasting.policy } := by
  unfold State.judgePolicy
  split
  · rfl
  · simp only [okWith, State.cause_lasting]
    rfl

theorem State.judgePins_lasting (s : State) (x) :
    (s.judgePins x).1.lasting = { s.lasting with pins := (s.judgePins x).1.pins } := by
  unfold State.judgePins
  split <;> rfl

theorem State.judgeFaultControl_lasting (s : State) (m v e t) :
    let y := (s.judgeFaultControl m v e t).1.lasting
    y = { s.lasting with mask := y.mask, severity := y.severity, enable := y.enable, settleTimeout := y.settleTimeout } := by
  unfold State.judgeFaultControl
  split <;> rfl

theorem releasePointer_maps (f : FaultRecorder) (m : BitVec 19) :
    (releasePointer f m).mask = f.mask ∧ (releasePointer f m).severity = f.severity := by
  unfold releasePointer
  split
  · split <;> exact ⟨rfl, rfl⟩
  · exact ⟨rfl, rfl⟩

theorem State.clearFaults_lasting (s : State) (m : BitVec 24) :
    State.lasting { s with faults := faultsCleared s.faults (mapOf m) } = s.lasting := by
  have maps := releasePointer_maps { s.faults with status := s.faults.status &&& ~~~mapOf m } (mapOf m)
  unfold faultsCleared
  generalize releasePointer _ _ = f at maps ⊢
  simp only [State.lasting, State.outer, Outer.lasting, maps]

theorem State.judgeSetLink_lasting (s : State) (b rx port) :
    let y := (s.judgeSetLink b rx port).1.lasting
    y = { s.lasting with rx0 := y.rx0, rx1 := y.rx1, linkA := y.linkA, linkB := y.linkB } := by
  have links : ∀ p x, (s.setLink p x).lasting = { s.lasting with
      rx0 := (s.setLink p x).lasting.rx0, rx1 := (s.setLink p x).lasting.rx1
      linkA := (s.setLink p x).lasting.linkA, linkB := (s.setLink p x).lasting.linkB } := by
    intro p x
    cases p <;> rfl
  have receivers : ∀ (u : State) r x, u.lasting = s.lasting → (u.setRx r x).lasting = { s.lasting with
      rx0 := (u.setRx r x).lasting.rx0, rx1 := (u.setRx r x).lasting.rx1
      linkA := (u.setRx r x).lasting.linkA, linkB := (u.setRx r x).lasting.linkB } := by
    intro u r x h
    rw [← h]
    cases r <;> rfl
  unfold State.judgeSetLink
  split
  · rfl
  · unfold State.judgePortSettings
    split
    · rfl
    · split
      · simp only [okWith, State.writePort]
        split
        · rw [State.writeSettings_lasting]
          exact links _ _
        · exact links _ _
      · rfl
  · split
    · simp only [okWith, State.writeRx]
      split
      · rfl
      · exact receivers { s with freeIndex := s.freeIndex + 1 } _ _ rfl
    · rfl

theorem State.judgeContain_outer (s : State) : s.judgeContain.1.outer = s.outer := by
  unfold State.judgeContain
  split
  · exact s.trigger_outer _
  · rfl

theorem State.judgeRelease_outer (s : State) : s.judgeRelease.1.outer = s.outer := by
  unfold State.judgeRelease
  split
  · rfl
  · rfl
  · split
    · rfl
    · exact State.cause_outer { s with containment := { s.containment with state := .normal } }

theorem State.judgeForce_outer (s : State) (a b n) : (s.judgeForce a b n).1.outer = s.outer := by
  unfold State.judgeForce State.forceEntry
  split
  · split
    · rfl
    · split
      · rfl
      · split
        · rfl
        · split
          · rfl
          · split <;> rfl
  · rfl

theorem State.judgeCancel_outer (s : State) (b) : (s.judgeCancel b).1.outer = s.outer := by
  unfold State.judgeCancel
  split
  · rfl
  · split
    · rfl
    · exact s.endChannel_outer _ _

theorem State.judgeReadLink_lasting (s : State) (b) : (s.judgeReadLink b).1.lasting = s.lasting := by
  unfold State.judgeReadLink
  split
  · exact s.setLink_lasting rfl
  · rfl
  · rfl

theorem State.judgePop_lasting (s : State) (b) : (s.judgePop b).1.lasting = s.lasting := by
  unfold State.judgePop
  split <;> rfl

/-- Every command changes at most its own part of what lasts. -/
theorem exec_mayChange {c : Instr} {s t : State} (h : exec c s = .next t) : MayChange c s.lasting t.lasting := by
  have inner {c} {f : State → State} (g : ∀ u : State, (f u).outer = u.outer) :
      MayChange c s.lasting (s.whenReleased f).lasting :=
    s.whenReleased_lasting MayChange.refl fun u => .of_same (State.lasting_of_outer (g u))
  have judged {c} (echo : Byte) {judge : State → Judged} (g : ∀ u : State, (judge u).1.outer = u.outer) :
      MayChange c s.lasting (s.take echo judge).lasting :=
    s.take_lasting MayChange.refl echo fun u => .of_same (State.lasting_of_outer (g u))
  have event {c} {f : State → State} (g : ∀ u : State, (f u).lasting = u.lasting) :
      MayChange c s.lasting (s.whenReleased f).lasting :=
    s.whenReleased_lasting MayChange.refl fun u => .of_same (g u)
  have taken {c} (echo : Byte) {judge : State → Judged} (g : ∀ u : State, (judge u).1.lasting = u.lasting) :
      MayChange c s.lasting (s.take echo judge).lasting :=
    s.take_lasting MayChange.refl echo fun u => .of_same (g u)
  cases c <;> cases h
  case powerOnReset a b => exact ⟨rfl, fun notPower => absurd rfl (notPower a b)⟩
  case rstLow => exact ⟨rfl, fun _ notLow => absurd rfl notLow⟩
  case startUpIntervalEnd => exact event State.endStartUp_lasting
  case transactionStart => exact inner State.startTransaction_outer
  case badCommand => exact s.takeAlways_lasting (judge := fun s => refuse s .badCommand) MayChange.refl _ fun _ => .of_same rfl
  case null => exact event fun _ => rfl
  case readStatus =>
    exact s.takeAlways_lasting (judge := fun s => okWith s.statusRead s.statusRecord) MayChange.refl _ fun _ => .of_same rfl
  case readEntry b =>
    refine taken _ fun u => ?_
    unfold State.judgeReadEntry
    split <;> rfl
  case readChannel b =>
    refine taken _ fun u => ?_
    unfold State.judgeReadChannel
    split <;> rfl
  case readPhase => exact taken _ (judge := fun s => okWith s s.phaseRecord) fun _ => rfl
  case readLink b => exact taken _ fun u => u.judgeReadLink_lasting b
  case readFault => exact taken _ (judge := fun s => okWith s s.faultRecordBytes) fun _ => rfl
  case popOutcomes b => exact taken _ fun u => u.judgePop_lasting b
  case clearFaults m => exact taken _ fun u => u.clearFaults_lasting m
  case setFaultControl m v e n =>
    exact s.take_lasting MayChange.refl _ fun u => .of_own (u.judgeFaultControl_lasting m v e n) rfl rfl
  case contain => exact judged _ State.judgeContain_outer
  case release => exact judged _ State.judgeRelease_outer
  case stagePlan => exact s.takeLong_lasting MayChange.refl _ fun _ => .of_same rfl
  case setApproach =>
    exact s.take_lasting MayChange.refl _ fun u => .of_own (u.judgeApproach_lasting _ _) rfl rfl
  case setRoute =>
    exact s.take_lasting MayChange.refl _ fun u => .of_own (u.judgeRoute_lasting _) rfl rfl
  case setClass =>
    exact s.take_lasting MayChange.refl _ fun u => .of_own (u.judgeClass_lasting _) rfl rfl
  case setPolicy =>
    exact s.take_lasting MayChange.refl _ fun u => .of_own (u.judgePolicy_lasting ..) rfl rfl
  case setLink =>
    exact s.take_lasting MayChange.refl _ fun u =>
      .of_links (u.judgeSetLink_lasting ..) fun notSetLink => absurd rfl (notSetLink _ _ _ _ _ _ _ _ _ _)
  case setIdent identity =>
    exact s.take_lasting MayChange.refl _ (judge := fun s => okWith { s with identity } [])
      fun _ => .of_own rfl rfl rfl
  case setPins =>
    exact s.take_lasting MayChange.refl _ fun u => .of_own (u.judgePins_lasting _) rfl rfl
  case setEvents enables =>
    exact s.take_lasting MayChange.refl _ (judge := fun s =>
      okWith { s with port := { s.port with enables := enables.extractLsb' 0 7 } } []) fun _ => .of_own rfl rfl rfl
  case linkBreak b => exact taken _ fun u => u.judgeLinkBreak_lasting b
  case forceGrant a b n => exact judged _ fun u => u.judgeForce_outer a b n
  case cancelChannel b => exact judged _ fun u => u.judgeCancel_outer b
  case overrideHoldSet b => exact judged _ fun u => u.judgeHold_outer b
  case overrideHoldClear => exact judged _ fun u => u.judgeHold_outer 0
  case flushTable => exact s.takeLong_lasting MayChange.refl _ fun _ => .of_same rfl
  case flushVisit => exact event State.flushVisit_lasting
  case resetCore =>
    refine event fun u => ?_
    split <;> rfl
  case blockReset b =>
    exact s.whenReleased_lasting MayChange.refl fun u =>
      have h := u.blockReset_rewired b
      .of_links h.1 fun _ => h.2
  case planValidationComplete => exact inner State.finishValidation_outer
  case characterReceived r b stop => exact inner fun u => u.receiveCharacter_outer r b stop
  case rxBreak r => exact inner fun u => u.receiveBreak_outer r
  case interCharacterGap r => exact inner fun u => u.receiveGap_outer r
  case intakeTake => exact event State.intakeTake_lasting
  case radioFrameApplication => exact event State.radioFrameApplication_lasting
  case handoffJudgement => exact event State.handoffJudgement_lasting
  case loopItem => exact event State.loopItem_lasting
  case staleExpiry i => exact inner fun u => u.staleExpiry_outer i
  case staleCheck => exact event State.staleCheck_lasting
  case unconfirmedExpiry i => exact inner fun u => u.unconfirmedExpiry_outer i
  case expiryCheck => exact event State.expiryCheck_lasting
  case loopActivation a => exact inner fun u => u.loopActivation_outer a
  case loopClear a => exact inner fun u => u.loopClear_outer a
  case checkoutStuck a => exact inner fun u => u.checkoutStuck_outer a
  case greenOnset ph => exact inner fun u => u.takeChange_outer ph true fun v t => v.judgeOnset_outer ph t
  case greenDrop ph => exact inner fun u => u.takeChange_outer ph false fun v t => v.judgeDrop_outer ph t
  case candidateTurn => exact inner State.takeTurn_outer
  case runFromTimeReached c => exact inner fun u => u.startExtension_outer c
  case remainingReachesZero c => exact inner fun u => u.completeExtension_outer c
  case deadlineReached c => exact inner fun u => u.missAdvance_outer c
  case ovrRecognisedChange => exact inner State.changeOverrideLevel_outer
  case suspendLimitExpiry => exact inner State.expireSuspension_outer
  case resumeVisit => exact inner State.resumeVisit_outer
  case poll p => exact event fun u => u.beginPoll_lasting p
  case reply p => exact event fun u => u.beginReply_lasting p
  case transmissionEnd p =>
    exact s.whenReleased_lasting MayChange.refl fun u =>
      have h := u.endTransmission_rewired p
      .of_links h.1 fun _ => h.2
  case replyWindowClose p => exact event fun u => u.closeWindow_lasting p
  case corridorFrameReceived p bs => exact event fun u => u.receive_lasting p bs
  case corridorFrameCut p => exact inner fun u => u.cutFrame_outer p
  case silenceTimeout p => exact event fun u => u.silence_lasting p
  case ackDeadline p id => exact event fun u => u.deadline_lasting p id
  case corridorBreak p => exact event fun u => u.receiveBreakAt_lasting p
  case breakSendEnd p =>
    exact s.whenReleased_lasting MayChange.refl fun u =>
      have h := u.endBreak_rewired p
      .of_links h.1 fun _ => h.2
  case settleTimeout => exact inner State.settleTimeout_outer
  case undecidedCharacterLineHigh r => exact inner fun u => u.undecidedHigh_outer r
  case timeBaseDecisecond =>
    exact s.whenReleased_lasting MayChange.refl fun _ => .of_own rfl rfl rfl

/-! ## The statements -/

/-- Settles O2: no command changes the queue, and the time base is a decisecond's own part. -/
theorem commandsLeaveQueueAndTime : Obligations.CommandsLeaveQueueAndTime := by
  intro c s t h
  obtain ⟨queue, changed⟩ := exec_mayChange h
  refine ⟨queue, fun notTick notPower notLow => (congrArg Lasting.time (changed notPower notLow).1).trans ?_⟩
  unfold ownPart
  split
  case h_1 => exact absurd rfl (notTick _ _ _)
  all_goals rfl

/-- Settles O60: each setting stands in the part of its own command alone. -/
theorem settingsChangeByCommandAlone : Obligations.SettingsChangeByCommandAlone := by
  intro c s t h notPower notLow
  obtain ⟨own, waited⟩ := (exec_mayChange h).2 notPower notLow
  have field {α : Type} (f : Lasting → α) (g : f (ownPart c s.lasting t.lasting) = f s.lasting) :
      f t.lasting = f s.lasting := (congrArg f own).trans g
  unfold ownPart at field
  refine ⟨fun n => field Lasting.approaches ?approaches, fun n => field Lasting.routes ?routes,
    fun n => field Lasting.classes ?classes, fun n => field Lasting.policy ?policy, fun n => field Lasting.pins ?pins,
    fun n => field Lasting.identity ?identity,
    fun n => ?faultControl, fun n => field Lasting.enables ?enables, fun n => ⟨?receivers, fun p => ?ports⟩⟩
  case approaches =>
    split
    case h_2 => exact absurd rfl (n _ _ _ _ _ _)
    all_goals rfl
  case routes =>
    split
    case h_3 => exact absurd rfl (n _ _ _ _)
    all_goals rfl
  case classes =>
    split
    case h_4 => exact absurd rfl (n _)
    all_goals rfl
  case policy =>
    split
    case h_5 => exact absurd rfl (n _ _ _ _ _ _ _ _)
    all_goals rfl
  case pins =>
    split
    case h_6 => exact absurd rfl (n _ _ _ _ _)
    all_goals rfl
  case identity =>
    split
    case h_7 => exact absurd rfl (n _)
    all_goals rfl
  case faultControl =>
    have maps := field (fun x => (x.mask, x.severity, x.enable, x.settleTimeout)) (by
      split
      case h_8 => exact absurd rfl (n _ _ _ _)
      all_goals rfl)
    simp only [Prod.mk.injEq] at maps
    exact maps
  case enables =>
    split
    case h_9 => exact absurd rfl (n _)
    all_goals rfl
  case receivers =>
    have receivers := field (fun x => (x.rx0, x.rx1)) (by
      split
      case h_10 => exact absurd rfl (n _ _ _ _ _ _ _ _ _ _)
      all_goals rfl)
    simp only [State.lasting, State.outer, Outer.lasting, RxLink.setting, Prod.mk.injEq] at receivers
    intro r
    cases r
    · exact receivers.1
    · exact receivers.2
  case ports =>
    cases p
    · exact (waited n).1
    · exact (waited n).2

end Sys2Proof.Machine
end

section
/-! PROOFS. The queues stay bounded (O56): what each queue of a corridor port needs of the writes to it, and then every
command. -/

namespace Sys2Proof.Machine

/-! ## A corridor port's queues -/

/-- A port's queues are within their bounds, and a frame being sent carries the head of its outgoing queue. -/
def CorridorPort.Sound (x : CorridorPort) : Prop := x.Bounded ∧ x.SendsHead

/-- A port that sends no frame owes its outgoing queue nothing but its bounds. -/
theorem CorridorPort.Bounded.sound_of_quiet {x : CorridorPort} (h : x.Bounded) (quiet : ∀ f, x.line ≠ .frame f) : x.Sound :=
  ⟨h, fun f _ hf => absurd hf (quiet f)⟩

theorem CorridorPort.Bounded.breaking {x : CorridorPort} (h : x.Bounded) :
    CorridorPort.Sound { x with line := .sendingBreak } :=
  ⟨h, nofun⟩

theorem handoffCount_append_ack (q : List OutMsg) (id : Byte) (r : AckResult) :
    handoffCount (q ++ [.ack id r]) = handoffCount q := by
  simp [handoffCount]

theorem handoffCount_append_handoff (q : List OutMsg) (m a level timeout) :
    handoffCount (q ++ [.handoff m a level timeout]) = handoffCount q + 1 := by
  simp [handoffCount]

theorem handoffCount_cons_handoff (q : List OutMsg) (m a level timeout) :
    handoffCount (.handoff m a level timeout :: q) = handoffCount q + 1 := by
  simp [handoffCount]

theorem handoffCount_tail_le (q : List OutMsg) : handoffCount q.tail ≤ handoffCount q :=
  ((List.tail_sublist q).filter _).length_le

/-- A message at the tail of an outgoing queue leaves its head in place where it has one. -/
theorem head?_append_of_head? {α : Type} {q : List α} {m : α} (h : q.head? = some m) (x : α) :
    (q ++ [x]).head? = some m := by
  cases q with
  | nil => cases h
  | cons a q => exact h

/-- A HANDOFF enqueued where R145 does not refuse it. -/
theorem enqueueHandoff_sound {x : CorridorPort} (h : x.Sound) (free : handoffRefusal x = none) (e : Entry) :
    (enqueueHandoff x e).Sound := by
  obtain ⟨⟨ho, ha, hr⟩, hs⟩ := h
  have room : ¬(outgoingCapacity ≤ x.outgoing.length ∨
      awaitingCapacity ≤ x.awaiting.length + handoffCount x.outgoing) := by
    intro full
    unfold handoffRefusal at free
    rw [if_pos full] at free
    split at free
    · cases free
    · split at free <;> cases free
  rw [not_or, not_le, not_le] at room
  obtain ⟨hout, hawait⟩ := room
  refine ⟨⟨?_, ?_, hr⟩, fun f m hf hm => head?_append_of_head? (hs f m hf hm) _⟩
  · simp only [enqueueHandoff, List.length_append, List.length_singleton]
    omega
  · simp only [enqueueHandoff, handoffCount_append_handoff]
    omega

/-- An ACK enqueued while fewer than four messages are held (R149). -/
theorem withAck_sound {x : CorridorPort} (h : x.Sound) (room : x.outgoing.length < outgoingCapacity) (id : Byte)
    (r : AckResult) : CorridorPort.Sound { x with outgoing := x.outgoing ++ [.ack id r] } := by
  obtain ⟨⟨ho, ha, hr⟩, hs⟩ := h
  refine ⟨⟨?_, ?_, hr⟩, fun f m hf hm => head?_append_of_head? (hs f m hf hm) _⟩
  · simp only [List.length_append, List.length_singleton]
    omega
  · simpa only [handoffCount_append_ack] using ha

/-- Received messages kept within the capacity (R148). -/
theorem CorridorPort.Sound.withReceived {x : CorridorPort} (h : x.Sound) {q : List (HandoffMsg × Byte)}
    (room : q.length ≤ receiveCapacity) : CorridorPort.Sound { x with received := q } :=
  ⟨⟨h.1.1, h.1.2.1, room⟩, h.2⟩

theorem awaitingWithout_sound {x : CorridorPort} (h : x.Sound) (id : Byte) : (awaitingWithout x id).Sound := by
  have shorter := List.length_filter_le (fun i : AwaitItem => decide (i.id ≠ id)) x.awaiting
  obtain ⟨⟨ho, ha, hr⟩, hs⟩ := h
  exact ⟨⟨ho, by simp only [awaitingWithout]; omega, hr⟩, hs⟩

/-- A frame that begins carries the head of the queue or nothing (R144). -/
theorem State.frameNow_sound (s : State) {x : CorridorPort} (h : x.Sound) (isReply : Bool) :
    CorridorPort.Sound { x with line := .frame (s.frameNow x isReply) } := by
  refine ⟨h.1, fun f m hf hm => ?_⟩
  cases hf
  simp only [State.frameNow] at hm
  split at hm
  · exact hm
  · cases hm

/-- The message of a frame that ends leaves the queue; a HANDOFF takes the place kept for it (R144, R146). -/
theorem frameSent_bounded {x : CorridorPort} (h : x.Sound) {f : OutFrame} (hf : x.line = .frame f) (t : Time) :
    (frameSent x f t).Bounded := by
  obtain ⟨⟨ho, ha, hr⟩, hs⟩ := h
  have sent : (messageSent { x with line := .listening } t f.msg).Bounded := by
    cases hm : f.msg with
    | none => exact ⟨ho, ha, hr⟩
    | some m =>
      have head := hs f m hf hm
      have count := handoffCount_tail_le x.outgoing
      cases m with
      | ack id r => exact ⟨by simp only [messageSent, List.length_tail]; omega, by simp only [messageSent]; omega, hr⟩
      | handoff m a level timeout =>
        obtain ⟨rest, hq⟩ := List.head?_eq_some_iff.mp head
        rw [hq, handoffCount_cons_handoff] at ha
        refine ⟨by simp only [messageSent, List.length_tail]; omega, ?_, hr⟩
        simp only [messageSent, hq, List.tail_cons, List.length_append, List.length_singleton]
        omega
  unfold frameSent
  simp only []
  split
  · exact sent
  · exact sent

theorem frameSent_line (x : CorridorPort) (f : OutFrame) (t : Time) : (frameSent x f t).line = .listening := by
  unfold frameSent messageSent
  split <;> split <;> rfl

/-- A role write keeps the queues or empties one, and leaves the line alone (R136). -/
theorem withRoleWritten_bounded {x : CorridorPort} (h : x.Bounded) (t : Time) : (withRoleWritten x t).Bounded := by
  obtain ⟨ho, ha, hr⟩ := h
  unfold withRoleWritten
  split
  · exact ⟨Nat.zero_le _, le_trans (by simp only [handoffCount, List.filter_nil, List.length_nil]; omega) ha, hr⟩
  · exact ⟨ho, ha, hr⟩
  · exact ⟨ho, ha, hr⟩

theorem withRoleWritten_line (x : CorridorPort) (t : Time) : (withRoleWritten x t).line = x.line := by
  unfold withRoleWritten
  split <;> rfl

theorem portCleared_bounded (st : PortSettings) : (portCleared st).Bounded :=
  ⟨Nat.zero_le _, Nat.zero_le _, Nat.zero_le _⟩

/-! ## The queues of a state -/

/-- The outcome queue and the ports, which the bounds speak of. -/
def State.queues (s : State) : List OutcomeRecord × CorridorPort × CorridorPort := (s.port.outcomes, s.linkA, s.linkB)

theorem State.queues_of_outer {s t : State} (h : t.outer = s.outer) : t.queues = s.queues :=
  congrArg (fun o : Outer => (o.outcomes, o.linkA, o.linkB)) h

theorem State.QueuesSound.congr {s t : State} (h : s.QueuesSound) (e : t.queues = s.queues) : t.QueuesSound := by
  simp only [State.queues, Prod.mk.injEq] at e
  simpa only [State.QueuesSound, State.OutcomesBounded, State.PortsBounded, e] using h

theorem State.QueuesSound.of_outer {s t : State} (h : s.QueuesSound) (e : t.outer = s.outer) : t.QueuesSound :=
  h.congr (State.queues_of_outer e)

theorem State.QueuesSound.link {s : State} (h : s.QueuesSound) (p : PortId) : (s.link p).Sound := by
  obtain ⟨_, ⟨ba, bb⟩, ha, hb⟩ := h
  cases p
  · exact ⟨ba, ha⟩
  · exact ⟨bb, hb⟩

theorem State.QueuesSound.setLink {s : State} (h : s.QueuesSound) {p : PortId} {x : CorridorPort} (hx : x.Sound) :
    (s.setLink p x).QueuesSound := by
  obtain ⟨ho, ⟨ba, bb⟩, ha, hb⟩ := h
  cases p
  · exact ⟨ho, ⟨hx.1, bb⟩, hx.2, hb⟩
  · exact ⟨ho, ⟨ba, hx.1⟩, ha, hx.2⟩

theorem State.QueuesSound.pushOutcome {s : State} (h : s.QueuesSound) (r : OutcomeRecord) :
    (s.pushOutcome r).QueuesSound := by
  rcases s.pushOutcome_cases r with ⟨room, e⟩ | ⟨_, e⟩ <;> rw [e]
  · refine ⟨?_, h.2⟩
    simp only [State.OutcomesBounded, List.length_append, List.length_singleton, outcomeCapacity]
    omega
  · exact h

theorem State.QueuesSound.pushOutcomes {s : State} (h : s.QueuesSound) (rs : List OutcomeRecord) :
    (s.pushOutcomes rs).QueuesSound :=
  foldl_keeps (fun a b : State => a.QueuesSound → b.QueuesSound) (fun _ h => h) (fun _ _ _ f g h => g (f h))
    State.pushOutcome (fun _ r h => h.pushOutcome r) rs s h

theorem State.QueuesSound.closeEntry {s : State} (h : s.QueuesSound) (i : EntryIx) (e : Entry) (r : CloseReason) :
    (s.closeEntry i e r).QueuesSound := by
  have requested : ∀ {u : State}, u.QueuesSound → (u.requestHandoff e).QueuesSound := by
    intro u hu
    unfold State.requestHandoff
    simp only []
    split
    · exact hu.pushOutcome _
    · split
      · exact hu.pushOutcome _
      · rename_i free
        exact hu.setLink (enqueueHandoff_sound (hu.link _) free e)
  have pushed : ((s.shed i e).1.pushOutcome (closedRecord e s.time r)).QueuesSound :=
    (h.of_outer (s.shed_outer i e)).pushOutcome _
  unfold State.closeEntry
  simp only []
  refine State.QueuesSound.of_outer ?_ (State.causeIf_outer _ _)
  split
  · exact (requested pushed).congr rfl
  · exact pushed.congr rfl

/-! ## Intake and the table -/

theorem State.QueuesSound.intakeTake {s : State} (h : s.QueuesSound) : s.intakeTake.QueuesSound := by
  have takes : ∀ src, (s.takeFrom src).QueuesSound := by
    intro src
    unfold State.takeFrom
    split
    · split
      · exact h.of_outer (s.setRx_outer rfl)
      · exact h
    · rename_i p
      split
      · rename_i m rest hq
        have room := (h.link p).1.2.2
        rw [hq, List.length_cons] at room
        exact (h.setLink ((h.link p).withReceived (by omega : rest.length ≤ receiveCapacity))).congr rfl
      · exact h
    · split
      · exact h
      · exact h
  unfold State.intakeTake
  split
  · exact h
  · split
    · exact takes _
    · exact h

theorem State.QueuesSound.makePlace {s t : State} (h : s.QueuesSound) {level : Nat} {i : EntryIx}
    (e : s.makePlace level = some (t, i)) : t.QueuesSound := by
  unfold State.makePlace at e
  split at e
  · cases e
    exact h
  · split at e
    · cases e
      exact h.closeEntry ..
    · cases e

theorem State.QueuesSound.createEntry {s : State} (h : s.QueuesSound) (r : Report) (level : Nat) (w : Time × Time) :
    (s.createEntry r level w).QueuesSound := by
  unfold State.createEntry
  split
  · rename_i e
    exact ((h.makePlace e).congr rfl).of_outer (State.cause_outer _)
  · exact h.pushOutcome _

theorem State.QueuesSound.applyReport {s : State} (h : s.QueuesSound) (r : Report) (cfg routes classes) :
    (s.applyReport r cfg routes classes).QueuesSound := by
  unfold State.applyReport
  simp only []
  split
  · exact h.pushOutcome _
  · split
    · exact h.of_outer (s.updateEntry_outer ..)
    · exact h.createEntry ..

theorem State.QueuesSound.radioFrameApplication {s : State} (h : s.QueuesSound) :
    s.radioFrameApplication.QueuesSound := by
  have idle : s.itemEnds.QueuesSound := h
  unfold State.radioFrameApplication State.applyRadio State.judgeReport
  split
  · split
    · exact idle
    · split
      · exact idle.of_outer (State.occur_outer _ _ _ _)
      · split
        · split
          · exact idle.closeEntry ..
          · exact idle
        · exact idle
        · split
          · exact idle.applyReport ..
          · exact idle
        · exact idle.applyReport ..
  · exact h

theorem State.QueuesSound.judgeHandoff {s : State} (h : s.QueuesSound) (p m sender) :
    (s.judgeHandoff p m sender).1.QueuesSound := by
  unfold State.judgeHandoff State.createHandoff
  split
  · exact h
  · split
    · exact h
    · split
      · exact h
      · split
        · rename_i e
          exact ((h.makePlace e).congr rfl).of_outer (State.cause_outer _)
        · exact h

theorem State.QueuesSound.handoffJudgement {s : State} (h : s.QueuesSound) : s.handoffJudgement.QueuesSound := by
  have acks : ∀ {u : State}, u.QueuesSound → ∀ p id r broken, (u.enqueueAck p id r broken).QueuesSound := by
    intro u hu p id r broken
    unfold State.enqueueAck
    simp only []
    split
    · exact hu
    · rename_i room
      simp only [Bool.or_eq_true, decide_eq_true_eq, not_or, not_le] at room
      exact hu.setLink (withAck_sound (hu.link p) room.2 id r)
  unfold State.handoffJudgement
  split
  · exact acks (State.QueuesSound.judgeHandoff (s := s.itemEnds) h _ _ _) _ _ _ _
  · exact h

theorem State.QueuesSound.loopItem {s : State} (h : s.QueuesSound) : s.loopItem.QueuesSound := by
  unfold State.loopItem
  split
  · simp only []
    split
    · exact State.QueuesSound.closeEntry (s := s.itemEnds) h _ _ _
    · exact h
  · exact h

theorem State.QueuesSound.closeIf {s : State} (h : s.QueuesSound) (i : EntryIx) (test r) :
    (s.closeIf i test r).QueuesSound := by
  unfold State.closeIf
  split
  · split
    · exact h.closeEntry ..
    · exact h
  · exact h

theorem State.QueuesSound.staleCheck {s : State} (h : s.QueuesSound) : s.staleCheck.QueuesSound := by
  unfold State.staleCheck
  split
  · rename_i i _ _
    split
    · exact State.QueuesSound.closeIf
        (s := { s with intake := { s.intake with staleDue := put s.intake.staleDue i false } }) h _ _ _
    · exact h
  · exact h

theorem State.QueuesSound.expiryCheck {s : State} (h : s.QueuesSound) : s.expiryCheck.QueuesSound := by
  unfold State.expiryCheck
  split
  · rename_i i _ _
    split
    · exact State.QueuesSound.closeIf
        (s := { s with intake := { s.intake with expiryDue := put s.intake.expiryDue i false } }) h _ _ _
    · exact h
  · exact h

theorem State.QueuesSound.flushVisit {s : State} (h : s.QueuesSound) : s.flushVisit.QueuesSound := by
  have progress : ∀ (u : State) i n, (u.flushProgress i n).queues = u.queues := by
    intro u i n
    unfold State.flushProgress
    split <;> rfl
  unfold State.flushVisit
  split
  · split
    · exact (h.closeEntry ..).congr (progress _ _ _)
    · exact h.congr (progress _ _ _)
  · exact h

/-! ## Corridor ports -/

theorem portStarted_sound {x : CorridorPort} (h : x.Sound) (t : Time) : (portStarted x t).Sound := by
  unfold portStarted
  split
  · exact h
  · split
    · exact h
    · exact h
  · split
    · exact h
    · exact h

theorem State.QueuesSound.endStartUp {s : State} (h : s.QueuesSound) : s.endStartUp.QueuesSound := by
  have a := portStarted_sound (h.link .linkA) s.time
  have b := portStarted_sound (h.link .linkB) s.time
  unfold State.endStartUp
  split
  · split
    · exact ⟨h.1, ⟨a.1, b.1⟩, a.2, b.2⟩
    · exact h
  · exact h

theorem State.QueuesSound.beginPoll {s : State} (h : s.QueuesSound) (p) : (s.beginPoll p).QueuesSound := by
  have frame := s.frameNow_sound (h.link p) false
  unfold State.beginPoll
  simp only []
  split
  · split
    · exact h.setLink frame
    · exact h
  · exact h

theorem State.QueuesSound.beginReply {s : State} (h : s.QueuesSound) (p) : (s.beginReply p).QueuesSound := by
  have frame := s.frameNow_sound (h.link p) true
  unfold State.beginReply
  simp only []
  split
  · exact h.setLink frame
  · exact h

theorem State.QueuesSound.loseLink {s : State} (h : s.QueuesSound) (p) {x : CorridorPort} (hx : x.Sound) :
    (s.loseLink p x).QueuesSound :=
  State.QueuesSound.of_outer (h.setLink (x := { x with state := .down }) hx) (State.occur_outer _ _ _ _)

theorem State.QueuesSound.closeWindow {s : State} (h : s.QueuesSound) (p) : (s.closeWindow p).QueuesSound := by
  have counted : (missed (windowClosed (s.link p) s.time)).Sound := h.link p
  unfold State.closeWindow State.countMiss
  simp only []
  split
  · split
    · split
      · exact h.loseLink p counted
      · exact h.setLink counted
    · exact h
  · exact h

theorem State.QueuesSound.silence {s : State} (h : s.QueuesSound) (p) : (s.silence p).QueuesSound := by
  unfold State.silence
  simp only []
  split
  · split
    · exact h.loseLink p (h.link p)
    · exact h
  · exact h

theorem State.QueuesSound.endAwaiting {s : State} (h : s.QueuesSound) (p i r) : (s.endAwaiting p i r).QueuesSound :=
  (h.setLink (awaitingWithout_sound (h.link p) _)).pushOutcome _

theorem State.QueuesSound.takeMessage {s : State} (h : s.QueuesSound) (p f) : (s.takeMessage p f).QueuesSound := by
  unfold State.takeMessage State.takeHandoff State.takeAck
  simp only []
  split
  · exact h
  · split
    · rename_i room
      refine h.setLink ((h.link p).withReceived ?_)
      rw [List.length_append, List.length_singleton]
      omega
    · exact h
  · split
    · exact h.endAwaiting ..
    · exact h

theorem State.QueuesSound.actOn {s : State} (h : s.QueuesSound) (p f) : (s.actOn p f).QueuesSound := by
  have heard : (heardPeer (s.link p) f.contained f.sender).Sound := h.link p
  unfold State.actOn
  simp only []
  split
  · exact h.setLink heard
  · split
    · exact (h.setLink (x := { heardPeer (s.link p) f.contained f.sender with
        state := .roleFault, acknowledged := false, pollDue := none, windowClose := none, replyDue := false })
        heard).of_outer (State.occur_outer _ _ _ _)
    · split
      · exact State.QueuesSound.takeMessage (h.setLink (x := { windowClosed
          (heardPeer (s.link p) f.contained f.sender) s.time with missCount := 0, state := .up }) heard) _ _
      · exact h.setLink heard
    · exact State.QueuesSound.takeMessage (h.setLink (x := { heardPeer (s.link p) f.contained f.sender with
        state := .up, replyDue := !s.startingUp,
        silenceExpiry := some (timePlus s.time (heardPeer (s.link p) f.contained f.sender).settings.silence) })
        heard) _ _
    · exact h.setLink heard
    · exact h.setLink heard

theorem State.QueuesSound.receive {s : State} (h : s.QueuesSound) (p bs) : (s.receive p bs).QueuesSound := by
  unfold State.receive
  split
  · exact h
  · split
    · exact h
    · exact h.of_outer (State.occur_outer _ _ _ _)
    · rename_i contained sender _
      exact (h.setLink (x := heardPeer (s.link p) contained sender) (h.link p)).of_outer (State.occur_outer _ _ _ _)
    · exact h.actOn p _

theorem State.QueuesSound.deadline {s : State} (h : s.QueuesSound) (p id) : (s.deadline p id).QueuesSound := by
  unfold State.deadline
  split
  · split
    · exact h.endAwaiting ..
    · exact h
  · exact h

/-! ### Role writes and breaks -/

/-- The state's queues are sound, and a port listens. -/
def State.SoundAndListens (s : State) (p : PortId) : Prop := s.QueuesSound ∧ (s.link p).line = .listening

theorem State.SoundAndListens.setLink {s : State} {p : PortId} (h : s.QueuesSound) {x : CorridorPort} (hb : x.Bounded)
    (hl : x.line = .listening) : (s.setLink p x).SoundAndListens p := by
  refine ⟨h.setLink (hb.sound_of_quiet fun f hf => ?_), by rw [State.setLink_link_same]; exact hl⟩
  rw [hl] at hf
  cases hf

theorem State.SoundAndListens.pushOutcomes {s : State} {p : PortId} (h : s.SoundAndListens p) (rs) :
    (s.pushOutcomes rs).SoundAndListens p := by
  refine ⟨h.1.pushOutcomes rs, ?_⟩
  rw [State.pushOutcomes_frame]
  cases p <;> exact h.2

theorem State.SoundAndListens.roleWrite {s : State} {p : PortId} (h : s.SoundAndListens p) :
    (s.roleWrite p).SoundAndListens p :=
  (State.SoundAndListens.setLink h.1 (withRoleWritten_bounded (h.1.link p).1 s.time)
    ((withRoleWritten_line _ _).trans h.2)).pushOutcomes _

theorem State.SoundAndListens.writeSettings {s : State} {p : PortId} (h : s.SoundAndListens p) (st : PortSettings) :
    (s.writeSettings p st).SoundAndListens p :=
  (State.SoundAndListens.setLink (x := { s.link p with settings := st }) h.1 (h.1.link p).1 h.2).roleWrite

theorem State.SoundAndListens.writeDeferred {s : State} {p : PortId} (h : s.SoundAndListens p) :
    (s.writeDeferred p).SoundAndListens p :=
  foldl_keeps (fun a b : State => a.SoundAndListens p → b.SoundAndListens p) (fun _ h => h)
    (fun _ _ _ f g h => g (f h)) (fun s st => s.writeSettings p st) (fun _ st h => h.writeSettings st) _ _
    (State.SoundAndListens.setLink (x := { s.link p with deferredWrites := [] }) h.1 (h.1.link p).1 h.2)

theorem State.QueuesSound.endTransmission {s : State} (h : s.QueuesSound) (p) : (s.endTransmission p).QueuesSound := by
  unfold State.endTransmission State.beginWaitingBreak
  simp only []
  split
  · rename_i f hf
    have written := (State.SoundAndListens.setLink (p := p) h (frameSent_bounded (h.link p) hf s.time)
      (frameSent_line _ _ _)).writeDeferred.1
    split
    · exact written.setLink (written.link p).1.breaking
    · exact written
  · exact h

theorem State.SoundAndListens.breakReset {s : State} {p : PortId} (h : s.SoundAndListens p) :
    (s.breakReset p).SoundAndListens p := by
  have emptied : (brokenPort (s.link p)).Bounded := ⟨Nat.zero_le _, Nat.zero_le _, Nat.zero_le _⟩
  have reset := (State.SoundAndListens.setLink (p := p)
    (s := { s with intake := { s.intake with item := s.intake.item.map (markBroken p) } }) h.1 emptied h.2).pushOutcomes
    (breakRecords (s.link p) s.time)
  unfold State.breakReset
  simp only []
  split
  · exact reset
  · exact reset.roleWrite

theorem State.QueuesSound.receiveBreakAt {s : State} (h : s.QueuesSound) (p) : (s.receiveBreakAt p).QueuesSound := by
  unfold State.receiveBreakAt State.watches
  split
  · rename_i watches
    simp only [Bool.and_eq_true, decide_eq_true_eq] at watches
    exact (State.SoundAndListens.breakReset ⟨h, watches.2⟩).1
  · exact h

theorem State.QueuesSound.endBreak {s : State} (h : s.QueuesSound) (p) : (s.endBreak p).QueuesSound := by
  have listens := State.SoundAndListens.setLink (p := p) (x := { s.link p with line := .listening }) h (h.link p).1 rfl
  unfold State.endBreak
  simp only []
  split
  · split
    · exact listens.writeDeferred.1
    · exact listens.breakReset.writeDeferred.1
  · exact h

theorem State.QueuesSound.judgeLinkBreak {s : State} (h : s.QueuesSound) (b) : (s.judgeLinkBreak b).1.QueuesSound := by
  unfold State.judgeLinkBreak State.startBreak
  split
  · rename_i p _
    split
    · exact h
    · simp only [okWith]
      split
      · rename_i f hf
        exact h.setLink (x := { s.link p with breakWaiting := true }) (h.link p)
      · exact h.setLink (h.link p).1.breaking
  · exact h

theorem State.QueuesSound.judgeSetLink {s : State} (h : s.QueuesSound) (b rx port) :
    (s.judgeSetLink b rx port).1.QueuesSound := by
  unfold State.judgeSetLink
  split
  · exact h
  · rename_i p _
    unfold State.judgePortSettings
    split
    · exact h
    · split
      · simp only [okWith, State.writePort]
        split
        · rename_i listens
          exact (State.SoundAndListens.writeSettings ⟨h, listens⟩ _).1
        · exact h.setLink (h.link p)
      · exact h
  · split
    · simp only [okWith, State.writeRx]
      split
      · exact h
      · have e (u : State) (r : RxId) (x : RxLink) : (u.setRx r x).queues = u.queues := by cases r <;> rfl
        exact State.QueuesSound.congr (s := { s with freeIndex := s.freeIndex + 1 }) h (e _ _ _)
    · exact h

/-! ## Resets -/

theorem powerOn_queuesSound (s : State) (cpos1 cpos0 : Bool) : (s.powerOn cpos1 cpos0).QueuesSound :=
  have cleared (st : PortSettings) : (portCleared st).Sound := (portCleared_bounded st).sound_of_quiet nofun
  ⟨Nat.zero_le _, ⟨portCleared_bounded _, portCleared_bounded _⟩, (cleared _).2, (cleared _).2⟩

theorem State.QueuesSound.blockReset {s : State} (h : s.QueuesSound) (b : Block) : (s.blockReset b).QueuesSound := by
  have progress : ∀ (u : State) left, (u.resetProgress left).queues = u.queues := by
    intro u left
    unfold State.resetProgress
    split <;> rfl
  have reset : (s.resetBlock b).QueuesSound := by
    cases b with
    | link p =>
      refine State.QueuesSound.setLink (s := { s with freeIndex := s.freeIndex + 1 }) h
        ((withRoleWritten_bounded (portCleared_bounded _) _).sound_of_quiet fun f hf => ?_)
      exact absurd ((withRoleWritten_line _ _).symm.trans hf) nofun
    | rx r => exact h.of_outer (s.setRx_outer rfl)
    | intake => exact h
    | table => exact h
    | tracker => exact h
    | engine => exact h
    | channels => exact h
    | overrideMonitor => exact h
    | faults => exact h
  unfold State.blockReset
  split
  · split
    · exact reset.congr (progress _ _)
    · exact h
  · exact h

/-! ## Every command -/

section Keeps
variable {P : State → Prop} (ignoresPort : ∀ (s : State) port, port.outcomes = s.port.outcomes → P s → P { s with port })
include ignoresPort

/-- What a command taken in either command state keeps: all that does not read the port and that its judgement keeps. -/
theorem State.takeAlways_keeps {s : State} (h : P s) (echo : Byte) {judge : State → Judged}
    (judged : ∀ u : State, P u → P (judge u).1) : P (s.takeAlways echo judge) := by
  have ended : P s.endTransaction := ignoresPort s _ rfl h
  rcases s.takeAlways_cases echo judge with e | e | e <;> rw [e]
  · exact h
  · exact ended
  · exact ignoresPort _ _ rfl (judged _ ended)

theorem State.take_keeps {s : State} (h : P s) (echo : Byte) {judge : State → Judged}
    (judged : ∀ u : State, P u → P (judge u).1) : P (s.take echo judge) := by
  have ended : P s.endTransaction := ignoresPort s _ rfl h
  rcases s.take_cases echo judge with e | e | e | e <;> rw [e]
  · exact h
  · exact ended
  · exact ignoresPort _ _ rfl (ignoresPort _ _ rfl ended)
  · exact ignoresPort _ _ rfl (judged _ ended)

theorem State.takeLong_keeps {s : State} (h : P s) (echo : Byte) {accept : State → State}
    (accepted : ∀ u : State, P u → P (accept u)) : P (s.takeLong echo accept) := by
  have ended : P s.endTransaction := ignoresPort s _ rfl h
  rcases s.takeLong_cases echo accept with e | e | e | e <;> rw [e]
  · exact h
  · exact ended
  · exact ignoresPort _ _ rfl (ignoresPort _ _ rfl ended)
  · exact accepted _ ended

end Keeps

theorem State.whenReleased_keeps {P : State → Prop} {s : State} (h : P s) {f : State → State} (kept : P s → P (f s)) :
    P (s.whenReleased f) := by
  rcases s.whenReleased_cases f with e | e <;> rw [e]
  · exact h
  · exact kept h

theorem State.QueuesSound.judgeReadLink {s : State} (h : s.QueuesSound) (b) : (s.judgeReadLink b).1.QueuesSound := by
  unfold State.judgeReadLink
  split
  · exact h.setLink (x := { s.link _ with acknowledged := _ }) (h.link _)
  · exact h
  · exact h

theorem State.QueuesSound.judgePop {s : State} (h : s.QueuesSound) (b) : (s.judgePop b).1.QueuesSound := by
  unfold State.judgePop
  split
  · exact ⟨(List.drop_sublist ..).length_le.trans h.1, h.2⟩
  · exact h

/-- Every command keeps the queues within their bounds. -/
theorem exec_queuesSound {c : Instr} {s t : State} (sound : s.QueuesSound) (h : exec c s = .next t) : t.QueuesSound := by
  have ignoresPort (u : State) (port : ControllerPort) (e : port.outcomes = u.port.outcomes) (hu : u.QueuesSound) :
      State.QueuesSound { u with port } := hu.congr (by simp only [State.queues, e])
  have inner {f : State → State} (g : ∀ u : State, (f u).outer = u.outer) : (s.whenReleased f).QueuesSound :=
    State.whenReleased_keeps sound fun h => h.of_outer (g s)
  have event {f : State → State} (g : s.QueuesSound → (f s).QueuesSound) : (s.whenReleased f).QueuesSound :=
    State.whenReleased_keeps sound g
  have taken (echo : Byte) {judge : State → Judged} (g : ∀ {u : State}, u.QueuesSound → (judge u).1.QueuesSound) :
      (s.take echo judge).QueuesSound := State.take_keeps ignoresPort sound echo fun _ hu => g hu
  have judged (echo : Byte) {judge : State → Judged} (g : ∀ u : State, (judge u).1.queues = u.queues) :
      (s.take echo judge).QueuesSound := taken echo fun hu => hu.congr (g _)
  have always (echo : Byte) {judge : State → Judged} (g : ∀ u : State, (judge u).1.queues = u.queues) :
      (s.takeAlways echo judge).QueuesSound := State.takeAlways_keeps ignoresPort sound echo fun u hu => hu.congr (g u)
  have long (echo : Byte) {accept : State → State} (g : ∀ u : State, (accept u).queues = u.queues) :
      (s.takeLong echo accept).QueuesSound := State.takeLong_keeps ignoresPort sound echo fun u hu => hu.congr (g u)
  cases c <;> cases h
  case powerOnReset a b => exact powerOn_queuesSound s a b
  case rstLow => exact powerOn_queuesSound s _ _
  case startUpIntervalEnd => exact event fun h => h.endStartUp
  case transactionStart => exact inner State.startTransaction_outer
  case badCommand => exact always (judge := fun s => refuse s .badCommand) _ fun _ => rfl
  case null => exact event fun h => h
  case readStatus => exact always (judge := fun s => okWith s.statusRead s.statusRecord) _ fun _ => rfl
  case readEntry b =>
    refine judged _ fun u => ?_
    unfold State.judgeReadEntry
    split <;> rfl
  case readChannel b =>
    refine judged _ fun u => ?_
    unfold State.judgeReadChannel
    split <;> rfl
  case readPhase => exact judged _ (judge := fun s => okWith s s.phaseRecord) fun _ => rfl
  case readLink b => exact taken _ fun h => h.judgeReadLink b
  case readFault => exact judged _ (judge := fun s => okWith s s.faultRecordBytes) fun _ => rfl
  case popOutcomes b => exact taken _ fun h => h.judgePop b
  case clearFaults m => exact judged _ fun u => rfl
  case setFaultControl m v e n =>
    refine judged _ fun u => ?_
    unfold State.judgeFaultControl
    split <;> rfl
  case contain => exact judged _ fun u => State.queues_of_outer u.judgeContain_outer
  case release => exact judged _ fun u => State.queues_of_outer u.judgeRelease_outer
  case stagePlan => exact long _ fun _ => rfl
  case setApproach =>
    refine judged _ fun u => ?_
    unfold State.judgeApproach State.writeApproach
    split
    · split
      · rfl
      · simp only [okWith]
        split <;> rfl
    · rfl
  case setRoute =>
    refine judged _ fun u => ?_
    unfold State.judgeRoute
    split
    · rfl
    · split <;> rfl
  case setClass =>
    refine judged _ fun u => ?_
    unfold State.judgeClass
    split <;> rfl
  case setPolicy =>
    refine judged _ fun u => ?_
    unfold State.judgePolicy
    split
    · rfl
    · exact (State.queues_of_outer (State.cause_outer _)).trans rfl
  case setLink => exact taken _ fun h => h.judgeSetLink ..
  case setIdent identity => exact judged _ (judge := fun s => okWith { s with identity } []) fun _ => rfl
  case setPins =>
    refine judged _ fun u => ?_
    unfold State.judgePins
    split <;> rfl
  case setEvents enables =>
    exact judged _ (judge := fun s =>
      okWith { s with port := { s.port with enables := enables.extractLsb' 0 7 } } []) fun _ => rfl
  case linkBreak b => exact taken _ fun h => h.judgeLinkBreak b
  case forceGrant a b n => exact judged _ fun u => State.queues_of_outer (u.judgeForce_outer a b n)
  case cancelChannel b => exact judged _ fun u => State.queues_of_outer (u.judgeCancel_outer b)
  case overrideHoldSet b => exact judged _ fun u => State.queues_of_outer (u.judgeHold_outer b)
  case overrideHoldClear => exact judged _ fun u => State.queues_of_outer (u.judgeHold_outer 0)
  case flushTable => exact long _ fun _ => rfl
  case flushVisit => exact event fun h => h.flushVisit
  case resetCore =>
    refine event fun h => ?_
    split
    · exact h
    · exact ⟨Nat.zero_le _, h.2⟩
  case blockReset b => exact event fun h => h.blockReset b
  case planValidationComplete => exact inner State.finishValidation_outer
  case characterReceived r b stop => exact inner fun u => u.receiveCharacter_outer r b stop
  case rxBreak r => exact inner fun u => u.receiveBreak_outer r
  case interCharacterGap r => exact inner fun u => u.receiveGap_outer r
  case intakeTake => exact event fun h => h.intakeTake
  case radioFrameApplication => exact event fun h => h.radioFrameApplication
  case handoffJudgement => exact event fun h => h.handoffJudgement
  case loopItem => exact event fun h => h.loopItem
  case staleExpiry i => exact inner fun u => u.staleExpiry_outer i
  case staleCheck => exact event fun h => h.staleCheck
  case unconfirmedExpiry i => exact inner fun u => u.unconfirmedExpiry_outer i
  case expiryCheck => exact event fun h => h.expiryCheck
  case loopActivation a => exact inner fun u => u.loopActivation_outer a
  case loopClear a => exact inner fun u => u.loopClear_outer a
  case checkoutStuck a => exact inner fun u => u.checkoutStuck_outer a
  case greenOnset ph => exact inner fun u => u.takeChange_outer ph true fun v t => v.judgeOnset_outer ph t
  case greenDrop ph => exact inner fun u => u.takeChange_outer ph false fun v t => v.judgeDrop_outer ph t
  case candidateTurn => exact inner State.takeTurn_outer
  case runFromTimeReached c => exact inner fun u => u.startExtension_outer c
  case remainingReachesZero c => exact inner fun u => u.completeExtension_outer c
  case deadlineReached c => exact inner fun u => u.missAdvance_outer c
  case ovrRecognisedChange => exact inner State.changeOverrideLevel_outer
  case suspendLimitExpiry => exact inner State.expireSuspension_outer
  case resumeVisit => exact inner State.resumeVisit_outer
  case poll p => exact event fun h => h.beginPoll p
  case reply p => exact event fun h => h.beginReply p
  case transmissionEnd p => exact event fun h => h.endTransmission p
  case replyWindowClose p => exact event fun h => h.closeWindow p
  case corridorFrameReceived p bs => exact event fun h => h.receive p bs
  case corridorFrameCut p => exact inner fun u => u.cutFrame_outer p
  case silenceTimeout p => exact event fun h => h.silence p
  case ackDeadline p id => exact event fun h => h.deadline p id
  case corridorBreak p => exact event fun h => h.receiveBreakAt p
  case breakSendEnd p => exact event fun h => h.endBreak p
  case settleTimeout => exact inner State.settleTimeout_outer
  case undecidedCharacterLineHigh r => exact inner fun u => u.undecidedHigh_outer r
  case timeBaseDecisecond => exact event fun h => h

/-- What every command keeps, and the queue does not bear on, every step keeps. -/
theorem step_keeps {P : State → Prop} (ignoresQueue : ∀ (s : State) (q : List Instr), P s → P { s with pending := q })
    (kept : ∀ {c : Instr} {s t : State}, P s → exec c s = .next t → P t) {s t : State} (hs : P s) (h : step s = .next t) :
    P t := by
  unfold step at h
  split at h
  · cases h
    exact hs
  · exact kept (ignoresQueue s _ hs) h

/-- Settles O56, command by command. -/
theorem queuesStayBounded : Obligations.QueuesStayBounded := fun _ _ sound h =>
  step_keeps (fun _ _ hs => hs) exec_queuesSound sound h

end Sys2Proof.Machine
end

section
/-! PROOFS. The machine as a whole, the resets and the controller port (O1, O3 to O9, O11, O12, O55). -/

namespace Sys2Proof.Machine

/-! ## The queue, and RST low -/

/-- Settles O1, by the definition of a step. -/
theorem stepRunsTheFrontCommand : Obligations.StepRunsTheFrontCommand := fun _ _ _ => rfl

section Held
variable {s : State} (held : s.held = true)
include held

theorem State.whenReleased_of_held (f : State → State) : s.whenReleased f = s := if_pos held
theorem State.takeAlways_of_held (echo : Byte) (judge : State → Judged) : s.takeAlways echo judge = s := if_pos held
theorem State.take_of_held (echo : Byte) (judge : State → Judged) : s.take echo judge = s := if_pos held
theorem State.takeLong_of_held (echo : Byte) (accept : State → State) : s.takeLong echo accept = s := if_pos held

/-- While RST is low only RST changes the part. -/
theorem exec_of_held {c : Instr} (notPower : ∀ a b, c ≠ .powerOnReset a b) (notLow : c ≠ .rstLow) : exec c s = .next s := by
  cases c
  case powerOnReset a b => exact absurd rfl (notPower a b)
  case rstLow => exact absurd rfl notLow
  case badCommand | readStatus => exact congrArg Host.Outcome.next (State.takeAlways_of_held held _ _)
  case stagePlan | flushTable => exact congrArg Host.Outcome.next (State.takeLong_of_held held _ _)
  case readEntry | readChannel | readPhase | readLink | readFault | popOutcomes | clearFaults | setFaultControl | contain
      | release | setApproach | setRoute | setClass | setPolicy | setLink | setIdent | setPins | setEvents | linkBreak
      | forceGrant | cancelChannel | overrideHoldSet | overrideHoldClear =>
    exact congrArg Host.Outcome.next (State.take_of_held held _ _)
  all_goals exact congrArg Host.Outcome.next (State.whenReleased_of_held held _)

end Held

theorem State.whenReleased_of_released {s : State} (released : s.held = false) (f : State → State) :
    s.whenReleased f = f s := by
  unfold State.whenReleased
  rw [released]
  rfl

theorem replicate_get {α : Type} {n : Nat} (x : α) (i : Fin n) : (Vector.replicate n x)[i] = x := by simp

/-- Settles O3: the held state is the power-on state, and every command asks for RST first. -/
theorem rstLowHoldsThePart : Obligations.RstLowHoldsThePart :=
  ⟨fun _ => ⟨_, rfl, rfl, rfl, fun _ => rfl, fun i => replicate_get none i, fun c => congrArg Channel.live (replicate_get _ c)⟩,
    fun _ _ held notPower notLow => exec_of_held held notPower notLow⟩

/-! ## The resets -/

/-- The ports of the straps are cleared ports. -/
theorem powerOn_link (s : State) (cpos1 cpos0 : Bool) (p : PortId) :
    ∃ role, (s.powerOn cpos1 cpos0).link p = portCleared (portSettingsPowerOn role) := by
  cases p
  · exact ⟨_, rfl⟩
  · exact ⟨_, rfl⟩

theorem linkStateOfRole_eq (r : Role) : linkStateOfRole r = if r = .off then .off else .syncing := by
  cases r <;> rfl

/-- Settles O4: the fields of the power-on state. -/
theorem powerOnResetState : Obligations.PowerOnResetState := by
  intro s cpos1 cpos0
  refine ⟨_, rfl, ⟨rfl, rfl, rfl, rfl⟩, ⟨rfl, ?_, fun p => ?_⟩, fun r => ?_, ⟨rfl, rfl, fun i => ?_⟩,
    ⟨rfl, fun a => ?_⟩, fun a => ?_, ⟨rfl, fun i => replicate_get _ i⟩, rfl, ⟨rfl, rfl, fun i => replicate_get _ i⟩,
    ⟨rfl, rfl, rfl, rfl, fun k => ⟨replicate_get _ k, replicate_get _ k⟩⟩, rfl, fun c => replicate_get _ c, rfl, rfl, rfl, rfl,
    rfl, rfl, rfl, rfl, rfl, rfl, rfl, ?_⟩
  · cases cpos1 <;> cases cpos0 <;> rfl
  · obtain ⟨role, h⟩ := powerOn_link s cpos1 cpos0 p
    rw [h]
    exact ⟨linkStateOfRole_eq role, rfl, rfl, rfl, rfl, rfl, rfl, rfl, rfl, rfl, rfl, rfl, rfl, rfl, rfl, rfl, rfl, rfl, rfl,
      rfl, rfl, rfl, rfl, rfl⟩
  · cases r <;> rfl
  · exact ⟨replicate_get none i, replicate_get false i, replicate_get false i⟩
  · rw [show (s.powerOn cpos1 cpos0).loops[a] = loopPowerOn from replicate_get _ a]
    exact ⟨rfl, rfl, rfl, rfl, rfl⟩
  · fin_cases a <;> exact ⟨rfl, rfl⟩
  · show flagByte [false, false, false, false, false, false, false] = 0
    decide

theorem isActive_iff (x : LinkState) : x.isActive = true ↔ x = .syncing ∨ x = .up ∨ x = .down := by
  cases x <;> decide

theorem isAlive_iff (x : LinkState) : x.isAlive = true ↔ x = .syncing ∨ x = .up := by
  cases x <;> decide

/-- Settles O5, port by port. -/
theorem startUpIntervalEnds : Obligations.StartUpIntervalEnds := by
  intro s e released starting reached
  have ends : s.whenReleased State.endStartUp =
      { s with startUpEnd := none, linkA := portStarted s.linkA s.time, linkB := portStarted s.linkB s.time } := by
    rw [State.whenReleased_of_released released]
    unfold State.endStartUp
    rw [starting]
    exact if_pos reached
  refine ⟨_, congrArg Host.Outcome.next ends, rfl, ?_, ?_, ?_, ?_⟩
  all_goals
    have started (p : PortId) : State.link { s with
        startUpEnd := none, linkA := portStarted s.linkA s.time, linkB := portStarted s.linkB s.time } p =
        portStarted (s.link p) s.time := by cases p <;> rfl
  · intro p off
    rw [started, portStarted, off]
  · intro p poller
    rw [started, portStarted, poller, ← isActive_iff]
    exact ⟨fun h => if_pos h, fun h => if_neg h⟩
  · intro p responder
    rw [started, portStarted, responder, ← isAlive_iff, ← Option.isNone_iff_eq_none, ← Bool.and_eq_true]
    exact ⟨fun h => if_pos h, fun h => if_neg h⟩
  · intro ph
    unfold State.callDriven State.startingUp
    rw [released]
    cases s.pins.drive <;> rfl

/-- A command whose transaction began after the start-up interval is not discarded (R170). -/
theorem State.Takes.not_discarded {s : State} (h : s.Takes) : s.discardsCommand = false := by
  obtain ⟨_, r, h⟩ := h
  unfold State.discardsCommand
  rw [h]

/-- Settles O6. -/
theorem resetCoreIsAccepted : Obligations.ResetCoreIsAccepted := by
  intro s takes
  refine congrArg Host.Outcome.next ((State.whenReleased_of_released takes.1 _).trans ?_)
  rw [takes.not_discarded]
  rfl

@[simp] theorem State.afterBlock_loops (s : State) (left) : (s.afterBlock left).loops = s.loops := by cases left <;> rfl
@[simp] theorem State.afterBlock_intake (s : State) (left) : (s.afterBlock left).intake = s.intake := by cases left <;> rfl
@[simp] theorem State.afterBlock_table (s : State) (left) : (s.afterBlock left).table = s.table := by cases left <;> rfl
@[simp] theorem State.afterBlock_account (s : State) (left) : (s.afterBlock left).account = s.account := by cases left <;> rfl
@[simp] theorem State.afterBlock_channels (s : State) (left) : (s.afterBlock left).channels = s.channels := by
  cases left <;> rfl
@[simp] theorem State.afterBlock_faults (s : State) (left) : (s.afterBlock left).faults = s.faults := by cases left <;> rfl
@[simp] theorem State.afterBlock_link (s : State) (left) (p : PortId) : (s.afterBlock left).link p = s.link p := by
  cases left <;> cases p <;> rfl

theorem State.resetProgress_eq (s : State) (left) : s.resetProgress left = s.afterBlock left := by cases left <;> rfl

/-- A block that has its reset to take takes it; another does nothing. -/
theorem exec_blockReset {s : State} {left : List Block} (released : s.held = false) (resets : s.port.command = .resetCore left)
    (b : Block) : exec (.blockReset b) s = .next
      (if b ∈ left then (s.resetBlock b).afterBlock (left.filter fun c => decide (c ≠ b)) else s) := by
  refine congrArg Host.Outcome.next ((State.whenReleased_of_released released _).trans ?_)
  unfold State.blockReset
  rw [resets]
  simp only [State.resetProgress_eq]

/-- A port's settings after RESET_CORE are those it had or the last that waited (assumption 6). -/
theorem settingsAfterCut_cases (x : CorridorPort) (takes : Bool) :
    settingsAfterCut x takes = x.settings ∨ x.deferredWrites.getLast? = some (settingsAfterCut x takes) := by
  unfold settingsAfterCut
  split
  · split
    · exact .inr ‹_›
    · exact .inl rfl
  · exact .inl rfl

theorem withRoleWritten_cleared (st : PortSettings) (t : Time) : withRoleWritten (portCleared st) t = { portCleared st with
    state := if st.role = .off then .off else .syncing
    pollDue := if st.role = .poller then some t else none
    silenceExpiry := if st.role = .responder then some (timePlus t st.silence) else none } := by
  unfold withRoleWritten
  cases h : st.role <;> simp [portCleared, h, linkStateOfRole]

/-- Settles O7, block by block. -/
theorem blocksTakeTheirReset : Obligations.BlocksTakeTheirReset := by
  intro s left released resets
  have takes (b : Block) (h : b ∈ left) := (exec_blockReset released resets b).trans (congrArg Host.Outcome.next (if_pos h))
  refine ⟨fun b h => (exec_blockReset released resets b).trans (congrArg Host.Outcome.next (if_neg h)),
    fun r h => takes _ h, fun h => ⟨_, takes _ h, ?intake, fun a => ?loop⟩,
    fun h => ⟨_, takes _ h, ?table, ?pointer, ?item, fun i => ?entry⟩,
    fun h => (takes _ h).trans ?tracker, fun h => ⟨_, takes _ h, ?engine, ?xcur, ?inForce, ?left, fun k => ?slot⟩,
    fun h => ⟨_, takes _ h, ?channels, fun c => ?channel⟩, fun h => takes _ h, fun p h => ⟨_, takes _ h, ?_⟩,
    fun h => ⟨_, takes _ h, ?recorder, ?faults⟩⟩
  case intake => rw [State.afterBlock_loops]; rfl
  case loop =>
    rw [State.afterBlock_loops]
    have cleared : (s.resetBlock .intake).loops[a] = { unwatchedLoop s.loops[a] with stuckReported := false } :=
      tabulate_get _ a
    rw [cleared]
    exact ⟨rfl, rfl, rfl, rfl, rfl⟩
  case table => rw [State.afterBlock_table, State.afterBlock_intake]; rfl
  case pointer => rw [State.afterBlock_intake]; rfl
  case item => rw [State.afterBlock_intake]; rfl
  case entry =>
    rw [State.afterBlock_table, State.afterBlock_intake]
    exact ⟨replicate_get none i, replicate_get false i, replicate_get false i⟩
  case tracker =>
    cases plan : s.plans.active <;>
      simp only [State.resetBlock, State.resetTracker, plan, Option.isSome_none, Option.isSome_some] <;> rfl
  case engine => rw [State.afterBlock_account]; rfl
  case xcur => rw [State.afterBlock_account]; rfl
  case inForce => rw [State.afterBlock_account]; rfl
  case left => rw [State.afterBlock_account]; rfl
  case slot =>
    rw [State.afterBlock_account]
    exact ⟨replicate_get 0 k, replicate_get 0 k⟩
  case channels => rw [State.afterBlock_channels]; rfl
  case channel => rw [State.afterBlock_channels]; exact replicate_get _ c
  case recorder => rw [State.afterBlock_faults]; rfl
  case faults => rw [State.afterBlock_faults]; rfl
  have reset : (s.resetBlock (.link p)).link p =
      withRoleWritten (portCleared (settingsAfterCut (s.link p) (Config.cutWriteTakesEffect s.freeIndex))) s.time :=
    State.setLink_link_same _ _ _
  rw [State.afterBlock_link, reset, withRoleWritten_cleared]
  refine ⟨?_, settingsAfterCut_cases _ _, rfl, rfl, rfl, rfl, rfl, rfl, rfl, rfl, rfl, rfl, rfl, rfl, rfl, rfl, rfl, rfl⟩
  rw [← withRoleWritten_cleared]
  cases p <;> rfl

/-- Settles O55. -/
theorem invariantsHoldAtReset : Obligations.InvariantsHoldAtReset := by
  intro cpos1 cpos0
  have free (i : EntryIx) : (powerOnState cpos1 cpos0).table[i] = none := replicate_get none i
  have idle (c : ChannelIx) : (powerOnState cpos1 cpos0).channels[c].live = none :=
    congrArg Channel.live (replicate_get channelIdle c)
  have ranges (a : Approach) : (powerOnState cpos1 cpos0).approaches[a].FormsWindows :=
    (by decide : ∀ a : Approach, approachesPowerOn[a].FormsWindows) a
  have noEntry {P : Prop} {i : EntryIx} {e : Entry} (h : (powerOnState cpos1 cpos0).table[i] = some e) : P := by
    rw [free] at h
    cases h
  have noChannel {P : Prop} {c : ChannelIx} {l : LiveChannel} (h : (powerOnState cpos1 cpos0).channels[c].live = some l) :
      P := by
    rw [idle] at h
    cases h
  have noItem : (powerOnState cpos1 cpos0).intake.item = none := rfl
  have balanced : (accountCleared policyPowerOn.budget).Balanced := by
    simp [Account.Balanced, accountCleared, Vector.toList_replicate]
  have owes (k : Fin 6) : (powerOnState cpos1 cpos0).account.debt[k] ≤ (powerOnState cpos1 cpos0).policy.debtCap :=
    le_of_eq_of_le (replicate_get 0 k) (Nat.zero_le _)
  have queues : (powerOnState cpos1 cpos0).QueuesSound := powerOn_queuesSound (powerOnState cpos1 cpos0) cpos1 cpos0
  have table : (powerOnState cpos1 cpos0).TableSound :=
    ⟨fun _ _ _ _ h _ _ => noEntry h, fun _ _ h => noEntry h, fun _ _ h => noEntry h⟩
  have windows : (powerOnState cpos1 cpos0).WindowsOrdered := 
    ⟨fun _ _ h => noEntry h, ranges, fun _ _ _ _ _ h => absurd (noItem.symm.trans h) (Option.some_ne_none _).symm⟩
  have guarded : (powerOnState cpos1 cpos0).Guarded :=
    ⟨fun _ => idle, fun _ _ _ h => noChannel h, fun h => absurd rfl h, ⟨fun _ => rfl, fun _ => rfl⟩, trivial,
      fun _ _ h => noChannel h⟩
  have linked : (powerOnState cpos1 cpos0).Linked :=
    ⟨⟨fun _ _ _ h => noEntry h, fun _ _ h => noChannel h⟩, fun _ _ _ _ _ h => noChannel h, fun _ _ h => noChannel h,
      nofun, fun _ => idle⟩
  exact ⟨queues, table, windows, guarded, linked, ⟨nofun, nofun⟩, balanced, owes, nofun⟩

end Sys2Proof.Machine
end

section
/-! PROOFS. The controller port: transactions, reads, pops and the commands turned away (O8, O9, O11, O12). -/

namespace Sys2Proof.Machine

/-! ## The controller port -/

theorem entryOfByte_ofNat (i : EntryIx) : entryOfByte (BitVec.ofNat 8 i.val) = some i := by
  revert i
  decide

theorem channelOfByte_ofNat (c : ChannelIx) : channelOfByte (BitVec.ofNat 8 c.val) = some c := by
  revert c
  decide

theorem channelOfByte_of_ge {b : Byte} (h : 4 ≤ b.toNat) : channelOfByte b = none := dif_neg (Nat.not_lt.mpr h)

theorem linkOfByte_of_ge {b : Byte} (h : 4 ≤ b.toNat) : linkOfByte b = none := by
  unfold linkOfByte
  split
  case h_5 => rfl
  all_goals omega

theorem ControllerPort.chooseResponse_of_short {p : ControllerPort} {r : Response} (h : p.shortSlot = some r) :
    p.chooseResponse = ControllerPort.opened { p with shortSlot := none } r false := by
  unfold ControllerPort.chooseResponse
  split <;> simp_all

theorem ControllerPort.chooseResponse_of_long {p : ControllerPort} {r : Response} (h : p.shortSlot = none)
    (g : p.longSlot = some r) : p.chooseResponse = ControllerPort.opened { p with longSlot := none } r false := by
  unfold ControllerPort.chooseResponse
  split <;> simp_all

theorem ControllerPort.chooseResponse_of_empty {p : ControllerPort} (h : p.shortSlot = none) (g : p.longSlot = none) :
    p.chooseResponse = p.opened (waitingResponse p.command) false := by
  unfold ControllerPort.chooseResponse
  split <;> simp_all

/-- Settles O8. -/
theorem transactionsChooseResponses : Obligations.TransactionsChooseResponses := by
  refine ⟨fun s released noTransaction => ?_, fun s released => congrArg Host.Outcome.next (State.whenReleased_of_released released _),
    fun s takes => ⟨fun code => congrArg Host.Outcome.next (State.takeAlways_of_takes takes _ _),
      congrArg Host.Outcome.next (State.takeAlways_of_takes takes _ _)⟩, fun r => ?_, fun s n => ⟨fun h => ?_, fun t h => ⟨fun inside => ?_, fun outside => ?_, fun k => ?_⟩⟩⟩
  · have starts : exec .transactionStart s = .next { s with
        port := if s.startingUp then s.port.opened notReadyResponse true else s.port.chooseResponse } := by
      refine congrArg Host.Outcome.next ((State.whenReleased_of_released released _).trans ?_)
      unfold State.startTransaction
      rw [noTransaction]
    rw [starts]
    unfold State.startingUp
    refine ⟨fun e starting => ?_, fun r ended short => ?_, fun r ended short long => ?_, fun ended short long => ?_⟩
    · rw [starting]
      rfl
    · rw [ended, ControllerPort.chooseResponse_of_short short]
      rfl
    · rw [ended, ControllerPort.chooseResponse_of_long short long]
      rfl
    · rw [ended, ControllerPort.chooseResponse_of_empty short long]
      have waits {k : CommandState} (command : s.port.command = k) := congrArg waitingResponse command
      exact ⟨fun command => by rw [waits command]; rfl, fun _ command => by rw [waits command]; rfl,
        fun _ _ command => by rw [waits command]; rfl, fun _ command => by rw [waits command]; rfl⟩
  · unfold responseFrame
    cases r.result <;> rfl
  · unfold State.sdoBit State.sdoByte State.sdo
    rw [h]
    exact ⟨rfl, rfl⟩
  · unfold State.sdoByte State.sdo
    rw [h]
    simp [inside]
  · unfold State.sdoByte State.sdo
    rw [h]
    simp [outside]
  · unfold State.sdoBit
    rw [show (8 * n + k.val) / 8 = n by omega, show (8 * n + k.val) % 8 = k.val by omega]
    congr 1
    funext b
    simp [BitVec.getMsbD]

/-- A command accepted is answered with its data (R169). -/
theorem State.take_answers {s u : State} (serves : s.Serves) (echo : Byte) {judge : State → Judged} {data : List Byte}
    (h : judge s.endTransaction = okWith u.endTransaction data) : s.take echo judge = u.replied echo .ok data := by
  rw [State.take_of_serves serves, h]
  rfl

/-- READ_LINK of a corridor port. -/
theorem State.judgeReadLink_port (s : State) (p : PortId) (b : Byte) (h : b = if p = .linkA then 2 else 3) :
    s.judgeReadLink b = okWith (s.setLink p (acknowledge (s.link p))) (portRecord p (s.link p)) := by
  subst h
  cases p <;> rfl

/-- Settles O9. -/
theorem readsAnswerRecords : Obligations.ReadsAnswerRecords := by
  refine ⟨fun s takes => congrArg Host.Outcome.next (State.takeAlways_of_takes takes _ _), fun s serves => ?_⟩
  refine ⟨fun i => congrArg Host.Outcome.next (State.take_answers serves _ ?_),
    fun b out => congrArg Host.Outcome.next (State.take_refused serves _ _ _ ?_),
    fun c => congrArg Host.Outcome.next (State.take_answers serves _ ?_),
    fun b out => ⟨congrArg Host.Outcome.next (State.take_refused serves _ _ _ ?_),
      congrArg Host.Outcome.next (State.take_refused serves _ _ _ ?_)⟩,
    congrArg Host.Outcome.next (State.take_answers serves _ rfl), congrArg Host.Outcome.next (State.take_answers serves _ rfl),
    congrArg Host.Outcome.next (State.take_answers serves _ rfl), congrArg Host.Outcome.next (State.take_answers serves _ rfl),
    fun p b names => ⟨fun sound => congrArg Host.Outcome.next (State.take_answers serves _ ?_),
      fun faulted => congrArg Host.Outcome.next (State.take_answers serves _ ?_)⟩⟩
  · rw [State.judgeReadEntry, entryOfByte_ofNat]
    rfl
  · rw [State.judgeReadEntry, entryOfByte_of_ge out]
  · rw [State.judgeReadChannel, channelOfByte_ofNat]
    rfl
  · rw [State.judgeReadChannel, channelOfByte_of_ge out]
  · rw [State.judgeReadLink, linkOfByte_of_ge out]
  · have kept : acknowledge (s.link p) = s.link p := by
      unfold acknowledge
      rw [decide_eq_false sound, Bool.or_false]
    rw [State.judgeReadLink_port _ p b names]
    cases p <;> exact congrArg₂ okWith (congrArg (State.setLink s.endTransaction _) kept) rfl
  · have marked : acknowledge (s.link p) = { s.link p with acknowledged := true } := by
      unfold acknowledge
      rw [decide_eq_true faulted, Bool.or_true]
    rw [State.judgeReadLink_port _ p b names]
    cases p <;> exact congrArg₂ okWith (congrArg (State.setLink s.endTransaction _) marked) rfl

theorem inRange_of_mem {n lo hi : Nat} (h : lo ≤ n) (g : n ≤ hi) : inRange n lo hi = some n := if_pos ⟨h, g⟩

theorem inRange_of_out {n lo hi : Nat} (h : n < lo ∨ hi < n) : inRange n lo hi = none := if_neg (by omega)

/-- Settles O11. -/
theorem popOutcomesTakesTheOldest : Obligations.PopOutcomesTakesTheOldest := by
  refine ⟨fun s b serves => ⟨fun low high => congrArg Host.Outcome.next (State.take_answers serves _ ?_),
    fun out => congrArg Host.Outcome.next (State.take_refused serves _ _ _ ?_)⟩,
    fun s r => ⟨fun room => if_pos room, fun full => if_neg (Nat.not_lt.mpr full)⟩⟩
  · rw [State.judgePop, inRange_of_mem low high]
    simp only [State.popOutcomes, List.length_take]
    rfl
  · rw [State.judgePop, inRange_of_out (by omega)]

end Sys2Proof.Machine

namespace Sys2Proof.Machine

/-! ## Commands turned away -/

theorem CommandState.isLong_of_ne_idle {k : CommandState} (h : k ≠ .idle) : k.isLong = true := by
  cases k
  case idle => exact absurd rfl h
  all_goals rfl

section Busy
variable {s : State} (takes : s.Takes) (busy : s.port.command ≠ .idle)
include takes busy

/-- A command that a running long command collides with (R173). -/
theorem State.take_of_busy (echo : Byte) (judge : State → Judged) : s.take echo judge =
    State.replied { s with port := { s.port with collision := true } } echo .collided [] := by
  unfold State.take
  have long : s.endTransaction.port.command.isLong = true := CommandState.isLong_of_ne_idle busy
  rw [State.takeAlways_of_takes takes, if_pos long]
  rfl

theorem State.takeLong_of_busy (echo : Byte) (accept : State → State) : s.takeLong echo accept =
    State.replied { s with port := { s.port with collision := true } } echo .collided [] := by
  unfold State.takeLong
  have long : s.endTransaction.port.command.isLong = true := CommandState.isLong_of_ne_idle busy
  rw [if_neg (Bool.eq_false_iff.mp takes.1), if_neg (Bool.eq_false_iff.mp takes.not_discarded)]
  exact if_pos long

/-- While a long command runs every other command collides, its echo the code of its frame (R173, R184). -/
theorem exec_of_busy {c : Instr} {code : Byte} {rest : List Byte} (frame : encodeFrame c = some (code :: rest))
    (notNull : code ≠ 0x00) (notStatus : code ≠ 0x01) (notReset : code ≠ 0x3F) : exec c s =
      .next (State.replied { s with port := { s.port with collision := true } } code .collided []) := by
  cases c <;> cases frame
  case null => exact absurd rfl notNull
  case readStatus => exact absurd rfl notStatus
  case resetCore => exact absurd rfl notReset
  case stagePlan | flushTable => exact congrArg Host.Outcome.next (State.takeLong_of_busy takes busy _ _)
  all_goals exact congrArg Host.Outcome.next (State.take_of_busy takes busy _ _)

end Busy

section Discarded
variable {s : State} (released : s.held = false) (discarded : s.discardsCommand = true)
include released discarded

/-- A command whose transaction began in the start-up interval (R170). -/
theorem State.takeAlways_of_discarded (echo : Byte) (judge : State → Judged) :
    s.takeAlways echo judge = s.endTransaction := by
  unfold State.takeAlways
  rw [released, discarded]
  rfl

theorem State.takeLong_of_discarded (echo : Byte) (accept : State → State) :
    s.takeLong echo accept = s.endTransaction := by
  unfold State.takeLong
  rw [released, discarded]
  rfl

theorem exec_badCommand_of_discarded (code : Option Byte) : exec (.badCommand code) s = .next s.endTransaction :=
  congrArg Host.Outcome.next (State.takeAlways_of_discarded released discarded _ _)

/-- Every command of the port is discarded so, without being judged. -/
theorem exec_of_discarded {c : Instr} (command : encodeFrame c ≠ none) : exec c s = .next s.endTransaction := by
  cases c
  case null => exact congrArg Host.Outcome.next (State.whenReleased_of_released released _)
  case resetCore =>
    exact congrArg Host.Outcome.next ((State.whenReleased_of_released released _).trans (if_pos discarded))
  case readStatus => exact congrArg Host.Outcome.next (State.takeAlways_of_discarded released discarded _ _)
  case stagePlan | flushTable => exact congrArg Host.Outcome.next (State.takeLong_of_discarded released discarded _ _)
  case readEntry | readChannel | readPhase | readLink | readFault | popOutcomes | clearFaults | setFaultControl | contain
      | release | setApproach | setRoute | setClass | setPolicy | setLink | setIdent | setPins | setEvents | linkBreak
      | forceGrant | cancelChannel | overrideHoldSet | overrideHoldClear =>
    exact congrArg Host.Outcome.next (State.takeAlways_of_discarded released discarded _ _)
  all_goals exact absurd rfl command

end Discarded

/-- Settles O12. -/
theorem commandsTurnedAway : Obligations.CommandsTurnedAway := by
  refine ⟨fun c s code rest takes busy frame notNull notStatus notReset =>
    exec_of_busy takes busy frame notNull notStatus notReset, fun c s r released opened command => ?_⟩
  have discarded : s.discardsCommand = true := by
    unfold State.discardsCommand
    rw [opened]
  rcases command with framed | ⟨code, rfl⟩
  · exact exec_of_discarded released discarded framed
  · exact exec_badCommand_of_discarded released discarded code

end Sys2Proof.Machine

end

section
/-! PROOFS. Frames of commands and of the corridor, written and read again (O13, O14). -/

namespace Sys2Proof

theorem joinHalf_split (h : Half) : joinHalf (h.extractLsb' 8 8) (h.extractLsb' 0 8) = h := by
  have e := BitVec.extractLsb'_append_extractLsb'_eq_extractLsb' (x := h) (start₁ := 0) (len₁ := 8) (start₂ := 8) (len₂ := 8) rfl
  exact e.trans (BitVec.extractLsb'_eq_self)

theorem joinMap_split (m : BitVec 24) :
    joinMap (m.extractLsb' 16 8) (m.extractLsb' 8 8) (m.extractLsb' 0 8) = m := by
  have high := BitVec.extractLsb'_append_extractLsb'_eq_extractLsb' (x := m) (start₁ := 8) (len₁ := 8) (start₂ := 16) (len₂ := 8) rfl
  have e := BitVec.extractLsb'_append_extractLsb'_eq_extractLsb' (x := m) (start₁ := 0) (len₁ := 8) (start₂ := 8) (len₂ := 16) rfl
  exact (congrArg (· ++ m.extractLsb' 0 8) high).trans (e.trans (BitVec.extractLsb'_eq_self))

/-- A frame whose arguments have its code's length is read by its code (R168, R184). -/
theorem decodeFrame_commandFrame {code : Byte} {args : List Byte} {c : Instr} (known : argumentLength code = some args.length)
    (short : args.length < 256) (read : commandOf code args = some c) (extra : List Byte) :
    decodeFrame (commandFrame code args ++ extra) = c := by
  have len : (BitVec.ofNat 8 args.length).toNat = args.length := by
    rw [BitVec.toNat_ofNat]
    omega
  simp only [commandFrame, List.cons_append, decodeFrame, len, known, List.length_append, Nat.le_add_right, and_self, ↓reduceIte,
    List.take_left', read, Option.getD_some]

theorem slots_eta {α : Type} (v : Vector α 6) : #v[v[0], v[1], v[2], v[3], v[4], v[5]] = v := by
  ext i hi
  interval_cases i <;> rfl

theorem thresholds_eta {α : Type} (v : Vector α 7) : #v[v[0], v[1], v[2], v[3], v[4], v[5], v[6]] = v := by
  ext i hi
  interval_cases i <;> rfl

/-- The six slot records of a plan, read from their bytes. -/
theorem joinSlots_split (slots : Vector RawSlot 6) : joinSlots (splitSlot slots[0] ++ splitSlot slots[1] ++
    splitSlot slots[2] ++ splitSlot slots[3] ++ splitSlot slots[4] ++ splitSlot slots[5]) = slots := by
  refine Eq.trans ?_ (slots_eta slots)
  simp only [joinSlots, slotRecordAt, splitSlot, splitHalf, List.cons_append, List.nil_append, Nat.reduceMul,
    List.drop_succ_cons, List.drop_zero, List.take_succ_cons, List.take_zero, joinSlot, joinHalf_split]

/-- The frame of a command is its code with arguments of the code's length, and they read as the command. -/
theorem encodeFrame_spells {c : Instr} {frame : List Byte} (ok : c.wellFormed = true) (h : encodeFrame c = some frame) :
    ∃ code args, frame = commandFrame code args ∧ argumentLength code = some args.length ∧ args.length < 256 ∧
      commandOf code args = some c := by
  have spells {code : Byte} {args : List Byte} {n : Nat} (known : argumentLength code = some n) (length : args.length = n)
      (short : n < 256) (read : commandOf code args = some c) (e : some (commandFrame code args) = some frame) :
      ∃ code args, frame = commandFrame code args ∧ argumentLength code = some args.length ∧ args.length < 256 ∧
        commandOf code args = some c :=
    ⟨code, args, (Option.some.inj e).symm, known.trans (congrArg some length.symm), length ▸ short, read⟩
  unfold encodeFrame at h
  split at h
  case h_9 m =>
    refine spells (n := 3) rfl rfl (by decide) ?_ h
    show some (Instr.clearFaults (joinMap _ _ _)) = _
    rw [joinMap_split]
  case h_10 m v e t =>
    refine spells (n := 9) rfl rfl (by decide) ?_ h
    show some (Instr.setFaultControl (joinMap _ _ _) (joinMap _ _ _) e (joinHalf _ _)) = _
    rw [joinMap_split, joinMap_split, joinHalf_split]
  case h_13 cy n slots =>
    refine spells (n := 57) rfl rfl (by decide) ?_ h
    show some (Instr.stagePlan (joinHalf _ _) n (joinSlots _)) = _
    rw [joinHalf_split, joinSlots_split]
  case h_14 a f p v w m =>
    refine spells (n := 9) rfl rfl (by decide) ?_ h
    show some (Instr.setApproach a f p (joinHalf _ _) (joinHalf _ _) (joinHalf _ _)) = _
    rw [joinHalf_split, joinHalf_split, joinHalf_split]
  case h_15 i r f m =>
    refine spells (n := 5) rfl rfl (by decide) ?_ h
    show some (Instr.setRoute i (joinHalf _ _) f m) = _
    rw [joinHalf_split]
  case h_16 t =>
    refine spells (n := 14) rfl rfl (by decide) ?_ h
    show some (Instr.setClass #v[joinHalf _ _, joinHalf _ _, joinHalf _ _, joinHalf _ _, joinHalf _ _, joinHalf _ _,
      joinHalf _ _]) = _
    simp only [joinHalf_split]
    rw [thresholds_eta]
  case h_17 a b c d e f g p =>
    refine spells (n := 15) rfl rfl (by decide) ?_ h
    show some (Instr.setPolicy (joinHalf _ _) (joinHalf _ _) (joinHalf _ _) (joinHalf _ _) (joinHalf _ _) (joinHalf _ _)
      (joinHalf _ _) p) = _
    simp only [joinHalf_split]
  case h_18 l r b p w m s a n t =>
    refine spells (n := 16) rfl rfl (by decide) ?_ h
    show some (Instr.setLink l r b (joinHalf _ _) (joinHalf _ _) m (joinHalf _ _) (joinHalf _ _) (joinHalf _ _)
      (joinHalf _ _)) = _
    simp only [joinHalf_split]
  case h_20 d e f s t =>
    refine spells (n := 8) rfl rfl (by decide) ?_ h
    show some (Instr.setPins d e (joinHalf _ _) (joinHalf _ _) (joinHalf _ _)) = _
    simp only [joinHalf_split]
  case h_23 i a n =>
    refine spells (n := 4) rfl rfl (by decide) ?_ h
    show some (Instr.forceGrant i a (joinHalf _ _)) = _
    rw [joinHalf_split]
  case h_25 a =>
    refine spells (n := 1) rfl rfl (by decide) ?_ h
    show some (holdCommand a) = _
    exact congrArg some (if_neg (of_decide_eq_true ok))
  case h_1 | h_2 | h_5 | h_7 | h_11 | h_12 | h_27 | h_28 => exact spells (n := 0) rfl rfl (by decide) rfl h
  case h_3 | h_4 | h_6 | h_8 | h_19 | h_21 | h_22 | h_24 | h_26 => exact spells (n := 1) rfl rfl (by decide) rfl h
  all_goals cases h

theorem decodeFrame_encodeFrame {c : Instr} {frame : List Byte} (ok : c.wellFormed = true) (h : encodeFrame c = some frame)
    (extra : List Byte) : decodeFrame (frame ++ extra) = c := by
  obtain ⟨code, args, rfl, known, short, read⟩ := encodeFrame_spells ok h
  exact decodeFrame_commandFrame known short read extra

/-! ## Bits on SDI -/

/-- A byte's bits, most significant first. -/
def byteBits (b : Byte) : List Bool := (List.range 8).map fun k => b.getLsbD (7 - k)

theorem ofBoolListBE_byteBits (b : Byte) : BitVec.ofBoolListBE [b.getLsbD 7, b.getLsbD 6, b.getLsbD 5, b.getLsbD 4,
    b.getLsbD 3, b.getLsbD 2, b.getLsbD 1, b.getLsbD 0] = b := by
  apply BitVec.eq_of_getLsbD_eq
  intro i (hi : i < 8)
  interval_cases i <;> simp [BitVec.ofBoolListBE, BitVec.getElem_cons]

/-- A byte that the transaction ends partway through is discarded. -/
theorem wholeBytes_cut {cut : List Bool} (short : cut.length < 8) : wholeBytes cut = [] := by
  unfold wholeBytes
  split
  · simp only [List.length_cons] at short
    omega
  · rfl

/-- The bytes that SDI carries are read whole. -/
theorem wholeBytes_flatMap (bytes : List Byte) {cut : List Bool} (short : cut.length < 8) :
    wholeBytes (bytes.flatMap byteBits ++ cut) = bytes := by
  induction bytes with
  | nil => exact wholeBytes_cut short
  | cons b bytes ih =>
    have first : wholeBytes ((b :: bytes).flatMap byteBits ++ cut) = BitVec.ofBoolListBE [b.getLsbD 7, b.getLsbD 6,
        b.getLsbD 5, b.getLsbD 4, b.getLsbD 3, b.getLsbD 2, b.getLsbD 1, b.getLsbD 0] ::
        wholeBytes (bytes.flatMap byteBits ++ cut) := rfl
    rw [first, ofBoolListBE_byteBits, ih]

/-- Settles O13. -/
theorem Machine.commandFramesRoundTrip : Obligations.CommandFramesRoundTrip :=
  ⟨fun _ frame extra ok h => ⟨decodeFrame_encodeFrame ok h extra, fun _ short =>
    (congrArg decodeFrame (wholeBytes_flatMap (frame ++ extra) short)).trans (decodeFrame_encodeFrame ok h extra)⟩,
    fun bytes _ short => wholeBytes_flatMap bytes short⟩

end Sys2Proof

namespace Sys2Proof.Machine

theorem halfOfBytes_halfBytes (h : Half) : halfOfBytes (h.extractLsb' 8 8) (h.extractLsb' 0 8) = h := joinHalf_split h

theorem lateness_of_half {late : Int} (low : -32768 ≤ late) (high : late ≤ 32767) : (BitVec.ofInt 16 late).toInt = late := by
  rw [BitVec.toInt_ofInt]
  simp only [Int.bmod]
  omega

theorem nat_of_half {n : Nat} (h : n < 65536) : (BitVec.ofNat 16 n).toNat = n := by
  rw [BitVec.toNat_ofNat]
  omega

theorem route_of_half (r : BitVec 10) : (r.setWidth 16).extractLsb' 0 10 = r := by
  apply BitVec.eq_of_getLsbD_eq
  intro i hi
  simp [BitVec.getLsbD_setWidth, hi]
  omega

/-- The first byte of a frame's body, from its type, its contained flag and its kind (R183). -/
def headByte (isReply contained : Bool) (kind : BitVec 2) : Byte :=
  (if isReply then 0x80 else 0) ||| (if contained then 0x40 else 0) ||| kind.setWidth 8

theorem headByte_fields (isReply contained : Bool) (kind : BitVec 2) :
    (headByte isReply contained kind).getLsbD 7 = isReply ∧ (headByte isReply contained kind).getLsbD 6 = contained ∧
      kindBits (headByte isReply contained kind) = kind := by
  revert isReply contained kind
  decide

/-- The message kind and payload of a frame read as the message sent. -/
theorem messageOf_payloadOf (f : OutFrame) (fits : ∀ m a level ackTimeout, f.msg = some (.handoff m a level ackTimeout) →
      -32768 ≤ m.lateness ∧ m.lateness ≤ 32767 ∧ m.nominal < 65536 ∧ m.tolerance < 65536) :
    messageOf (payloadOf f.msg).1 (payloadOf f.msg).2 = some f.asReceived.msg := by
  unfold OutFrame.asReceived
  cases h : f.msg with
  | none => rfl
  | some m =>
    cases m with
    | ack id result => rfl
    | handoff m a level ackTimeout =>
      obtain ⟨low, high, nominal, tolerance⟩ := fits m a level ackTimeout h
      show some (InMsg.handoff { id := m.id, vehicle := halfOfBytes _ _, route := (halfOfBytes _ _).extractLsb' 0 10
                                 lateness := (halfOfBytes _ _).toInt, nominal := (halfOfBytes _ _).toNat
                                 tolerance := (halfOfBytes _ _).toNat }) = _
      simp only [halfOfBytes_halfBytes, route_of_half, lateness_of_half low high, nat_of_half nominal,
        nat_of_half tolerance]

theorem payloadOf_length (msg : Option OutMsg) : bodyLength (payloadOf msg).1 = (payloadOf msg).2.length + 2 := by
  cases msg with
  | none => rfl
  | some m => cases m <;> rfl

theorem corridorFrameLength_eq (b : Byte) : corridorFrameLength b = bodyLength (kindBits b) + 2 := by
  unfold corridorFrameLength bodyLength kindBits
  generalize (b.extractLsb' 0 2).toNat = kind
  match kind with
  | 0 | 1 | 2 | _ + 3 => rfl

/-- A frame of the right length whose CRC is that of its body is read by its kind and payload (R137, R138). -/
theorem receiveFrame_of_crc {b0 sender : Byte} {payload : List Byte} {msg : InMsg}
    (length : bodyLength (kindBits b0) = payload.length + 2) (read : messageOf (kindBits b0) payload = some msg) :
    receiveFrame (b0 :: sender :: payload ++ halfBytes (crc16 (b0 :: sender :: payload))) =
      .valid { isReply := b0.getLsbD 7, contained := b0.getLsbD 6, sender, msg } := by
  have body : (b0 :: sender :: payload ++ halfBytes (crc16 (b0 :: sender :: payload))).take (payload.length + 2) =
      b0 :: sender :: payload := List.take_left' rfl
  have check : (b0 :: sender :: payload ++ halfBytes (crc16 (b0 :: sender :: payload))).drop (payload.length + 2) =
      halfBytes (crc16 (b0 :: sender :: payload)) := List.drop_left' rfl
  unfold receiveFrame
  simp only [List.cons_append, length] at body check ⊢
  rw [body, check]
  simp only [halfBytes, halfOfBytes_halfBytes, ne_eq, not_true_eq_false, ↓reduceIte, read]

/-- Settles O14. -/
theorem corridorFramesRoundTrip : Obligations.CorridorFramesRoundTrip := by
  intro f fits
  obtain ⟨reply, contained, kind⟩ := headByte_fields f.isReply f.contained (payloadOf f.msg).1
  have body : frameBody f = headByte f.isReply f.contained (payloadOf f.msg).1 :: f.sender :: (payloadOf f.msg).2 := rfl
  refine ⟨?_, ?_⟩
  · have counted : (frameBytes f).length = corridorFrameLength (headByte f.isReply f.contained (payloadOf f.msg).1) := by
      rw [corridorFrameLength_eq, kind, payloadOf_length, frameBytes, body]
      simp [halfBytes]
    exact decide_eq_true counted
  · rw [frameBytes, body, receiveFrame_of_crc (by rw [kind, payloadOf_length]) (by rw [kind]; exact messageOf_payloadOf f fits),
      reply, contained]
    rfl

end Sys2Proof.Machine

end

section
/-! PROOFS. Faults, containment and the settings commands (O16, O20, O21, O23 to O29). -/

namespace Sys2Proof.Machine

/-! ## Fault maps -/

@[simp] theorem kindBit_or (m n : BitVec 19) (k : FaultKind) : kindBit (m ||| n) k = (kindBit m k || kindBit n k) :=
  BitVec.getLsbD_or

theorem faultIndex_injective : Function.Injective faultIndex := by
  intro j k h
  have same : ∀ k, faultKinds[(faultIndex k).val]? = some k := by
    intro k
    cases k <;> rfl
  exact Option.some.inj ((same j).symm.trans (h ▸ same k))

theorem kindBit_kindMap (k j : FaultKind) : kindBit (kindMap k) j = decide (j = k) := by
  have small := (faultIndex j).isLt
  have one : kindBit (kindMap k) j = decide ((faultIndex j).val = (faultIndex k).val) := by
    simp only [kindBit, kindMap, BitVec.getLsbD_shiftLeft, small, decide_true, Bool.true_and]
    by_cases h : (faultIndex j).val < (faultIndex k).val
    · simp [h, Nat.ne_of_lt h]
    · simp [h]
      omega
  rw [one]
  exact decide_eq_decide.mpr ⟨fun h => faultIndex_injective (Fin.ext h), fun h => h ▸ rfl⟩

/-! ## An occurrence at the recorder -/

theorem takePointer_eq (f : FaultRecorder) (k : FaultKind) (t : Time) (src : FaultSource) (v : Option Vehicle) :
    takePointer f k t src v = { f with
      pointer := if f.pointer = none then some k else f.pointer
      record := if f.pointer = none then { valid := true, kind := k, time := t, source := src, vehicle := v }
        else f.record } := by
  unfold takePointer
  cases f with
  | mk status mask severity pointer record => cases pointer <;> rfl

/-- The state with an unmasked occurrence recorded, before any trigger (R154, R157, R159). -/
def State.recorded (s : State) (k : FaultKind) (src : FaultSource) (v : Option Vehicle) : State :=
  { s with
    faults := { s.faults with
      status := s.faults.status ||| kindMap k
      pointer := if s.faults.pointer = none then some k else s.faults.pointer
      record := if s.faults.pointer = none then { valid := true, kind := k, time := s.time, source := src, vehicle := v }
        else s.faults.record }
    port := { s.port with events := { s.port.events with flt := true } } }

/-- An occurrence sets its status; unmasked it is recorded, and of severity CONTAIN it is a trigger. -/
theorem State.occur_eq (s : State) (k : FaultKind) (src : FaultSource) (v : Option Vehicle) : s.occur k src v =
    if kindBit s.faults.mask k then { s with faults := { s.faults with status := s.faults.status ||| kindMap k } }
    else if kindBit s.faults.severity k then (s.recorded k src v).trigger (.fault k) else s.recorded k src v := by
  have recorded : State.raise { s with faults := takePointer { s.faults with
      status := s.faults.status ||| kindMap k } k s.time src v } .flt = s.recorded k src v := by
    rw [takePointer_eq]
    rfl
  unfold State.occur
  simp only [← recorded]
  congr 2
  rw [takePointer_eq]
  rfl

/-- Settles O16. -/
theorem occurrenceIsRecorded : Obligations.OccurrenceIsRecorded := by
  intro s k src v
  refine ⟨by simp [kindBit_kindMap], fun j h => by simp [kindBit_kindMap, h], fun masked => ?_, fun seen record => ?_,
    fun seen contain => ?_⟩
  · rw [State.occur_eq, if_pos masked]
  · rw [State.occur_eq, seen, record]
    rfl
  · rw [State.occur_eq, seen, contain]
    rfl

/-! ## The fault controls -/

/-- The pointer returns to NONE where a map names its kind (R158). -/
theorem releasePointer_of_named {f : FaultRecorder} {m : BitVec 19} (h : ∃ k, f.pointer = some k ∧ kindBit m k = true) :
    releasePointer f m = { f with pointer := none, record := { f.record with valid := false } } := by
  obtain ⟨k, pointer, named⟩ := h
  unfold releasePointer
  rw [pointer]
  exact if_pos named

theorem releasePointer_of_unnamed {f : FaultRecorder} {m : BitVec 19} (h : ¬ ∃ k, f.pointer = some k ∧ kindBit m k = true) :
    releasePointer f m = f := by
  unfold releasePointer
  split
  · rename_i k pointer
    exact if_neg fun named => h ⟨k, pointer, named⟩
  · rfl

section Pointer
variable {f : FaultRecorder} {m : BitVec 19}

theorem faultsCleared_of_named (h : ∃ k, f.pointer = some k ∧ kindBit m k = true) : faultsCleared f m =
    { f with status := f.status &&& ~~~m, pointer := none, record := { f.record with valid := false } } :=
  releasePointer_of_named (f := { f with status := f.status &&& ~~~m }) h

theorem faultsCleared_of_unnamed (h : ¬ ∃ k, f.pointer = some k ∧ kindBit m k = true) :
    faultsCleared f m = { f with status := f.status &&& ~~~m } :=
  releasePointer_of_unnamed (f := { f with status := f.status &&& ~~~m }) h

theorem faultsControlled_of_named (h : ∃ k, f.pointer = some k ∧ kindBit m k = true) (severity : BitVec 19) :
    faultsControlled f m severity =
      { f with mask := m, severity, pointer := none, record := { f.record with valid := false } } :=
  releasePointer_of_named (f := { f with mask := m, severity }) h

theorem faultsControlled_of_unnamed (h : ¬ ∃ k, f.pointer = some k ∧ kindBit m k = true) (severity : BitVec 19) :
    faultsControlled f m severity = { f with mask := m, severity } :=
  releasePointer_of_unnamed (f := { f with mask := m, severity }) h

end Pointer

theorem durationIn_eq_some_iff (w : Half) (lo hi n : Nat) :
    durationIn w lo hi = some n ↔ duration w = some n ∧ lo ≤ n ∧ n ≤ hi := by
  unfold durationIn inRange
  constructor
  · intro h
    obtain ⟨d, hd, e⟩ := Option.bind_eq_some_iff.mp h
    split at e
    · cases e
      exact ⟨hd, ‹_›⟩
    · cases e
  · rintro ⟨hd, range⟩
    rw [hd]
    exact if_pos range

theorem twoValued_eq_some_iff {α : Type} (b : Byte) (zero one x : α) :
    twoValued b zero one = some x ↔ b = 0 ∧ x = zero ∨ b = 1 ∧ x = one := by
  unfold twoValued
  split
  · rename_i h
    subst h
    simp [eq_comm]
  · split
    · rename_i h
      subst h
      simp [eq_comm]
    · rename_i h0 h1
      refine iff_of_false nofun ?_
      rintro (⟨h, _⟩ | ⟨h, _⟩)
      · exact h0 h
      · exact h1 h

/-- A reading refused has no value of the right kind. -/
theorem eq_none_of_forall_ne {α : Type} {x : Option α} (h : ∀ a, x ≠ some a) : x = none := by
  cases x with
  | none => rfl
  | some a => exact absurd rfl (h a)

/-- Settles O20. -/
theorem faultControls : Obligations.FaultControls := by
  intro s serves
  refine ⟨fun map => ?clear, fun mask severity enable settle => ⟨fun d reads low high two => ?control, fun out => ?refuse⟩⟩
  case clear =>
    have cleared : exec (.clearFaults map) s = .next (State.replied
        { s with faults := faultsCleared s.faults (mapOf map) } 0x10 .ok
        (mapBytes (faultsCleared s.faults (mapOf map)).status)) :=
      congrArg Host.Outcome.next (State.take_answers serves _ rfl)
    refine ⟨fun named => ?_, fun unnamed => ?_⟩
    · rw [cleared, faultsCleared_of_named (m := mapOf map) named]
      rfl
    · rw [cleared, faultsCleared_of_unnamed (m := mapOf map) unnamed]
      rfl
  case control =>
    have controlled : exec (.setFaultControl mask severity enable settle) s = .next (State.replied { s with
        faults := faultsControlled s.faults (mapOf mask) (mapOf severity)
        containment := { s.containment with enable := decide (enable = 1), settleTimeout := d } } 0x11 .ok []) := by
      refine congrArg Host.Outcome.next (State.take_answers serves _ ?_)
      have on : twoValued enable false true = some (decide (enable = 1)) :=
        (twoValued_eq_some_iff ..).mpr (two.imp (fun h => ⟨h, h ▸ rfl⟩) fun h => ⟨h, decide_eq_true h⟩)
      rw [State.judgeFaultControl, on, (durationIn_eq_some_iff ..).mpr ⟨reads, low, high⟩]
      rfl
    refine ⟨fun named => ?_, fun unnamed => ?_⟩
    · rw [controlled, faultsControlled_of_named (m := mapOf mask) named]
      rfl
    · rw [controlled, faultsControlled_of_unnamed (m := mapOf mask) unnamed]
      rfl
  case refuse =>
    refine congrArg Host.Outcome.next (State.take_refused serves _ _ _ ?_)
    unfold State.judgeFaultControl
    split
    · rename_i on d hon hd
      obtain ⟨reads, low, high⟩ := (durationIn_eq_some_iff ..).mp hd
      rcases out with out | ⟨h0, h1⟩
      · have := out d reads
        omega
      · rcases (twoValued_eq_some_iff ..).mp hon with ⟨h, _⟩ | ⟨h, _⟩
        · exact absurd h h0
        · exact absurd h h1
    · rfl

/-! ## Containment -/

theorem State.trigger_of_barred {s : State} {x : ContainReason}
    (h : s.containment.enable = false ∨ s.containment.state ≠ .normal) : s.trigger x = s := by
  refine if_neg ?_
  rintro ⟨enabled, normal⟩
  rcases h with h | h
  · rw [enabled] at h
    cases h
  · exact h normal

theorem State.trigger_endTransaction (s : State) (x : ContainReason) :
    s.endTransaction.trigger x = (s.trigger x).endTransaction := by
  have shown := s.trigger_withPort s.port x
  rw [show s.endTransaction = s.withPort { s.port with transaction := none } from rfl, State.trigger_withPort]
  rw [show s.withPort s.port = s from rfl] at shown
  generalize s.trigger x = t at shown ⊢
  rw [shown]
  rfl

/-- The settle timer at its event (R163). -/
theorem exec_settleTimeout {s : State} (released : s.held = false) : exec .settleTimeout s = .next s.settleTimeout :=
  congrArg Host.Outcome.next (State.whenReleased_of_released released _)

/-- CONTAIN outside NORMAL changes nothing and answers the state in force (R161, R162). -/
theorem exec_contain_of_contained {s : State} {k : ContainState} (serves : s.Serves) (enabled : s.containment.enable = true)
    (contained : s.containment.state = k) (barred : k ≠ .normal) :
    exec .contain s = .next (s.replied 0x12 .ok (containCode k :: reasonBytes (reasonOf k))) := by
  refine congrArg Host.Outcome.next (State.take_answers serves _ ?_)
  have still : s.endTransaction.trigger .software = s.endTransaction := State.trigger_of_barred (.inr (contained ▸ barred))
  unfold State.judgeContain
  simp only [still, State.endTransaction_containment, contained]
  exact if_pos enabled

/-- Settles O21. -/
theorem containAndSettle : Obligations.ContainAndSettle := by
  refine ⟨fun s serves => ⟨fun off => ?off, fun enabled normal => ?normal,
    fun k e enabled settling => exec_contain_of_contained serves enabled settling nofun,
    fun e enabled settling => exec_contain_of_contained serves enabled settling nofun,
    fun k enabled held => exec_contain_of_contained serves enabled held nofun,
    fun enabled held => exec_contain_of_contained serves enabled held nofun⟩,
    fun s released => ⟨fun r e settling due => ?due, fun r e settling early => ?early, fun other => ?other⟩⟩
  case off =>
    exact congrArg Host.Outcome.next (State.take_refused serves _ _ _ (if_neg (Bool.eq_false_iff.mp off)))
  case normal =>
    refine congrArg Host.Outcome.next (State.take_answers serves _ ?_)
    have settles : (s.trigger .software).containment.state =
        .settling .software (timePlus s.time s.containment.settleTimeout) := by
      unfold State.trigger
      rw [if_pos ⟨enabled, normal⟩]
      simp only [State.endAll]
      rw [State.raise_containment, State.endWhere_frame]
      rfl
    have on : s.endTransaction.containment.enable = true := enabled
    unfold State.judgeContain
    rw [if_pos on, State.trigger_endTransaction]
    simp only [State.endTransaction_containment, settles]
    rfl
  case due =>
    rw [exec_settleTimeout released, State.settleTimeout, settling]
    exact congrArg Host.Outcome.next (if_pos due)
  case early =>
    rw [exec_settleTimeout released, State.settleTimeout, settling]
    exact congrArg Host.Outcome.next (if_neg (Bool.eq_false_iff.mp early))
  case other =>
    rw [exec_settleTimeout released]
    unfold State.settleTimeout
    split
    · rename_i r e h
      exact absurd h (other r e)
    · rfl


/-! ## Readings of settings -/

theorem numberIn_eq_some_iff (w : Half) (lo hi n : Nat) :
    numberIn w lo hi = some n ↔ w.toNat = n ∧ lo ≤ n ∧ n ≤ hi := by
  unfold numberIn inRange
  constructor
  · intro h
    split at h
    · cases h
      exact ⟨rfl, ‹_›⟩
    · cases h
  · rintro ⟨rfl, range⟩
    exact if_pos range

theorem inRange_eq_some_iff (m lo hi n : Nat) : inRange m lo hi = some n ↔ m = n ∧ lo ≤ n ∧ n ≤ hi := by
  unfold inRange
  constructor
  · intro h
    split at h
    · cases h
      exact ⟨rfl, ‹_›⟩
    · cases h
  · rintro ⟨rfl, range⟩
    exact if_pos range

theorem policySettings_eq_some_iff (b d r a v h t : Half) (pre : Byte) (p : Policy) :
    policySettings b d r a v h t pre = some p ↔
      (duration b = some p.budget ∧ 0 ≤ p.budget ∧ p.budget ≤ 600) ∧
      (duration d = some p.debtCap ∧ 0 ≤ p.debtCap ∧ p.debtCap ≤ 3000) ∧
      (duration r = some p.repay ∧ 0 ≤ p.repay ∧ p.repay ≤ 600) ∧
      (duration a = some p.aMin ∧ 0 ≤ p.aMin ∧ p.aMin ≤ 100) ∧
      (duration v = some p.advTol ∧ 10 ≤ p.advTol ∧ p.advTol ≤ 100) ∧
      (duration h = some p.horizon ∧ 100 ≤ p.horizon ∧ p.horizon ≤ 1200) ∧
      (duration t = some p.tStale ∧ 10 ≤ p.tStale ∧ p.tStale ≤ 600) ∧
      (pre = 0 ∧ p.preemption = false ∨ pre = 1 ∧ p.preemption = true) := by
  simp only [policySettings, Option.bind_eq_bind, Option.bind_eq_some_iff, durationIn_eq_some_iff, twoValued_eq_some_iff,
    Option.pure_def, Option.some.injEq]
  constructor
  · rintro ⟨_, hb, _, hd, _, hr, _, ha, _, hv, _, hh, _, ht, _, hp, rfl⟩
    exact ⟨hb, hd, hr, ha, hv, hh, ht, hp⟩
  · rintro ⟨hb, hd, hr, ha, hv, hh, ht, hp⟩
    exact ⟨_, hb, _, hd, _, hr, _, ha, _, hv, _, hh, _, ht, _, hp, rfl⟩

/-- A command whose effect leaves the port alone, accepted without data. -/
theorem exec_accepted {s : State} (serves : s.Serves) (echo : Byte) (judge : State → Judged) (f : State → State)
    (hf : ∀ (t : State) p, f (t.withPort p) = (f t).withPort p) (hj : judge s.endTransaction = okWith (f s.endTransaction) []) :
    Host.Outcome.next (φ := Fault) (ρ := Refusal) (s.take echo judge) = .next ((f s).replied echo .ok []) :=
  congrArg _ (State.take_accepted serves echo judge f hf [] hj)

/-- Settles O25. -/
theorem setPolicyReplacesSettings : Obligations.SetPolicyReplacesSettings := by
  intro s b d r a v h t pre serves
  refine ⟨fun out => congrArg Host.Outcome.next (State.take_refused serves _ _ _ ?_), fun nb nd nr na nv nh nt legal =>
    ⟨tabulate fun k => min s.account.debt[k] nd, fun k => tabulate_get _ k, ?_⟩⟩
  · have none : policySettings b d r a v h t pre = none := eq_none_of_forall_ne fun p hp => by
      obtain ⟨hb, hd, hr, ha, hv, hh, ht, hp⟩ := (policySettings_eq_some_iff ..).mp hp
      exact out _ _ _ _ _ _ _ ⟨hb, hd, hr, ha, hv, hh, ht, hp.imp And.left And.left⟩
    rw [State.judgePolicy, none]
  · obtain ⟨hb, hd, hr, ha, hv, hh, ht, hp⟩ := legal
    have read := (policySettings_eq_some_iff b d r a v h t pre { budget := nb, debtCap := nd, repay := nr, aMin := na, advTol := nv
                                                                 horizon := nh, tStale := nt
                                                                 preemption := decide (pre = 1) }).mpr
      ⟨hb, hd, hr, ha, hv, hh, ht, hp.imp (fun h => ⟨h, h ▸ rfl⟩) fun h => ⟨h, decide_eq_true h⟩⟩
    refine exec_accepted serves _ _ (fun u => State.cause { u with
      policy := { budget := nb, debtCap := nd, repay := nr, aMin := na, advTol := nv, horizon := nh, tStale := nt
                  preemption := decide (pre = 1) }
      account := accountCapped u.account nd }) (fun u p => State.cause_withPort { u with
        policy := _, account := _ } p) ?_
    rw [State.judgePolicy, read]

/-! ## Approaches, routes and classes -/

theorem approachOfByte_of_val {b : Byte} {a : Approach} (h : a.val = b.toNat) : approachOfByte b = some a := by
  unfold approachOfByte
  rw [dif_pos (h ▸ a.isLt)]
  exact congrArg some (Fin.ext h.symm)

theorem approachOfByte_of_ge {b : Byte} (h : 4 ≤ b.toNat) : approachOfByte b = none := dif_neg (Nat.not_lt.mpr h)

theorem entrySideOfBits_eq_some_iff (b : BitVec 2) (x : EntrySide) : entrySideOfBits b = some x ↔
    b ≠ 3 ∧ x = if b = 0 then .none else if b = 1 then .fromA else .fromB := by
  cases x <;> revert b <;> decide

theorem exitSideOfBits_eq_some_iff (b : BitVec 2) (x : ExitSide) : exitSideOfBits b = some x ↔
    b ≠ 3 ∧ x = if b = 0 then .none else if b = 1 then .toA else .toB := by
  cases x <;> revert b <;> decide

theorem phaseOfNumber_isSome_iff (n : Nat) : (∃ ph, phaseOfNumber n = some ph) ↔ 1 ≤ n ∧ n ≤ 6 := by
  constructor
  · rintro ⟨ph, h⟩
    unfold phaseOfNumber at h
    split at h <;> first | omega | cases h
  · rintro ⟨low, high⟩
    interval_cases n <;> exact ⟨_, rfl⟩

theorem approachSettings_eq_some_iff (flags phase : Byte) (vFree vFloor margin : Half) (cfg : ApproachConfig) :
    approachSettings flags phase vFree vFloor margin = some cfg ↔
      (flags.extractLsb' 2 2 ≠ 3 ∧ cfg.entrySide = if flags.extractLsb' 2 2 = 0 then .none
        else if flags.extractLsb' 2 2 = 1 then .fromA else .fromB) ∧
      (flags.extractLsb' 0 2 ≠ 3 ∧ cfg.exitSide = if flags.extractLsb' 0 2 = 0 then .none
        else if flags.extractLsb' 0 2 = 1 then .toA else .toB) ∧
      phaseOfNumber phase.toNat = some cfg.phase ∧
      (vFree.toNat = cfg.vFree ∧ 20 ≤ cfg.vFree ∧ cfg.vFree ≤ 300) ∧
      (vFloor.toNat = cfg.vFloor ∧ 10 ≤ cfg.vFloor ∧ cfg.vFloor ≤ cfg.vFree) ∧
      (duration margin = some cfg.margin ∧ 0 ≤ cfg.margin ∧ cfg.margin ≤ 100) ∧
      cfg.enabled = flags.getLsbD 7 ∧ cfg.link = (if flags.getLsbD 6 then .rx1 else .rx0) ∧
      cfg.loopUse = flags.getLsbD 5 := by
  simp only [approachSettings, Option.bind_eq_bind, Option.bind_eq_some_iff, durationIn_eq_some_iff, numberIn_eq_some_iff,
    entrySideOfBits_eq_some_iff, exitSideOfBits_eq_some_iff, Option.pure_def, Option.some.injEq]
  constructor
  · rintro ⟨_, he, _, hx, _, hp, _, hf, _, hl, _, hm, rfl⟩
    exact ⟨he, hx, hp, hf, hl, hm, rfl, rfl, rfl⟩
  · rintro ⟨he, hx, hp, hf, hl, hm, h7, h6, h5⟩
    refine ⟨_, he, _, hx, _, hp, _, hf, _, hl, _, hm, ?_⟩
    rw [← h7, ← h6, ← h5]

theorem State.approachInUse_iff (s : State) (a : Approach) :
    s.approachInUse a = true ↔ ∃ (i : EntryIx) (e : Entry), s.table[i] = some e ∧ e.approach = a := by
  simp only [State.approachInUse, State.liveEntries, List.any_eq_true, List.mem_filterMap, Option.map_eq_some_iff]
  constructor
  · rintro ⟨_, ⟨i, _, e, h, rfl⟩, d⟩
    exact ⟨i, e, h, of_decide_eq_true d⟩
  · rintro ⟨i, e, h, d⟩
    exact ⟨(i, e), ⟨i, (by decide : ∀ i : EntryIx, i ∈ allEntries) i, e, h, rfl⟩, decide_eq_true d⟩

/-- The range of SET_APPROACH's arguments but for its approach byte (R18). -/
theorem approachSettings_isSome_iff (flags phase : Byte) (vFree vFloor margin : Half) :
    (∃ cfg, approachSettings flags phase vFree vFloor margin = some cfg) ↔ ∃ m,
      flags.extractLsb' 2 2 ≠ 3 ∧ flags.extractLsb' 0 2 ≠ 3 ∧ 1 ≤ phase.toNat ∧ phase.toNat ≤ 6 ∧ 20 ≤ vFree.toNat ∧
      vFree.toNat ≤ 300 ∧ 10 ≤ vFloor.toNat ∧ vFloor.toNat ≤ vFree.toNat ∧ duration margin = some m ∧ m ≤ 100 := by
  constructor
  · rintro ⟨cfg, h⟩
    obtain ⟨⟨he, _⟩, ⟨hx, _⟩, hp, ⟨hf, hf1, hf2⟩, ⟨hl, hl1, hl2⟩, ⟨hm, _, hm2⟩, _⟩ := (approachSettings_eq_some_iff ..).mp h
    obtain ⟨hp1, hp2⟩ := (phaseOfNumber_isSome_iff _).mp ⟨_, hp⟩
    exact ⟨_, he, hx, hp1, hp2, hf ▸ hf1, hf ▸ hf2, hl ▸ hl1, by rw [hl, hf]; exact hl2, hm, hm2⟩
  · rintro ⟨m, he, hx, hp1, hp2, hf1, hf2, hl1, hl2, hm, hm2⟩
    obtain ⟨ph, hp⟩ := (phaseOfNumber_isSome_iff _).mpr ⟨hp1, hp2⟩
    exact ⟨{ enabled := _, link := _, phase := ph, entrySide := _, exitSide := _, vFree := _, vFloor := _, margin := m
             loopUse := _ }, (approachSettings_eq_some_iff ..).mpr
      ⟨⟨he, rfl⟩, ⟨hx, rfl⟩, hp, ⟨rfl, hf1, hf2⟩, ⟨rfl, hl1, hl2⟩, ⟨hm, Nat.zero_le _, hm2⟩, rfl, rfl, rfl⟩⟩

/-- The record replaced, and the loop reset unless it stays watched (R15, R18). -/
theorem State.writeApproach_eq (s : State) (a : Approach) (cfg : ApproachConfig) : s.writeApproach a cfg = { s with
    approaches := put s.approaches a cfg
    loops := if cfg.enabled && cfg.loopUse then s.loops else put s.loops a (unwatchedLoop s.loops[a]) } := by
  unfold State.writeApproach
  cases cfg.enabled && cfg.loopUse <;> rfl

/-- An accepted SET_APPROACH, field by field. -/
theorem State.writeApproach_written (s : State) (a : Approach) (cfg : ApproachConfig) :
    let t := s.writeApproach a cfg
    t = { s with approaches := t.approaches, loops := t.loops } ∧ t.approaches[a] = cfg ∧
      (∀ b, b ≠ a → t.approaches[b] = s.approaches[b] ∧ t.loops[b] = s.loops[b]) ∧
      ((cfg.enabled && cfg.loopUse) = true → t.loops[a] = s.loops[a]) ∧
      ((cfg.enabled && cfg.loopUse) = false → t.loops[a] = unwatchedLoop s.loops[a]) := by
  rw [State.writeApproach_eq]
  refine ⟨rfl, put_same _ _ _, fun b other => ⟨put_other _ _ other, ?_⟩, fun watched => ?_, fun unwatched => ?_⟩
  · simp only []
    split
    · rfl
    · exact put_other _ _ other
  · simp only [watched, if_true]
  · simp only [unwatched, Bool.false_eq_true, if_false]
    exact put_same _ _ _

/-- Settles O23. -/
theorem setApproachReplacesTheRecord : Obligations.SetApproachReplacesTheRecord := by
  intro s ap flags phase vFree vFloor margin serves
  refine ⟨fun out => congrArg Host.Outcome.next (State.take_refused serves _ _ _ ?out),
    fun m a legal names used => congrArg Host.Outcome.next (State.take_refused serves _ _ _ ?used),
    fun m a legal names free => ?written⟩
  case out =>
    unfold State.judgeApproach
    split
    · rename_i a cfg ha hcfg
      obtain ⟨m, h⟩ := (approachSettings_isSome_iff ..).mp ⟨cfg, hcfg⟩
      refine absurd ⟨?_, h⟩ (out m)
      by_contra high
      rw [approachOfByte_of_ge (Nat.not_lt.mp high)] at ha
      cases ha
    · rfl
  case used =>
    obtain ⟨cfg, hcfg⟩ := (approachSettings_isSome_iff ..).mpr ⟨m, legal.2⟩
    unfold State.judgeApproach
    rw [approachOfByte_of_val names, hcfg]
    exact if_pos ((State.approachInUse_iff s a).mpr used)
  case written =>
    obtain ⟨cfg, hcfg⟩ := (approachSettings_isSome_iff ..).mpr ⟨m, legal.2⟩
    obtain ⟨_, _, _, _, _, _, _, _, _, reads, _⟩ := legal
    obtain ⟨⟨_, he⟩, ⟨_, hx⟩, hp, ⟨hf, _⟩, ⟨hl, _⟩, ⟨hm, _⟩, h7, h6, h5⟩ := (approachSettings_eq_some_iff ..).mp hcfg
    have unused : s.approachInUse a = false := by
      rw [Bool.eq_false_iff, ne_eq, State.approachInUse_iff]
      rintro ⟨i, e, h, used⟩
      exact free i e h used
    have written : exec (.setApproach ap flags phase vFree vFloor margin) s =
        .next ((s.writeApproach a cfg).replied 0x21 .ok []) := by
      refine exec_accepted serves _ _ (fun u => u.writeApproach a cfg) (fun u p => ?_) ?_
      · simp only [State.writeApproach_eq]
        rfl
      · unfold State.judgeApproach
        rw [approachOfByte_of_val names, hcfg]
        exact if_neg (Bool.eq_false_iff.mp unused)
    obtain ⟨frame, record, others, watched, unwatched⟩ := s.writeApproach_written a cfg
    generalize s.writeApproach a cfg = t at *
    rw [h7, h5] at watched unwatched
    refine ⟨_, written, congrArg (State.replied · 0x21 .ok []) frame, others, ?_⟩
    simp only [State.replied_approaches, State.replied_loops, record]
    refine ⟨hp.symm, h7, h6, h5, he, hx, hf.symm, hl.symm, Option.some.inj (hm.symm.trans reads), fun on => watched ?_,
      fun off => ?_⟩
    · rw [on.1, on.2]
      rfl
    · rw [unwatched ((Bool.and_eq_false_iff ..).mpr off)]
      exact ⟨rfl, rfl, rfl⟩


theorem routeSettings_eq_some_iff (ix : Byte) (route : Half) (flags mode : Byte) (i : Fin 32) (e : RouteEntry) (m : RouteMode) :
    routeSettings ix route flags mode = some (i, e, m) ↔ ix.toNat = i.val ∧ route.toNat ≤ 1023 ∧
      (mode = 0 ∧ m = .openMode ∨ mode = 1 ∧ m = .strict) ∧
      e = { route := route.setWidth 10, mask := flags.extractLsb' 0 4, cap := (flags.extractLsb' 4 3).toNat
            enabled := flags.getLsbD 7 } := by
  unfold routeSettings
  by_cases inside : ix.toNat < 32
  · simp only [inside, ↓reduceDIte, Option.bind_eq_bind, Option.bind_some, Option.bind_eq_some_iff, numberIn_eq_some_iff,
      twoValued_eq_some_iff, Option.pure_def, Option.some.injEq, Prod.mk.injEq]
    constructor
    · rintro ⟨_, ⟨rfl, -, hr⟩, _, hm, rfl, rfl, rfl⟩
      exact ⟨rfl, hr, hm, rfl⟩
    · rintro ⟨hi, hr, hm, rfl⟩
      exact ⟨_, ⟨rfl, Nat.zero_le _, hr⟩, _, hm, Fin.ext hi, rfl, rfl⟩
  · rw [dif_neg inside]
    exact iff_of_false nofun fun h => inside (h.1 ▸ i.isLt)

theorem RouteTable.clashes_iff (t : RouteTable) (i : Fin 32) (e : RouteEntry) : t.clashes i e = true ↔
    e.enabled = true ∧ ∃ j, j ≠ i ∧ t.entries[j].enabled = true ∧ t.entries[j].route = e.route := by
  have all : ∀ j : Fin 32, j ∈ allRoutes := by
    intro j
    exact List.mem_map.mpr ⟨j.val, List.mem_range.mpr j.isLt, Fin.ext (Nat.mod_eq_of_lt j.isLt)⟩
  simp only [RouteTable.clashes, Bool.and_eq_true, List.any_eq_true, decide_eq_true_eq, all, true_and, and_assoc]

theorem risesFrom_iff (a : Int) (ts : List Int) : risesFrom a ts = true ↔ (a :: ts).IsChain (· ≤ ·) := by
  induction ts generalizing a with
  | nil => simp [risesFrom]
  | cons b ts ih => simp [risesFrom, ih]

theorem classSettings_cases (th : Vector Half 7) :
    let legal : Prop := (∀ i : Fin 7, -3000 ≤ th[i].toInt ∧ th[i].toInt ≤ 3000) ∧
        ∀ i j : Fin 7, i.val + 1 = j.val → th[i].toInt ≤ th[j].toInt
    (¬ legal → classSettings th = none) ∧ (legal → classSettings th = some (tabulate fun i => th[i].toInt)) := by
  intro legal
  have listed : (tabulate fun i : Fin 7 => th[i].toInt).toList = List.ofFn fun i : Fin 7 => th[i].toInt :=
    Vector.toList_ofFn
  have test : ((tabulate fun i : Fin 7 => th[i].toInt).toList.all (fun t => decide (-3000 ≤ t ∧ t ≤ 3000)) &&
      risesFrom (-3000) (tabulate fun i : Fin 7 => th[i].toInt).toList) = true ↔ legal := by
    rw [listed, Bool.and_eq_true, risesFrom_iff, List.all_eq_true]
    simp only [List.forall_mem_ofFn_iff, decide_eq_true_eq]
    refine and_congr_right fun range => ?_
    rw [List.isChain_cons, List.isChain_ofFn]
    constructor
    · rintro ⟨-, rises⟩ ⟨i, hi⟩ ⟨j, hj⟩ (rfl : i + 1 = j)
      exact rises i hj
    · intro rises
      refine ⟨fun y hy => ?_, fun i hi => rises _ _ rfl⟩
      have first : y = th[(0 : Fin 7)].toInt := by simpa using hy.symm
      exact first ▸ (range 0).1
  exact ⟨fun h => if_neg (mt test.mp h), fun h => if_pos (test.mpr h)⟩

/-- Settles O24. -/
theorem routeAndClassTables : Obligations.RouteAndClassTables := by
  intro s serves
  refine ⟨fun ix route flags mode => ⟨fun out => ?out, fun i names narrow two => ?_⟩, fun th => ⟨fun out => ?badClass, fun legal => ?class_⟩⟩
  case badClass =>
    refine congrArg Host.Outcome.next (State.take_refused serves _ _ _ ?_)
    rw [(classSettings_cases th).1 out, State.judgeClass]
  case class_ =>
    refine ⟨_, exec_accepted serves _ _ (fun u => { u with classes := tabulate fun i => th[i].toInt }) (fun u p => rfl) ?_, rfl,
      fun i => tabulate_get _ i⟩
    rw [(classSettings_cases th).2 legal, State.judgeClass]
  case out =>
    refine congrArg Host.Outcome.next (State.take_refused serves _ _ _ ?_)
    have none : routeSettings ix route flags mode = none := by
      refine eq_none_of_forall_ne ?_
      rintro ⟨i, e, m⟩ h
      obtain ⟨hi, hr, hm, -⟩ := (routeSettings_eq_some_iff ..).mp h
      have := i.isLt
      rcases out with out | out | ⟨h0, h1⟩
      · omega
      · omega
      · exact hm.elim (fun h => h0 h.1) fun h => h1 h.1
    rw [none, State.judgeRoute]
  have read := (routeSettings_eq_some_iff ix route flags mode i _ (if mode = 0 then .openMode else .strict)).mpr
    ⟨names.symm, Nat.le_of_lt_succ narrow,
      two.imp (fun h => ⟨h, if_pos h⟩) (fun h => ⟨h, if_neg (h ▸ by decide)⟩), rfl⟩
  have sameRoute (r : Route) : r.toNat = route.toNat ↔ r = route.setWidth 10 := by
    rw [← BitVec.toNat_inj, BitVec.toNat_setWidth, Nat.mod_eq_of_lt narrow]
  simp only [sameRoute]
  refine ⟨fun clash => congrArg Host.Outcome.next (State.take_refused serves _ _ _ ?clash), fun apart =>
    ⟨_, exec_accepted serves _ _ (fun u => { u with routes := { entries := put u.routes.entries i _, mode := _ } })
      (fun u p => rfl) ?apart, rfl, rfl, put_same _ _ _, fun j other => put_other _ _ other⟩⟩
  case clash =>
    rw [read]
    exact if_pos ((RouteTable.clashes_iff ..).mpr clash)
  case apart =>
    rw [read]
    exact if_neg (mt (RouteTable.clashes_iff ..).mp apart)


/-! ## Events, ATTN and the call outputs -/

/-- Bit i of a flag byte is its i-th flag. -/
theorem flagByte_getLsbD (fs : List Bool) {i : Nat} (h : i < 8) : (flagByte fs).getLsbD i = fs.getD i false := by
  induction fs generalizing i with
  | nil => simp [flagByte]
  | cons b fs ih =>
    have step : flagByte (b :: fs) = (flagByte fs <<< 1) ||| (if b then 1 else 0) := rfl
    rw [step, BitVec.getLsbD_or, BitVec.getLsbD_shiftLeft]
    cases i with
    | zero => cases b <;> simp
    | succ i =>
      rw [Nat.add_sub_cancel, ih (by omega)]
      cases b <;> simp [h]

theorem byte_ne_zero_iff (b : Byte) : b ≠ 0 ↔ ∃ i < 8, b.getLsbD i = true := by
  have zero (i : Nat) : (0 : Byte).getLsbD i = false := BitVec.getLsbD_zero
  constructor
  · intro h
    by_contra none
    refine h (BitVec.eq_of_getLsbD_eq fun i hi => ?_)
    rw [zero, ← Bool.not_eq_true]
    exact fun set => none ⟨i, hi, set⟩
  · rintro ⟨i, hi, set⟩ rfl
    rw [zero] at set
    cases set

theorem State.attn_iff (s : State) : s.attn = true ↔
    s.port.outcomes ≠ [] ∧ s.port.enables.getLsbD 0 = true ∨
    s.port.events.ovf = true ∧ s.port.enables.getLsbD 1 = true ∨
    s.port.events.flt = true ∧ s.port.enables.getLsbD 2 = true ∨
    s.port.events.cnt = true ∧ s.port.enables.getLsbD 3 = true ∨
    s.port.events.done = true ∧ s.port.enables.getLsbD 4 = true ∨
    s.port.events.plan = true ∧ s.port.enables.getLsbD 5 = true ∨
    s.port.events.ovr = true ∧ s.port.enables.getLsbD 6 = true := by
  have out : s.outFlag = true ↔ s.port.outcomes ≠ [] := by simp [State.outFlag]
  have bit (i : Nat) (h : i < 8) : (s.eventBits &&& s.port.enables.setWidth 8).getLsbD i =
      ([s.outFlag, s.port.events.ovf, s.port.events.flt, s.port.events.cnt, s.port.events.done, s.port.events.plan,
        s.port.events.ovr].getD i false && s.port.enables.getLsbD i) := by
    rw [BitVec.getLsbD_and, State.eventBits, flagByte_getLsbD _ h, BitVec.getLsbD_setWidth, decide_eq_true h, Bool.true_and]
  unfold State.attn
  rw [decide_eq_true_iff, byte_ne_zero_iff, ← out]
  simp only [← Bool.and_eq_true]
  constructor
  · rintro ⟨i, hi, set⟩
    rw [bit i hi] at set
    rcases Nat.lt_succ_iff_lt_or_eq.mp hi with within | rfl
    · interval_cases i <;> simp_all
    · cases set
  · rintro (h | h | h | h | h | h | h)
    · exact ⟨0, by decide, (bit 0 (by decide)).trans h⟩
    · exact ⟨1, by decide, (bit 1 (by decide)).trans h⟩
    · exact ⟨2, by decide, (bit 2 (by decide)).trans h⟩
    · exact ⟨3, by decide, (bit 3 (by decide)).trans h⟩
    · exact ⟨4, by decide, (bit 4 (by decide)).trans h⟩
    · exact ⟨5, by decide, (bit 5 (by decide)).trans h⟩
    · exact ⟨6, by decide, (bit 6 (by decide)).trans h⟩

theorem State.callActive_iff (s : State) (ph : Phase) : s.callActive ph = true ↔
    ∃ (c : ChannelIx) (l : LiveChannel), s.channels[c].live = some l ∧ l.run = .running ∧ l.phase = ph := by
  unfold State.callActive
  rw [List.any_eq_true]
  constructor
  · rintro ⟨c, -, h⟩
    split at h
    · exact ⟨c, _, ‹_›, of_decide_eq_true h⟩
    · cases h
  · rintro ⟨c, l, h, run⟩
    refine ⟨c, (by decide : ∀ c : ChannelIx, c ∈ allChannels) c, ?_⟩
    rw [h]
    exact decide_eq_true run

/-! ## SET_PINS -/

theorem pinSettings_eq_some_iff (drive edge : Byte) (filter suspend stuck : Half) (p : PinSettings) :
    pinSettings drive edge filter suspend stuck = some p ↔
      (drive = 0 ∧ p.drive = .pushPull ∨ drive = 1 ∧ p.drive = .openDrain) ∧
      (edge = 0 ∧ p.edge = .rising ∨ edge = 1 ∧ p.edge = .falling) ∧
      (duration filter = some p.filter ∧ 1 ≤ p.filter ∧ p.filter ≤ 15) ∧
      (duration suspend = some p.suspendLimit ∧ 10 ≤ p.suspendLimit ∧ p.suspendLimit ≤ 6000) ∧
      duration stuck = some p.stuckLimit ∧ 10 ≤ p.stuckLimit ∧ p.stuckLimit ≤ 600 := by
  simp only [pinSettings, Option.bind_eq_bind, Option.bind_eq_some_iff, durationIn_eq_some_iff, twoValued_eq_some_iff,
    Option.pure_def, Option.some.injEq]
  constructor
  · rintro ⟨_, hd, _, he, _, hf, _, hs, _, hk, rfl⟩
    exact ⟨hd, he, hf, hs, hk⟩
  · rintro ⟨hd, he, hf, hs, hk⟩
    exact ⟨_, hd, _, he, _, hf, _, hs, _, hk, rfl⟩

/-- SET_PINS: the run count begins anew where edge or filter time changes (R123). -/
theorem State.writePins_of_kept {s : State} {p : PinSettings} (h : p.edge = s.pins.edge ∧ p.filter = s.pins.filter) :
    s.writePins p = { s with pins := p } := by
  unfold State.writePins
  rw [decide_eq_false (not_not.mpr h.1), decide_eq_false (not_not.mpr h.2)]
  rfl

theorem State.writePins_of_changed {s : State} {p : PinSettings} (h : ¬ (p.edge = s.pins.edge ∧ p.filter = s.pins.filter)) :
    s.writePins p = { s with pins := p, ovr := { s.ovr with runCount := 0, changeAt := none } } := by
  have recounts : (decide (p.edge ≠ s.pins.edge) || decide (p.filter ≠ s.pins.filter)) = true := by
    rw [Bool.or_eq_true, decide_eq_true_iff, decide_eq_true_iff]
    exact not_and_or.mp h
  unfold State.writePins
  simp only [recounts, if_true]

theorem State.writePins_withPort (s : State) (p : ControllerPort) (x : PinSettings) :
    (s.withPort p).writePins x = (s.writePins x).withPort p := rfl

/-- Settles O26. -/
theorem identityPinsAndEvents : Obligations.IdentityPinsAndEvents := by
  refine ⟨State.attn_iff, fun s ph => ⟨s.callActive_iff ph, fun off => ?_, fun released started => ?_⟩, fun s serves =>
    ⟨fun i => exec_accepted serves _ _ (fun u => { u with identity := i }) (fun _ _ => rfl) rfl,
      fun e => congrArg Host.Outcome.next (State.take_answers serves _ rfl),
      fun drive edge filter suspend stuck => ⟨fun out => ?_, fun nf ns nk legal => ?_⟩⟩⟩
  · refine if_pos ?_
    rw [Bool.or_eq_true]
    exact off.imp_right Option.isSome_iff_ne_none.mpr
  · have on : ¬ (s.held || s.startingUp) = true := by simp [released, started, State.startingUp]
    rw [State.callDriven, if_neg on, ← State.callActive_iff]
    refine ⟨fun active => if_pos active, fun idle drive => ?_, fun idle drive => ?_⟩
    · rw [if_neg idle, drive]
    · rw [if_neg idle, drive]
  · refine congrArg Host.Outcome.next (State.take_refused serves _ _ _ ?_)
    have none : pinSettings drive edge filter suspend stuck = none := eq_none_of_forall_ne fun p hp => by
      obtain ⟨hd, he, hf, hs, hk⟩ := (pinSettings_eq_some_iff ..).mp hp
      exact out _ _ _ ⟨hd.imp And.left And.left, he.imp And.left And.left, hf, hs, hk⟩
    rw [none, State.judgePins]
  · obtain ⟨hd, he, hf, hs, hk⟩ := legal
    intro pins
    have read : pinSettings drive edge filter suspend stuck = some pins := (pinSettings_eq_some_iff ..).mpr
      ⟨hd.imp (fun h => ⟨h, if_pos h⟩) fun h => ⟨h, if_neg (h ▸ by decide)⟩,
        he.imp (fun h => ⟨h, if_pos h⟩) fun h => ⟨h, if_neg (h ▸ by decide)⟩, hf, hs, hk⟩
    have written : exec (.setPins drive edge filter suspend stuck) s = .next ((s.writePins pins).replied 0x27 .ok []) := by
      refine exec_accepted serves _ _ (State.writePins · pins) (fun u p => u.writePins_withPort p pins) ?_
      rw [read, State.judgePins]
    refine ⟨fun kept => ?_, fun changed => ?_⟩
    · rw [written, State.writePins_of_kept kept]
    · rw [written, State.writePins_of_changed changed]

/-! ## Plan validation -/

/-- A slot record in range, read (R45). -/
def Slot.Reads (t : Slot) (r : RawSlot) : Prop :=
  phaseOfNumber r.phase.toNat = some t.phase ∧ duration r.g = some t.g ∧ duration r.gmin = some t.gmin ∧ 10 ≤ t.gmin ∧
    t.gmin ≤ t.g ∧ duration r.y = some t.y ∧ 30 ≤ t.y ∧ t.y ≤ 100 ∧ duration r.e = some t.e ∧ t.e ≤ 300

theorem slotSettings_eq_some_iff (r : RawSlot) (t : Slot) : slotSettings r = some t ↔ t.Reads r := by
  simp only [slotSettings, Option.bind_eq_bind, Option.bind_eq_some_iff, durationIn_eq_some_iff, Option.pure_def,
    Option.some.injEq]
  constructor
  · rintro ⟨_, hp, _, hg, _, ⟨hm, hm1, hm2⟩, _, ⟨hy, hy1, hy2⟩, _, ⟨he, -, he2⟩, rfl⟩
    exact ⟨hp, hg, hm, hm1, hm2, hy, hy1, hy2, he, he2⟩
  · rintro ⟨hp, hg, hm, hm1, hm2, hy, hy1, hy2, he, he2⟩
    exact ⟨_, hp, _, hg, _, ⟨hm, hm1, hm2⟩, _, ⟨hy, hy1, hy2⟩, _, ⟨he, Nat.zero_le _, he2⟩, rfl⟩

theorem slotList_eq_some_iff (rs : List RawSlot) (ss : List Slot) :
    slotList rs = some ss ↔ List.Forall₂ (fun r t => Slot.Reads t r) rs ss := by
  induction rs generalizing ss with
  | nil => cases ss <;> simp [slotList]
  | cons r rs ih =>
    simp only [slotList, Option.bind_eq_bind, Option.bind_eq_some_iff, Option.pure_def, Option.some.injEq,
      slotSettings_eq_some_iff, ih, List.forall₂_cons_left_iff]
    constructor
    · rintro ⟨t, ht, ts, hts, rfl⟩
      exact ⟨t, ts, ht, hts, rfl⟩
    · rintro ⟨t, ts, ht, hts, rfl⟩
      exact ⟨t, ht, ts, hts, rfl⟩

theorem distinctPhases_iff (ss : List Slot) : distinctPhases ss = true ↔ (ss.map (·.phase)).Nodup := by
  induction ss with
  | nil => simp [distinctPhases]
  | cons t ss ih =>
    simp only [distinctPhases, Bool.and_eq_true, ih, List.map_cons, List.nodup_cons, List.all_eq_true, decide_eq_true_eq,
      List.mem_map, not_exists, not_and, ne_eq]

theorem ringTime_eq_sum (ss : List Slot) : ringTime ss = (ss.map fun t => t.g + t.y).sum := by
  induction ss with
  | nil => rfl
  | cons t ss ih =>
    rw [List.map_cons, List.sum_cons, ← ih]
    rfl

/-- A plan as the arguments of STAGE_PLAN give it, each slot and the cycle in range (R45). -/
def Plan.Reads (p : Plan) (raw : RawPlan) : Prop :=
  duration raw.cycle = some p.cycle ∧ 300 ≤ p.cycle ∧ p.cycle ≤ 2400 ∧ p.slots.length = raw.count.toNat ∧
    ∀ k : Fin 6, k.val < raw.count.toNat → ∃ t : Slot, p.slots[k.val]? = some t ∧ t.Reads raw.slots[k]

theorem Plan.reads_iff (p : Plan) (raw : RawPlan) (counted : raw.count.toNat ≤ 6) : p.Reads raw ↔
    durationIn raw.cycle 300 2400 = some p.cycle ∧ slotList (raw.slots.toList.take raw.count.toNat) = some p.slots := by
  have length : (raw.slots.toList.take raw.count.toNat).length = raw.count.toNat := by
    simp [counted]
  have get {k : Nat} (h : k < (raw.slots.toList.take raw.count.toNat).length) (h6 : k < 6) :
      (raw.slots.toList.take raw.count.toNat).get ⟨k, h⟩ = raw.slots[k] := by
    simp
  rw [durationIn_eq_some_iff, slotList_eq_some_iff, List.forall₂_iff_get]
  constructor
  · rintro ⟨hc, h1, h2, hl, slots⟩
    refine ⟨⟨hc, h1, h2⟩, length.trans hl.symm, fun k hk hp => ?_⟩
    have h6 : k < 6 := by omega
    obtain ⟨t, ht, reads⟩ := slots ⟨k, h6⟩ (length ▸ hk)
    rw [get hk h6, List.get_eq_getElem, (List.getElem?_eq_some_iff.mp ht).2]
    exact reads
  · rintro ⟨⟨hc, h1, h2⟩, hl, slots⟩
    have counted : p.slots.length = raw.count.toNat := hl.symm.trans length
    refine ⟨hc, h1, h2, counted, fun k hk => ?_⟩
    have hp : k.val < p.slots.length := hk.trans_eq counted.symm
    have hr : k.val < (raw.slots.toList.take raw.count.toNat).length := hk.trans_eq length.symm
    refine ⟨p.slots[k.val], List.getElem?_eq_getElem hp, ?_⟩
    have reads := slots k hr hp
    rwa [get hr k.isLt] at reads

/-- The validation of a plan that reads (R45). -/
theorem validatePlan_of_reads {raw : RawPlan} {p : Plan} (low : 2 ≤ raw.count.toNat) (high : raw.count.toNat ≤ 6)
    (reads : p.Reads raw) : validatePlan raw =
      if (p.slots.map (·.phase)).Nodup then
        if (p.slots.map fun t => t.g + t.y).sum = p.cycle then .ok p else .error .sum
      else .error .duplicatePhase := by
  obtain ⟨cycle, slots⟩ := (Plan.reads_iff p raw high).mp reads
  unfold validatePlan
  rw [if_neg (by omega), cycle, slots]
  simp only [← distinctPhases_iff, ← ringTime_eq_sum]
  cases distinctPhases p.slots
  · rfl
  · by_cases h : ringTime p.slots = p.cycle <;> simp [h]

theorem validatePlan_of_not_counted {raw : RawPlan} (h : ¬ (2 ≤ raw.count.toNat ∧ raw.count.toNat ≤ 6)) :
    validatePlan raw = .error .slotCount := if_pos (by omega)

theorem validatePlan_of_not_reads {raw : RawPlan} (low : 2 ≤ raw.count.toNat) (high : raw.count.toNat ≤ 6)
    (out : ∀ p : Plan, ¬ p.Reads raw) : validatePlan raw = .error .range := by
  unfold validatePlan
  rw [if_neg (by omega)]
  split
  · rename_i cycle slots hc hs
    exact absurd ((Plan.reads_iff { cycle, slots } raw high).mpr ⟨hc, hs⟩) (out _)
  · rfl

section Validated
variable {s : State} {raw : RawPlan} (released : s.held = false) (staging : s.port.command = .stagePlan raw)
include released staging

/-- The end of a validation that finds a plan (R45). -/
theorem exec_planValidationComplete_of_ok {p : Plan} (h : validatePlan raw = .ok p) : exec .planValidationComplete s =
    .next (State.completeLong { s with plans := { s.plans with staged := some p } } codeStagePlan .ok []) := by
  refine congrArg Host.Outcome.next ((State.whenReleased_of_released released _).trans ?_)
  unfold State.finishValidation
  simp only [staging, h]

/-- The end of a validation that finds a check failing. -/
theorem exec_planValidationComplete_of_error {e : PlanError} (h : validatePlan raw = .error e) :
    exec .planValidationComplete s = .next (s.completeLong codeStagePlan .badArg [1, planErrorCode e]) := by
  refine congrArg Host.Outcome.next ((State.whenReleased_of_released released _).trans ?_)
  unfold State.finishValidation
  simp only [staging, h]

end Validated

/-- Settles O27. -/
theorem plansAreStagedWhenValid : Obligations.PlansAreStagedWhenValid := by
  refine ⟨fun s cycle count slots serves => congrArg Host.Outcome.next (State.takeLong_of_serves serves _ _),
    fun s raw released staging => ⟨fun p counted reads distinct sums => ?_,
      fun counted => exec_planValidationComplete_of_error released staging (validatePlan_of_not_counted counted),
      fun counted out => exec_planValidationComplete_of_error released staging
        (validatePlan_of_not_reads counted.1 counted.2 out),
      fun p counted reads distinct => exec_planValidationComplete_of_error released staging (e := .duplicatePhase) ?_,
      fun p counted reads distinct sums => exec_planValidationComplete_of_error released staging (e := .sum) ?_⟩⟩
  · refine exec_planValidationComplete_of_ok released staging ?_
    rw [validatePlan_of_reads counted.1 counted.2 reads, if_pos distinct, if_pos sums]
  · rw [validatePlan_of_reads counted.1 counted.2 reads, if_neg distinct]
  · rw [validatePlan_of_reads counted.1 counted.2 reads, if_pos distinct, if_neg sums]

/-! ## SET_LINK -/

theorem rxRateOfByte_eq_some_iff (b : Byte) (r : LineRate) :
    rxRateOfByte b = some r ↔ b.toNat < 3 ∧ rateOfByte b = some r := by
  unfold rxRateOfByte rateOfByte
  generalize b.toNat = n
  rcases n with _ | _ | _ | _ | n <;> simp

theorem rxSettings_eq_some_iff (en rate : Byte) (e : Bool) (r : LineRate) : rxSettings en rate = some (e, r) ↔
    (en = 0 ∨ en = 1) ∧ e = decide (en = 1) ∧ rate.toNat < 3 ∧ rateOfByte rate = some r := by
  simp only [rxSettings, Option.bind_eq_bind, Option.bind_eq_some_iff, twoValued_eq_some_iff, rxRateOfByte_eq_some_iff,
    Option.pure_def, Option.some.injEq, Prod.mk.injEq]
  constructor
  · rintro ⟨_, (⟨rfl, rfl⟩ | ⟨rfl, rfl⟩), _, hr, rfl, rfl⟩
    · exact ⟨.inl rfl, rfl, hr⟩
    · exact ⟨.inr rfl, rfl, hr⟩
  · rintro ⟨two, rfl, hr⟩
    exact ⟨_, two.imp (fun h => ⟨h, h ▸ rfl⟩) (fun h => ⟨h, decide_eq_true h⟩), _, hr, rfl, rfl⟩

/-- A receive link after a write that changes its enable or its rate (R1). -/
theorem State.writeRx_of_changed {s : State} {r : RxId} {enable : Bool} {rate : LineRate}
    (h : ¬ ((s.rx r).enabled = enable ∧ (s.rx r).rate = rate)) : s.writeRx r enable rate =
      State.setRx { s with freeIndex := s.freeIndex + 1 } r { s.rx r with
        enabled := enable, rate, assembler := .hunt
        line := if (s.rx r).enabled = enable then
          lineAfterRate (s.rx r).line (Config.undecidedSurvivesWrite s.freeIndex) else .idle } := if_neg h

theorem State.writeRx_withPort (s : State) (q : ControllerPort) (r : RxId) (enable : Bool) (rate : LineRate) :
    (s.withPort q).writeRx r enable rate = (s.writeRx r enable rate).withPort q := by
  by_cases h : (s.rx r).enabled = enable ∧ (s.rx r).rate = rate
  · have g : ((s.withPort q).rx r).enabled = enable ∧ ((s.withPort q).rx r).rate = rate := by cases r <;> exact h
    rw [State.writeRx, State.writeRx, if_pos h, if_pos g]
  · have g : ¬ (((s.withPort q).rx r).enabled = enable ∧ ((s.withPort q).rx r).rate = rate) := by cases r <;> exact h
    rw [State.writeRx_of_changed h, State.writeRx_of_changed g]
    cases r <;> rfl

/-- A line that is not undecided stays as it is (assumption 7). -/
theorem lineAfterRate_of_decided {l : LineState} (h : l ≠ .undecided) (survives : Bool) : lineAfterRate l survives = l := by
  cases l
  case undecided => exact absurd rfl h
  all_goals rfl

/-- Settles O28. -/
theorem setLinkOnReceiveLinks : Obligations.SetLinkOnReceiveLinks := by
  intro s r en rate p w m si ak no tl serves
  have named : linkOfByte (if r = .rx0 then 0 else 1) = some (.rx r) := by cases r <;> rfl
  refine ⟨fun out => congrArg Host.Outcome.next (State.take_refused serves _ _ _ ?out), fun lr two low read => ?written⟩
  case out =>
    have none : rxSettings en rate = none := by
      refine eq_none_of_forall_ne ?_
      rintro ⟨e, lr⟩ h
      obtain ⟨two, -, low, -⟩ := (rxSettings_eq_some_iff ..).mp h
      rcases out with ⟨h0, h1⟩ | high
      · exact two.elim h0 h1
      · omega
    unfold State.judgeSetLink
    rw [named, none]
  case written =>
    have read : rxSettings en rate = some (decide (en = 1), lr) := (rxSettings_eq_some_iff ..).mpr ⟨two, rfl, low, read⟩
    have written : exec (.setLink (if r = .rx0 then 0 else 1) en rate p w m si ak no tl) s =
        .next ((s.writeRx r (decide (en = 1)) lr).replied 0x25 .ok []) := by
      refine exec_accepted serves _ _ (fun u => u.writeRx r (decide (en = 1)) lr) (fun u q => ?_) ?_
      · exact u.writeRx_withPort q r _ _
      · unfold State.judgeSetLink
        rw [named, read]
    refine ⟨fun kept => ?_, fun changed => ⟨_, written, ?_⟩⟩
    · rw [written, State.writeRx, if_pos kept]
    · have replied (u : State) (x : RxLink) : ((u.setRx r x).replied 0x25 .ok []).rx r = x := by cases r <;> rfl
      rw [State.writeRx_of_changed changed, replied]
      refine ⟨by cases r <;> rfl, rfl, fun decided same => ?_, fun other => if_neg other⟩
      exact (if_pos same).trans (lineAfterRate_of_decided decided _)

theorem portSettings_eq_some_iff (role rate : Byte) (po wi : Half) (ml : Byte) (si ak no tl : Half) (st : PortSettings) :
    portSettings role rate po wi ml si ak no tl = some st ↔
      (role = 0 ∧ st.role = .off ∨ role = 1 ∧ st.role = .poller ∨ role = 2 ∧ st.role = .responder) ∧
      (rate = 2 ∧ st.rate = .r38400 ∨ rate = 3 ∧ st.rate = .r115200) ∧
      (duration po = some st.pollInterval ∧ 2 ≤ st.pollInterval ∧ st.pollInterval ≤ 50) ∧
      (duration wi = some st.replyWindow ∧ 1 ≤ st.replyWindow ∧ st.replyWindow ≤ 10) ∧
      (ml.toNat = st.missLimit ∧ 1 ≤ st.missLimit ∧ st.missLimit ≤ 15) ∧
      (duration si = some st.silence ∧ 10 ≤ st.silence ∧ st.silence ≤ 600) ∧
      (duration ak = some st.ackTimeout ∧ 5 ≤ st.ackTimeout ∧ st.ackTimeout ≤ 600) ∧
      (duration no = some st.nominal ∧ 0 ≤ st.nominal ∧ st.nominal ≤ 6000) ∧
      (duration tl = some st.tolerance ∧ 0 ≤ st.tolerance ∧ st.tolerance ≤ 1200) := by
  have roles (x : Role) : roleOfByte role = some x ↔
      role = 0 ∧ x = .off ∨ role = 1 ∧ x = .poller ∨ role = 2 ∧ x = .responder := by
    simp only [← BitVec.toNat_inj, BitVec.reduceToNat, roleOfByte]
    generalize role.toNat = n
    rcases n with _ | _ | _ | n <;> simp [eq_comm]
  have rates (x : LineRate) : portRateOfByte rate = some x ↔ rate = 2 ∧ x = .r38400 ∨ rate = 3 ∧ x = .r115200 := by
    simp only [← BitVec.toNat_inj, BitVec.reduceToNat, portRateOfByte, rateOfByte]
    generalize rate.toNat = n
    rcases n with _ | _ | _ | _ | n <;> simp [eq_comm]
  simp only [portSettings, Option.bind_eq_bind, Option.bind_eq_some_iff, durationIn_eq_some_iff, inRange_eq_some_iff, roles, rates,
    Option.pure_def, Option.some.injEq]
  constructor
  · rintro ⟨_, hr, _, hb, _, hp, _, hw, _, hm, _, hs, _, ha, _, hn, _, ht, rfl⟩
    exact ⟨hr, hb, hp, hw, hm, hs, ha, hn, ht⟩
  · rintro ⟨hr, hb, hp, hw, hm, hs, ha, hn, ht⟩
    exact ⟨_, hr, _, hb, _, hp, _, hw, _, hm, _, hs, _, ha, _, hn, _, ht, rfl⟩

/-! The outcome queue does not read the transaction. -/

theorem State.pushOutcome_endTransaction (s : State) (r : OutcomeRecord) :
    s.endTransaction.pushOutcome r = (s.pushOutcome r).endTransaction := by
  by_cases room : s.port.outcomes.length < outcomeCapacity
  · have below : s.endTransaction.port.outcomes.length < outcomeCapacity := room
    rw [State.pushOutcome, State.pushOutcome, if_pos room, if_pos below]
    rfl
  · have full : ¬ s.endTransaction.port.outcomes.length < outcomeCapacity := room
    rw [State.pushOutcome, State.pushOutcome, if_neg room, if_neg full]
    rfl

theorem State.pushOutcomes_endTransaction (s : State) (rs : List OutcomeRecord) :
    s.endTransaction.pushOutcomes rs = (s.pushOutcomes rs).endTransaction := by
  induction rs generalizing s with
  | nil => rfl
  | cons r rs ih =>
    have step (u : State) : u.pushOutcomes (r :: rs) = (u.pushOutcome r).pushOutcomes rs := rfl
    rw [step, step, State.pushOutcome_endTransaction, ih]

theorem State.writeSettings_eq (s : State) (p : PortId) (st : PortSettings) : s.writeSettings p st =
    (s.setLink p (withRoleWritten { s.link p with settings := st } s.time)).pushOutcomes
      (roleWriteRecords { s.link p with settings := st } s.time) := by
  unfold State.writeSettings State.roleWrite
  simp only [State.setLink_link_same, State.setLink_setLink, State.setLink_time]

theorem State.writeSettings_endTransaction (s : State) (p : PortId) (st : PortSettings) :
    s.endTransaction.writeSettings p st = (s.writeSettings p st).endTransaction := by
  rw [State.writeSettings_eq, State.writeSettings_eq, ← State.pushOutcomes_endTransaction]
  cases p <;> rfl

theorem State.writePort_endTransaction (s : State) (p : PortId) (st : PortSettings) :
    s.endTransaction.writePort p st = (s.writePort p st).endTransaction := by
  have same : s.endTransaction.link p = s.link p := by cases p <;> rfl
  unfold State.writePort
  rw [same]
  split
  · exact s.writeSettings_endTransaction p st
  · cases p <;> rfl

theorem State.writePort_of_listening {s : State} {p : PortId} (h : (s.link p).line = .listening) (st : PortSettings) :
    s.writePort p st = s.writeSettings p st := by
  unfold State.writePort
  rw [h]

theorem State.writePort_of_sending {s : State} {p : PortId} (h : (s.link p).line ≠ .listening) (st : PortSettings) :
    s.writePort p st = s.setLink p { s.link p with deferredWrites := (s.link p).deferredWrites ++ [st] } := by
  unfold State.writePort
  split
  · rename_i listening
    exact absurd listening h
  · rfl

/-- A role write by SET_LINK, role by role (R136). -/
theorem State.writeSettings_of_poller {st : PortSettings} (role : st.role = .poller) (s : State) (p : PortId) :
    s.writeSettings p st = s.setLink p { s.link p with
      settings := st, state := .syncing, missCount := 0, windowClose := none, peerContained := false
      pollDue := some s.time, silenceExpiry := none, replyDue := false } := by
  simp only [State.writeSettings_eq, withRoleWritten, roleWriteRecords, role]
  rfl

theorem State.writeSettings_of_responder {st : PortSettings} (role : st.role = .responder) (s : State) (p : PortId) :
    s.writeSettings p st = s.setLink p { s.link p with
      settings := st, state := .syncing, missCount := 0, windowClose := none, peerContained := false, pollDue := none
      silenceExpiry := some (timePlus s.time st.silence) } := by
  simp only [State.writeSettings_eq, withRoleWritten, roleWriteRecords, role]
  rfl

theorem State.writeSettings_of_off {st : PortSettings} (role : st.role = .off) (s : State) (p : PortId) :
    s.writeSettings p st = (s.setLink p { s.link p with
      settings := st, state := .off, outgoing := [], windowClose := none, pollDue := none, silenceExpiry := none
      replyDue := false }).pushOutcomes (unsentRecords s.time (s.link p).outgoing) := by
  simp only [State.writeSettings_eq, withRoleWritten, roleWriteRecords, role]

/-- The records of an emptied queue: one for each HANDOFF (R136, R147). -/
theorem unsentRecords_eq (t : Time) (q : List OutMsg) : unsentRecords t q = q.filterMap fun m => match m with
    | .handoff h a level _ => some { time := t, vehicle := h.vehicle, route := h.route, approach := a, level
                                     body := .handoff (.notSent .linkNotUp) }
    | .ack _ _ => none := by
  unfold unsentRecords
  congr 1

/-- Settles O29. -/
theorem setLinkOnCorridorPorts : Obligations.SetLinkOnCorridorPorts := by
  refine ⟨fun s p st => ⟨fun role => s.writeSettings_of_poller role p, fun role => s.writeSettings_of_responder role p,
    fun role => ⟨_, s.writeSettings_of_off role p, unsentRecords_eq _ _⟩⟩,
    fun s b role rate po wi ml si ak no tl serves high => congrArg Host.Outcome.next (State.take_refused serves _ _ _ ?name),
    fun s p role rate po wi ml si ak no tl serves => ?port⟩
  case name =>
    unfold State.judgeSetLink
    rw [linkOfByte_of_ge high]
  case port =>
    have named : linkOfByte (if p = .linkA then 2 else 3) = some (.port p) := by cases p <;> rfl
    have same : s.endTransaction.link p = s.link p := by cases p <;> rfl
    have judged (rx : Option (Bool × LineRate)) (port : Option PortSettings) :
        s.endTransaction.judgeSetLink (if p = .linkA then 2 else 3) rx port = s.endTransaction.judgePortSettings p port := by
      unfold State.judgeSetLink
      rw [named]
    refine ⟨fun fault unreported => congrArg Host.Outcome.next (State.take_refused serves _ _ _ ?fault), fun open_ =>
      ⟨fun out => congrArg Host.Outcome.next (State.take_refused serves _ _ _ ?out), fun st legal sending => ?sending,
        fun st legal listening => ?listening⟩⟩
    case fault =>
      have refuses : refusesSetLink (s.link p) = true := by rw [refusesSetLink, unreported, decide_eq_true fault]; rfl
      rw [judged]
      unfold State.judgePortSettings
      rw [same, if_pos refuses]
    all_goals
      have accepts : ¬ refusesSetLink (s.link p) = true := by
        simp only [refusesSetLink, Bool.and_eq_true, decide_eq_true_eq, Bool.not_eq_true', not_and]
        rintro fault unreported
        exact open_.elim (fun h => h fault) fun h => absurd (unreported.symm.trans h) Bool.false_ne_true
    case out =>
      have none : portSettings role rate po wi ml si ak no tl = none := eq_none_of_forall_ne fun st h => by
        obtain ⟨hr, hb, hp, hw, ⟨hm, hm1, hm2⟩, hs, ha, hn, ht⟩ := (portSettings_eq_some_iff ..).mp h
        exact out st ⟨hr, hb, hp, hw, hm, hm1, hm2, hs, ha, hn, ht⟩
      rw [judged, none, State.judgePortSettings, same, if_neg accepts]
    all_goals
      have written : exec (.setLink (if p = .linkA then 2 else 3) role rate po wi ml si ak no tl) s =
          .next ((s.writePort p st).replied 0x25 .ok []) := by
        obtain ⟨hr, hb, hp, hw, hm, hm1, hm2, hs, ha, hn, ht⟩ := legal
        refine congrArg Host.Outcome.next (State.take_answers serves _ ?_)
        rw [judged, (portSettings_eq_some_iff ..).mpr ⟨hr, hb, hp, hw, ⟨hm, hm1, hm2⟩, hs, ha, hn, ht⟩,
          State.judgePortSettings, same, if_neg accepts]
        exact congrArg (okWith · []) (s.writePort_endTransaction p st)
    case sending => exact written.trans (congrArg (fun t : State => Host.Outcome.next (t.replied 0x25 .ok [])) (State.writePort_of_sending sending st))
    case listening => rw [written, State.writePort_of_listening listening]

end Sys2Proof.Machine

end

section
/-! PROOFS. Causes, the ends of channels, triggers, the account and closures (O15, O17, O18, O19, O30). -/

namespace Sys2Proof.Machine

/-! ## The times of a candidate list (R68, R82) -/

/-- How far a time lies ahead of t; 0 where it is past. -/
def ahead (t x : Time) : Nat := (laterOf x t - t).toNat

theorem laterOf_eq_add (t x : Time) : laterOf x t = t + BitVec.ofNat 32 (ahead t x) := by
  unfold ahead
  rw [BitVec.ofNat_toNat, BitVec.setWidth_eq]
  bv_omega

theorem ahead_lt (t x : Time) : ahead t x < 2 ^ 31 := by
  have sub_self : (t - t).toNat = 0 := by rw [BitVec.sub_self]; rfl
  unfold ahead laterOf atOrAfter timeDiff
  split
  · rename_i after
    rw [decide_eq_true_iff, BitVec.toInt_eq_toNat_cond] at after
    have bound := (x - t).isLt
    split at after <;> omega
  · omega

/-- Of two effective times the one farther ahead is the later (R63, R68). -/
theorem isLater_laterOf_iff (t x y : Time) : isLater (laterOf x t) (laterOf y t) = true ↔ ahead t y < ahead t x := by
  have hx := ahead_lt t x
  have hy := ahead_lt t y
  have gap : (t + BitVec.ofNat 32 (ahead t x) - (t + BitVec.ofNat 32 (ahead t y))).toNat =
      if ahead t y ≤ ahead t x then ahead t x - ahead t y else 2 ^ 32 - (ahead t y - ahead t x) := by
    simp only [BitVec.toNat_sub, BitVec.toNat_add, BitVec.toNat_ofNat]
    split <;> omega
  rw [isLater, timeDiff, decide_eq_true_iff, laterOf_eq_add t x, laterOf_eq_add t y, BitVec.toInt_eq_toNat_cond, gap]
  split <;> split <;> omega

theorem laterOf_inj (t x y : Time) : laterOf x t = laterOf y t ↔ ahead t x = ahead t y := by
  constructor
  · intro h
    unfold ahead
    rw [h]
  · intro h
    rw [laterOf_eq_add t x, laterOf_eq_add t y, h]

/-! ## The candidate order (R82) -/

/-- The candidate order in numbers: level, time ahead, approach and index. -/
theorem candidateBefore_iff (t : Time) (x y : EntryIx × Entry) : candidateBefore t x y = true ↔
    y.2.level < x.2.level ∨ y.2.level = x.2.level ∧ (ahead t x.2.windowE < ahead t y.2.windowE ∨
      ahead t x.2.windowE = ahead t y.2.windowE ∧
        (x.2.approach.val < y.2.approach.val ∨ x.2.approach.val = y.2.approach.val ∧ x.1.val < y.1.val)) := by
  unfold candidateBefore effectiveWindow
  simp only [ne_eq, laterOf_inj]
  split
  · rw [decide_eq_true_iff]
    omega
  · split
    · rw [isLater_laterOf_iff]
      omega
    · split
      · rename_i apart
        rw [decide_eq_true_iff, Fin.lt_def]
        have := mt Fin.ext apart
        omega
      · rename_i same
        rw [decide_eq_true_iff, Fin.lt_def, not_not.mp same]
        omega

theorem candidateBefore_trans {t : Time} {x y z : EntryIx × Entry} (h : candidateBefore t x y = true)
    (g : candidateBefore t y z = true) : candidateBefore t x z = true := by
  rw [candidateBefore_iff] at *
  omega

theorem candidateBefore_of_not {t : Time} {x y : EntryIx × Entry} (apart : x.1 ≠ y.1)
    (h : ¬ candidateBefore t x y = true) : candidateBefore t y x = true := by
  have := mt Fin.ext apart
  rw [candidateBefore_iff] at *
  omega

theorem insertCandidate_perm (t : Time) (x : EntryIx × Entry) (l : List (EntryIx × Entry)) :
    (insertCandidate t x l).Perm (x :: l) := by
  induction l with
  | nil => exact .refl _
  | cons y l ih =>
    rw [insertCandidate]
    split
    · exact .refl _
    · exact (ih.cons y).trans (.swap x y l)

theorem insertCandidate_sorted {t : Time} {x : EntryIx × Entry} {l : List (EntryIx × Entry)}
    (sorted : l.Pairwise fun y z => candidateBefore t y z = true) (apart : ∀ y ∈ l, x.1 ≠ y.1) :
    (insertCandidate t x l).Pairwise fun y z => candidateBefore t y z = true := by
  induction l with
  | nil => exact List.pairwise_singleton ..
  | cons y l ih =>
    obtain ⟨first, rest⟩ := List.pairwise_cons.mp sorted
    rw [insertCandidate]
    split
    · rename_i before
      refine List.pairwise_cons.mpr ⟨fun z hz => ?_, sorted⟩
      rcases List.mem_cons.mp hz with rfl | hz
      · exact before
      · exact candidateBefore_trans before (first z hz)
    · rename_i after
      refine List.pairwise_cons.mpr ⟨fun z hz => ?_, ih rest fun z hz => apart z (List.mem_cons_of_mem y hz)⟩
      rcases List.mem_cons.mp ((insertCandidate_perm t x l).mem_iff.mp hz) with rfl | hz
      · exact candidateBefore_of_not (apart y (List.mem_cons_self ..)) after
      · exact first z hz

/-- Candidates inserted one by one: the same ones, in candidate order where their indices differ. -/
theorem sortCandidates_perm (t : Time) (l : List (EntryIx × Entry)) : (l.foldr (insertCandidate t) []).Perm l := by
  induction l with
  | nil => exact .refl _
  | cons x l ih => exact (insertCandidate_perm t x _).trans (ih.cons x)

theorem sortCandidates_sorted {t : Time} {l : List (EntryIx × Entry)} (apart : l.Pairwise fun x y => x.1 ≠ y.1) :
    (l.foldr (insertCandidate t) []).Pairwise fun x y => candidateBefore t x y = true := by
  induction l with
  | nil => exact .nil
  | cons x l ih =>
    obtain ⟨first, rest⟩ := List.pairwise_cons.mp apart
    exact insertCandidate_sorted (ih rest) fun y hy => first y ((sortCandidates_perm t l).mem_iff.mp hy)

/-! ## The candidates of a table -/

theorem State.mem_liveEntries (s : State) (i : EntryIx) (e : Entry) : (i, e) ∈ s.liveEntries ↔ s.table[i] = some e := by
  simp only [State.liveEntries, List.mem_filterMap, Option.map_eq_some_iff]
  constructor
  · rintro ⟨j, _, f, h, g⟩
    cases g
    exact h
  · exact fun h => ⟨i, (by decide : ∀ i : EntryIx, i ∈ allEntries) i, e, h, rfl⟩

theorem State.liveEntries_apart (s : State) : s.liveEntries.Pairwise fun x y => x.1 < y.1 := by
  refine List.pairwise_filterMap.mpr ((by decide : allEntries.Pairwise (· < ·)).imp fun h => ?_)
  simp only [Option.map_eq_some_iff]
  rintro _ ⟨e, _, rfl⟩ _ ⟨f, _, rfl⟩
  exact h

theorem isExtend_iff (l : LiveChannel) : isExtend l = true ↔ ∃ remaining runFrom, l.action = .extend remaining runFrom := by
  unfold isExtend
  cases l.action <;> simp

/-- A candidate: TRACKING or PENDING of level 1 or more on an enabled approach, or a rider of an extension (R82). -/
theorem State.isCandidate_iff (s : State) (i : EntryIx) (e : Entry) : s.isCandidate i e = true ↔
    (e.state = .tracking ∨ e.state = .pending) ∧ 1 ≤ e.level ∧ s.approaches[e.approach].enabled = true ∨
      ∃ c ch remaining runFrom, e.state = .granted c ∧ s.channels[c].live = some ch ∧ i ∈ ch.riders ∧
        ch.action = .extend remaining runFrom := by
  unfold State.isCandidate State.ridesExtend
  cases e.state with
  | tracking => simp
  | pending => simp
  | granted c =>
    cases live : s.channels[c].live with
    | none => simp [-Fin.getElem_fin, live]
    | some l => simp [-Fin.getElem_fin, live, isExtend_iff, and_comm]

theorem State.mem_candidates (s : State) (i : EntryIx) (v : Vehicle) : (i, v) ∈ s.candidates ↔
    ∃ e, s.table[i] = some e ∧ e.vehicle = v ∧ s.isCandidate i e = true := by
  simp only [State.candidates, List.mem_map, (sortCandidates_perm _ _).mem_iff, List.mem_filter, Prod.exists, s.mem_liveEntries,
    Prod.mk.injEq]
  constructor
  · rintro ⟨j, e, ⟨h, g⟩, rfl, rfl⟩
    exact ⟨e, h, rfl, g⟩
  · rintro ⟨e, h, rfl, g⟩
    exact ⟨i, e, ⟨h, g⟩, rfl, rfl⟩

theorem State.candidates_sorted (s : State) : s.candidates.Pairwise fun x y => ∀ e f, s.table[x.1] = some e →
    s.table[y.1] = some f → candidateBefore s.time (x.1, e) (y.1, f) = true := by
  refine List.pairwise_map.mpr ((List.Pairwise.imp_of_mem ?_ (sortCandidates_sorted (t := s.time)
    ((s.liveEntries_apart.imp fun h => Fin.ne_of_lt h).filter _))))
  intro x y hx hy before e f he hf
  simp only [(sortCandidates_perm _ _).mem_iff, List.mem_filter] at hx hy
  have ex := (s.mem_liveEntries x.1 x.2).mp hx.1
  have ey := (s.mem_liveEntries y.1 y.2).mp hy.1
  cases ex.symm.trans he
  cases ey.symm.trans hf
  exact before

theorem State.startPass_eq (s : State) : s.startPass =
    { s with engine := { pass := if s.candidates = [] then none else some s.candidates, again := false } } := by
  unfold State.startPass
  cases s.candidates <;> rfl

/-- Settles O15: the branches of a cause, and insertion sort under the candidate order. -/
theorem causeStartsASortedPass : Obligations.CauseStartsASortedPass := by
  intro s
  rcases s.cause_cases with ⟨passing, h⟩ | ⟨idle, runs, h⟩ | ⟨idle, barred, h⟩
  · exact ⟨fun _ => h, fun idle => absurd idle passing, fun idle => absurd idle passing⟩
  · refine ⟨fun passing => absurd idle passing, fun _ barred => absurd runs barred,
      fun _ _ => ⟨s.candidates, h.trans s.startPass_eq, fun i v => ?_, s.candidates_sorted.imp fun before e f he hf => ?_⟩⟩
    · simp only [s.mem_candidates, s.isCandidate_iff]
    · have order := (candidateBefore_iff ..).mp (before e f he hf)
      simpa only [isLater_laterOf_iff, laterOf_inj, Fin.lt_def, Fin.ext_iff, eq_comm (a := ahead s.time f.windowE)] using order
  · exact ⟨fun passing => absurd idle passing, fun _ _ => h, fun _ runs => absurd runs barred⟩


/-! ## The refund of an extension (R98, R115) -/

theorem refundSlot_zero (p : Plan) (a : Account) (k : SlotIx) : refundSlot p a k 0 = a := by
  simp only [refundSlot, Nat.zero_min, Nat.sub_zero, put_self, Nat.add_zero]

theorem refundAll_zero (p : Plan) (a : Account) (charges : List (SlotIx × Nat)) : refundAll p a charges 0 = a := by
  unfold refundAll
  induction charges.reverse with
  | nil => rfl
  | cons q rest ih =>
    simp only [refundPairs, Nat.min_zero, Nat.sub_zero, List.foldl_cons, refundSlot_zero]
    exact ih

theorem refundPairs_fst (charges : List (SlotIx × Nat)) (total : Nat) :
    (refundPairs charges total).map (·.1) = charges.map (·.1) := by
  induction charges generalizing total with
  | nil => rfl
  | cons q rest ih => simp only [refundPairs, List.map_cons, ih]

theorem refundPairs_sum (charges : List (SlotIx × Nat)) (total : Nat) :
    ((refundPairs charges total).map (·.2)).sum = min total (charges.map (·.2)).sum := by
  induction charges generalizing total with
  | nil => simp [refundPairs]
  | cons q rest ih =>
    simp only [refundPairs, List.map_cons, List.sum_cons, ih]
    omega

/-- A pair of a refund gives no more than the pair of the charge list it comes from. -/
theorem exists_of_mem_refundPairs {charges : List (SlotIx × Nat)} {total : Nat} {q : SlotIx × Nat}
    (h : q ∈ refundPairs charges total) : ∃ n, (q.1, n) ∈ charges ∧ q.2 ≤ n := by
  induction charges generalizing total with
  | nil => cases h
  | cons c rest ih =>
    rcases List.mem_cons.mp h with rfl | h
    · exact ⟨c.2, List.mem_cons_self .., Nat.min_le_left ..⟩
    · obtain ⟨n, hn, hle⟩ := ih h
      exact ⟨n, List.mem_cons_of_mem c hn, hle⟩

/-- Refunds leave x_cur and the budget in force alone. -/
theorem refundAll_keeps (p : Plan) (a : Account) (charges : List (SlotIx × Nat)) (total : Nat) :
    (refundAll p a charges total).xcur = a.xcur ∧ (refundAll p a charges total).budgetInForce = a.budgetInForce := by
  unfold refundAll
  induction refundPairs charges.reverse total generalizing a with
  | nil => exact ⟨rfl, rfl⟩
  | cons q rest ih => exact ih (refundSlot p a q.1 q.2)

/-- Refunds that no slot's charge falls short of reach the budget whole. -/
theorem refund_pairs_budget (p : Plan) (a : Account) {pairs : List (SlotIx × Nat)} (apart : (pairs.map (·.1)).Nodup)
    (within : ∀ q ∈ pairs, q.2 ≤ a.charge[q.1]) :
    (pairs.foldl (fun a q => refundSlot p a q.1 q.2) a).budgetLeft = a.budgetLeft + (pairs.map (·.2)).sum := by
  induction pairs generalizing a with
  | nil => rfl
  | cons q rest ih =>
    obtain ⟨first, apart⟩ := List.nodup_cons.mp apart
    have gives : min q.2 a.charge[q.1] = q.2 := Nat.min_eq_left (within q (List.mem_cons_self ..))
    have budget : (refundSlot p a q.1 q.2).budgetLeft = a.budgetLeft + q.2 := congrArg (a.budgetLeft + ·) gives
    rw [List.foldl_cons, ih (refundSlot p a q.1 q.2) apart fun x hx => ?_, budget, List.map_cons, List.sum_cons, Nat.add_assoc]
    have other : x.1 ≠ q.1 := fun same => first (List.mem_map.mpr ⟨x, hx, same⟩)
    exact (within x (List.mem_cons_of_mem q hx)).trans_eq (put_other a.charge _ other).symm

theorem refundAll_budget (p : Plan) (a : Account) {charges : List (SlotIx × Nat)} {total : Nat}
    (covered : total ≤ (charges.map (·.2)).sum) (apart : (charges.map (·.1)).Nodup)
    (within : ∀ q ∈ charges, q.2 ≤ a.charge[q.1]) : (refundAll p a charges total).budgetLeft = a.budgetLeft + total := by
  unfold refundAll
  rw [refund_pairs_budget p a ?_ fun q hq => ?_, refundPairs_sum, List.map_reverse, List.sum_reverse, Nat.min_eq_left covered]
  · rw [refundPairs_fst, List.map_reverse]
    exact List.nodup_reverse.mpr apart
  · obtain ⟨n, hn, hle⟩ := exists_of_mem_refundPairs hq
    exact hle.trans (within (q.1, n) (List.mem_reverse.mp hn))

/-! ## The end of a channel (R113) -/

/-- An entry as the end of its channel leaves it (R28, R113). -/
def Entry.endedWith (e : Entry) (r : EndReason) : Entry := { e with state := .tracking, note := some (.ended r) }

theorem State.returnRider_table (s : State) (r : EndReason) (i j : EntryIx) :
    (State.returnRider r s i).table[j] = if j = i then (s.table[j]).map (·.endedWith r) else s.table[j] := by
  by_cases same : j = i
  · subst same
    rw [if_pos rfl]
    unfold State.returnRider
    cases live : s.table[j] with
    | none => exact live
    | some e => exact put_same ..
  · rw [if_neg same]
    unfold State.returnRider
    cases s.table[i] with
    | none => rfl
    | some e => exact put_other _ _ same

theorem State.returnRiders_table (s : State) (r : EndReason) (is : List EntryIx) (j : EntryIx) :
    (is.foldl (State.returnRider r) s).table[j] = if j ∈ is then (s.table[j]).map (·.endedWith r) else s.table[j] := by
  induction is generalizing s with
  | nil => rfl
  | cons i is ih =>
    rw [List.foldl_cons, ih, State.returnRider_table]
    by_cases same : j = i
    · rw [if_pos same, if_pos (List.mem_cons.mpr (.inl same))]
      split
      · rw [Option.map_map]
        rfl
      · rfl
    · simp only [List.mem_cons, same, if_false, false_or]

theorem State.applyRefund_table (s : State) (l : LiveChannel) (n : Nat) : (s.applyRefund l n).table = s.table := by
  rw [State.applyRefund_frame]

theorem State.closeChannel_table (s : State) (c : ChannelIx) (l : LiveChannel) (r : EndReason) (j : EntryIx) :
    (s.closeChannel c l r).table[j] = if j ∈ l.riders then (s.table[j]).map (·.endedWith r) else s.table[j] := by
  have := (s.applyRefund l (refundAmount l r)).returnRiders_table r l.riders j
  rwa [State.applyRefund_table] at this

theorem State.closeChannel_channels (s : State) (c : ChannelIx) (l : LiveChannel) (r : EndReason) :
    (s.closeChannel c l r).channels = put s.channels c { live := none, lastEnd := some (r, s.time) } := by
  rw [State.closeChannel_frame]

theorem State.endChannel_of_live {s : State} {c : ChannelIx} {l : LiveChannel} (live : s.channels[c].live = some l)
    (r : EndReason) : s.endChannel c r = (s.closeChannel c l r).cause := by
  unfold State.endChannel
  simp only [live]

theorem State.endChannel_of_idle {s : State} {c : ChannelIx} (idle : s.channels[c].live = none) (r : EndReason) :
    s.endChannel c r = s := by
  unfold State.endChannel
  simp only [idle]

/-- The account after a refund of a total: with a plan in force, off the charge list and off x_cur unless an onset has
moved the current slot (R115). -/
theorem State.applyRefund_of_active {s : State} {p : Plan} (active : s.plans.active = some p) (l : LiveChannel) (n : Nat) :
    (s.applyRefund l n).account = if s.movedFrom l.slot then refundAll p s.account l.charges n
      else { refundAll p s.account l.charges n with xcur := s.account.xcur - n } := by
  unfold State.applyRefund
  simp only [active, (refundAll_keeps p s.account l.charges n).1]

theorem State.applyRefund_zero (s : State) (l : LiveChannel) : (s.applyRefund l 0).account = s.account := by
  cases active : s.plans.active with
  | none =>
    unfold State.applyRefund
    simp only [active]
  | some p =>
    rw [State.applyRefund_of_active active, refundAll_zero]
    split <;> rfl

theorem refundAmount_eq_zero {l : LiveChannel} {r : EndReason}
    (h : (∃ d, l.action = .advance d) ∨ r = .complete ∨ r = .planChange) : refundAmount l r = 0 := by
  unfold refundAmount
  rcases h with ⟨d, h⟩ | rfl | rfl
  · rw [h]
  · cases l.action <;> rfl
  · cases l.action <;> rfl

theorem refundAmount_of_extend {l : LiveChannel} {r : EndReason} {remaining : Nat} {runFrom : Time}
    (h : l.action = .extend remaining runFrom) (whole : r ≠ .complete) (same : r ≠ .planChange) :
    refundAmount l r = remaining := by
  unfold refundAmount
  rw [h]
  cases r <;> simp_all

theorem State.movedFrom_iff (s : State) (k : SlotIx) :
    s.movedFrom k = true ↔ ∃ g, s.tracker = .inStep g ∧ g.cur ≠ k := by
  unfold State.movedFrom
  cases s.tracker <;> simp

/-- Settles O18: the end of a channel but for its cause, field by field. -/
theorem channelEnds : Obligations.ChannelEnds := by
  intro s c l r live
  have account := s.closeChannel_account c l r
  have refund {remaining runFrom p} (extends_ : l.action = .extend remaining runFrom) (whole : r ≠ .complete)
      (same : r ≠ .planChange) (active : s.plans.active = some p) :
      ((∃ g, s.tracker = .inStep g ∧ g.cur ≠ l.slot) →
        (s.closeChannel c l r).account = refundAll p s.account l.charges remaining) ∧
      ((∀ g, s.tracker = .inStep g → g.cur = l.slot) → (s.closeChannel c l r).account =
        { refundAll p s.account l.charges remaining with xcur := s.account.xcur - remaining }) := by
    rw [account, refundAmount_of_extend extends_ whole same, State.applyRefund_of_active active, ← s.movedFrom_iff]
    refine ⟨fun moved => if_pos moved, fun stands => if_neg fun moved => ?_⟩
    obtain ⟨g, inStep, apart⟩ := (s.movedFrom_iff _).mp moved
    exact apart (stands g inStep)
  refine ⟨s.closeChannel c l r, State.endChannel_of_live live r, ?frame, ?channel, fun d apart => ?others,
    fun i e rides he => ?rider, fun i h => ?entry, fun h => ?untouched, fun remaining runFrom p => refund,
    fun remaining runFrom p extends_ whole same active covered apart within => ?balance⟩
  case frame => rw [State.closeChannel_frame]
  case channel =>
    rw [State.closeChannel_channels]
    exact put_same ..
  case others =>
    rw [State.closeChannel_channels]
    exact put_other _ _ apart
  case rider =>
    rw [State.closeChannel_table, if_pos rides, he]
    rfl
  case entry =>
    rw [State.closeChannel_table]
    rcases h with h | h
    · exact if_neg h
    · rw [h]
      exact ite_self none
  case untouched =>
    rw [account]
    have nothing (zero : refundAmount l r = 0) : (s.applyRefund l (refundAmount l r)).account = s.account := by
      rw [zero, State.applyRefund_zero]
    rcases h with h | rfl | rfl | h
    · exact nothing (refundAmount_eq_zero (.inl h))
    · exact nothing (refundAmount_eq_zero (.inr (.inl rfl)))
    · exact nothing (refundAmount_eq_zero (.inr (.inr rfl)))
    · unfold State.applyRefund
      simp only [h]
  case balance =>
    obtain ⟨moved, stands⟩ := refund extends_ whole same active
    have budget := refundAll_budget p s.account covered apart within
    obtain ⟨xcur, force⟩ := refundAll_keeps p s.account l.charges remaining
    by_cases h : ∃ g, s.tracker = .inStep g ∧ g.cur ≠ l.slot
    · rw [moved h]
      refine ⟨budget, force, fun _ => xcur, fun same => ?_⟩
      obtain ⟨g, inStep, apart⟩ := h
      exact absurd (same g inStep) apart
    · have here : ∀ g, s.tracker = .inStep g → g.cur = l.slot := fun g inStep => not_not.mp fun apart => h ⟨g, inStep, apart⟩
      rw [stands here]
      exact ⟨budget, force, fun g => absurd g h, fun _ => rfl⟩


/-! ## Causes that find the engine IDLE and barred -/

/-- The engine is IDLE and has no running condition: causes are dropped (R80). -/
def State.Dormant (s : State) : Prop := s.engine = { pass := none, again := false } ∧ ¬ s.RunningCondition

theorem State.cause_of_barred {s : State} (idle : s.engine.pass = none) (barred : ¬ s.RunningCondition) : s.cause = s := by
  rcases s.cause_cases with ⟨passing, _⟩ | ⟨_, runs, _⟩ | ⟨_, _, h⟩
  · exact absurd idle passing
  · exact absurd runs barred
  · exact h

theorem State.Dormant.cause_eq {s : State} (h : s.Dormant) : s.cause = s :=
  State.cause_of_barred (congrArg Engine.pass h.1) h.2

theorem State.Dormant.closeChannel {s : State} (h : s.Dormant) (c : ChannelIx) (l : LiveChannel) (r : EndReason) :
    (s.closeChannel c l r).Dormant := by
  rw [State.closeChannel_frame]
  exact h

theorem State.Dormant.endChannel {s : State} (h : s.Dormant) (c : ChannelIx) (r : EndReason) : (s.endChannel c r).Dormant := by
  cases live : s.channels[c].live with
  | none => rwa [State.endChannel_of_idle live]
  | some l =>
    have closed := h.closeChannel c l r
    rwa [State.endChannel_of_live live, closed.cause_eq]

/-! ## Channels ended one after another -/

/-- One visit of a run over the channels that ends those that meet a test. -/
def State.endIf (test : LiveChannel → Bool) (reason : ChannelIx → EndReason) (u : State) (c : ChannelIx) : State :=
  match u.channels[c].live with
  | some l => if test l then u.endChannel c (reason c) else u
  | none => u

theorem State.endingThose_eq_foldl (s : State) (test : LiveChannel → Bool) (reason : ChannelIx → EndReason) :
    s.endingThose test reason = allChannels.foldl (State.endIf test reason) s := rfl

/-- The channel is live and meets a test. -/
def Channel.Meets (x : Channel) (test : LiveChannel → Bool) : Prop := ∃ l, x.live = some l ∧ test l = true

section Visit

variable {s : State} {c : ChannelIx} {test : LiveChannel → Bool}

theorem State.endIf_of_meets (h : s.channels[c].Meets test) (reason : ChannelIx → EndReason) :
    s.endIf test reason c = s.endChannel c (reason c) := by
  obtain ⟨l, live, meets⟩ := h
  unfold State.endIf
  simp only [live, meets, if_true]

theorem State.endIf_of_not_meets (h : ¬ s.channels[c].Meets test) (reason : ChannelIx → EndReason) :
    s.endIf test reason c = s := by
  unfold State.endIf
  cases live : s.channels[c].live with
  | none => rfl
  | some l =>
    cases meets : test l with
    | true => exact absurd ⟨l, live, meets⟩ h
    | false => simp only [meets, Bool.false_eq_true, if_false]

theorem State.endIf_frame (s : State) (test : LiveChannel → Bool) (reason : ChannelIx → EndReason) (c : ChannelIx) :
    s.EndsOnly (s.endIf test reason c) := by
  by_cases h : s.channels[c].Meets test
  · rw [State.endIf_of_meets h]
    exact s.endChannel_frame c _
  · rw [State.endIf_of_not_meets h]

theorem State.endIf_channels_same (h : s.channels[c].Meets test) (reason : ChannelIx → EndReason) :
    (s.endIf test reason c).channels[c] = { live := none, lastEnd := some (reason c, s.time) } := by
  obtain ⟨l, live, _⟩ := id h
  rw [State.endIf_of_meets h, State.endChannel_channels, live]
  exact put_same ..

theorem State.endIf_channels_other (reason : ChannelIx → EndReason) {d : ChannelIx} (apart : d ≠ c) :
    (s.endIf test reason c).channels[d] = s.channels[d] := by
  by_cases h : s.channels[c].Meets test
  · obtain ⟨l, live, _⟩ := id h
    rw [State.endIf_of_meets h, State.endChannel_channels, live]
    exact put_other _ _ apart
  · rw [State.endIf_of_not_meets h]

theorem State.endChannel_table (s : State) {l : LiveChannel} (live : s.channels[c].live = some l) (r : EndReason) (j : EntryIx) :
    (s.endChannel c r).table[j] = if j ∈ l.riders then (s.table[j]).map (·.endedWith r) else s.table[j] := by
  rw [State.endChannel_of_live live, State.cause_frame]
  exact s.closeChannel_table c l r j

end Visit

section Run

variable {test : LiveChannel → Bool} {reason : ChannelIx → EndReason}

theorem State.endingRun_frame (cs : List ChannelIx) (s : State) : s.EndsOnly (cs.foldl (State.endIf test reason) s) :=
  foldl_keeps State.EndsOnly (fun _ => rfl) (fun _ _ _ => State.EndsOnly.trans) _ (fun a c => a.endIf_frame test reason c) cs s

theorem State.endingRun_channels_other {cs : List ChannelIx} {d : ChannelIx} (absent : d ∉ cs) (s : State) :
    (cs.foldl (State.endIf test reason) s).channels[d] = s.channels[d] := by
  induction cs generalizing s with
  | nil => rfl
  | cons c cs ih =>
    obtain ⟨apart, absent⟩ := not_or.mp (mt List.mem_cons.mpr absent)
    rw [List.foldl_cons, ih absent, State.endIf_channels_other reason apart]

theorem State.endIf_time (s : State) (c : ChannelIx) : (s.endIf test reason c).time = s.time := by
  rw [s.endIf_frame test reason c]

/-- A channel of the run that meets the test ends at the state's time for its own reason. -/
theorem State.endingRun_channels_same {cs : List ChannelIx} (apart : cs.Nodup) {s : State} {d : ChannelIx} (mem : d ∈ cs)
    (h : s.channels[d].Meets test) :
    (cs.foldl (State.endIf test reason) s).channels[d] = { live := none, lastEnd := some (reason d, s.time) } := by
  induction cs generalizing s with
  | nil => cases mem
  | cons c cs ih =>
    obtain ⟨first, apart⟩ := List.nodup_cons.mp apart
    rw [List.foldl_cons]
    by_cases same : d = c
    · subst same
      rw [State.endingRun_channels_other first, State.endIf_channels_same h]
    · have mem := (List.mem_cons.mp mem).resolve_left same
      have kept := State.endIf_channels_other (s := s) (test := test) reason same
      rw [ih apart mem (by rwa [kept]), State.endIf_time]

theorem State.endingRun_channels_kept {cs : List ChannelIx} (apart : cs.Nodup) {s : State} {d : ChannelIx}
    (h : ¬ s.channels[d].Meets test) : (cs.foldl (State.endIf test reason) s).channels[d] = s.channels[d] := by
  induction cs generalizing s with
  | nil => rfl
  | cons c cs ih =>
    obtain ⟨first, apart⟩ := List.nodup_cons.mp apart
    rw [List.foldl_cons]
    by_cases same : d = c
    · subst same
      rw [State.endingRun_channels_other first, State.endIf_of_not_meets h]
    · have kept := State.endIf_channels_other (s := s) (test := test) reason same
      rw [ih apart (by rwa [kept]), kept]

theorem State.endIf_table_spared {s : State} {c : ChannelIx} {i : EntryIx}
    (h : ∀ l, s.channels[c].live = some l → test l = true → i ∉ l.riders) : (s.endIf test reason c).table[i] = s.table[i] := by
  by_cases meets : s.channels[c].Meets test
  · obtain ⟨l, live, meets_l⟩ := id meets
    rw [State.endIf_of_meets meets, s.endChannel_table live, if_neg (h l live meets_l)]
  · rw [State.endIf_of_not_meets meets]

theorem State.endIf_table_rides {s : State} {c : ChannelIx} {i : EntryIx} {l : LiveChannel} (live : s.channels[c].live = some l)
    (meets : test l = true) (rides : i ∈ l.riders) :
    (s.endIf test reason c).table[i] = (s.table[i]).map (·.endedWith (reason c)) := by
  rw [State.endIf_of_meets ⟨l, live, meets⟩, s.endChannel_table live, if_pos rides]

/-- An entry that rides no channel of the run that ends is left alone. -/
theorem State.endingRun_table_spared {cs : List ChannelIx} (apart : cs.Nodup) {s : State} {i : EntryIx}
    (h : ∀ c ∈ cs, ∀ l, s.channels[c].live = some l → test l = true → i ∉ l.riders) :
    (cs.foldl (State.endIf test reason) s).table[i] = s.table[i] := by
  induction cs generalizing s with
  | nil => rfl
  | cons c cs ih =>
    obtain ⟨first, apart⟩ := List.nodup_cons.mp apart
    rw [List.foldl_cons, ih apart fun d mem l live => ?_, State.endIf_table_spared (h c (List.mem_cons_self ..))]
    have other : d ≠ c := fun same => first (same ▸ mem)
    rw [State.endIf_channels_other reason other] at live
    exact h d (List.mem_cons_of_mem c mem) l live

section OneReason

variable {r : EndReason} {i : EntryIx}

theorem map_endedWith_twice (x : Option Entry) (r : EndReason) :
    (x.map (·.endedWith r)).map (·.endedWith r) = x.map (·.endedWith r) := by
  cases x <;> rfl

theorem State.endIf_table_cases (s : State) (c : ChannelIx) :
    (s.endIf test (fun _ => r) c).table[i] = s.table[i] ∨
      (s.endIf test (fun _ => r) c).table[i] = (s.table[i]).map (·.endedWith r) := by
  by_cases h : ∃ l, s.channels[c].live = some l ∧ test l = true ∧ i ∈ l.riders
  · obtain ⟨l, live, meets, rides⟩ := h
    exact .inr (State.endIf_table_rides live meets rides)
  · exact .inl (State.endIf_table_spared fun l live meets rides => h ⟨l, live, meets, rides⟩)

theorem State.endingRun_table_ended {x : Option Entry} (cs : List ChannelIx) {s : State}
    (h : s.table[i] = x.map (·.endedWith r)) :
    (cs.foldl (State.endIf test fun _ => r) s).table[i] = x.map (·.endedWith r) := by
  induction cs generalizing s with
  | nil => exact h
  | cons c cs ih =>
    refine ih ?_
    rcases s.endIf_table_cases (test := test) (r := r) (i := i) c with visit | visit
    · rw [visit, h]
    · rw [visit, h, map_endedWith_twice]

/-- A rider of a channel that ends returns to TRACKING; where all ends have one reason, with that note. -/
theorem State.endingRun_table_rides {cs : List ChannelIx} (apart : cs.Nodup) {s : State} {d : ChannelIx} {l : LiveChannel}
    (mem : d ∈ cs) (live : s.channels[d].live = some l) (meets : test l = true) (rides : i ∈ l.riders) :
    (cs.foldl (State.endIf test fun _ => r) s).table[i] = (s.table[i]).map (·.endedWith r) := by
  induction cs generalizing s with
  | nil => cases mem
  | cons c cs ih =>
    obtain ⟨first, apart⟩ := List.nodup_cons.mp apart
    rw [List.foldl_cons]
    by_cases same : d = c
    · subst same
      exact State.endingRun_table_ended cs (State.endIf_table_rides live meets rides)
    · have kept := State.endIf_channels_other (s := s) (test := test) (fun _ => r) same
      rw [ih apart ((List.mem_cons.mp mem).resolve_left same) (by rwa [kept])]
      rcases s.endIf_table_cases (test := test) (r := r) (i := i) c with visit | visit
      · rw [visit]
      · rw [visit, map_endedWith_twice]

end OneReason

end Run

theorem allChannels_nodup : allChannels.Nodup := by decide
theorem mem_allChannels (c : ChannelIx) : c ∈ allChannels := (by decide : ∀ c : ChannelIx, c ∈ allChannels) c

section Those

variable (s : State) (test : LiveChannel → Bool) (reason : ChannelIx → EndReason)

theorem State.endingThose_frame : s.EndsOnly (s.endingThose test reason) := State.endingRun_frame allChannels s

theorem State.endingThose_channels_same {c : ChannelIx} (h : s.channels[c].Meets test) :
    (s.endingThose test reason).channels[c] = { live := none, lastEnd := some (reason c, s.time) } :=
  State.endingRun_channels_same allChannels_nodup (mem_allChannels c) h

theorem State.endingThose_channels_kept {c : ChannelIx} (h : ¬ s.channels[c].Meets test) :
    (s.endingThose test reason).channels[c] = s.channels[c] :=
  State.endingRun_channels_kept allChannels_nodup h

theorem State.Dormant.endingThose {s : State} (h : s.Dormant) : (s.endingThose test reason).Dormant := by
  rw [State.endingThose_eq_foldl]
  refine List.foldlRecOn allChannels _ h fun u hu c _ => ?_
  by_cases meets : u.channels[c].Meets test
  · rw [State.endIf_of_meets meets]
    exact hu.endChannel c _
  · rwa [State.endIf_of_not_meets meets]

theorem State.endingThose_table_spared {i : EntryIx}
    (h : ∀ (c : ChannelIx) l, s.channels[c].live = some l → test l = true → i ∉ l.riders) :
    (s.endingThose test reason).table[i] = s.table[i] :=
  State.endingRun_table_spared allChannels_nodup fun c _ => h c

theorem State.endingThose_table_rides {i : EntryIx} {c : ChannelIx} {l : LiveChannel} (live : s.channels[c].live = some l)
    (meets : test l = true) (rides : i ∈ l.riders) (r : EndReason) :
    (s.endingThose test fun _ => r).table[i] = (s.table[i]).map (·.endedWith r) :=
  State.endingRun_table_rides allChannels_nodup (mem_allChannels c) live meets rides

end Those

/-! ## Triggers (R160, R161) -/

/-- The state a trigger's ends start from: containment SETTLING and the pass stopped (R161). -/
def State.settled (s : State) (reason : ContainReason) : State :=
  { s with
    containment := { s.containment with state := .settling reason (timePlus s.time s.containment.settleTimeout) }
    engine := { pass := none, again := false } }

theorem State.settled_dormant (s : State) (reason : ContainReason) : (s.settled reason).Dormant :=
  ⟨rfl, fun ⟨normal, _⟩ => ContainState.noConfusion normal⟩

theorem State.trigger_of_open {s : State} (on : s.containment.enable = true) (normal : s.containment.state = .normal)
    (reason : ContainReason) :
    s.trigger reason = ((s.settled reason).endingThose (fun _ => true) fun _ => .contained).raise .cnt :=
  if_pos ⟨on, normal⟩

/-- Settles O17: the ends of a trigger from a state whose engine drops their causes. -/
theorem triggerContains : Obligations.TriggerContains := by
  intro s reason
  refine ⟨fun barred => if_neg fun ⟨on, normal⟩ => barred.elim (fun off => Bool.noConfusion (on.symm.trans off)) (· normal),
    fun on normal => ⟨_, State.trigger_of_open on normal reason, ?_⟩⟩
  have ends := (s.settled reason).endingThose_frame (fun _ => true) fun _ => .contained
  have engine := ((s.settled_dormant reason).endingThose (fun _ => true) fun _ => .contained).1
  have channels_same {c : ChannelIx} := (s.settled reason).endingThose_channels_same (fun _ => true) (fun _ => .contained) (c := c)
  have channels_kept {c : ChannelIx} := (s.settled reason).endingThose_channels_kept (fun _ => true) (fun _ => .contained) (c := c)
  have rides {i : EntryIx} {c : ChannelIx} {l : LiveChannel} (live : (s.settled reason).channels[c].live = some l)
    (mem : i ∈ l.riders) := (s.settled reason).endingThose_table_rides (fun _ => true) live rfl mem .contained
  have spared {i : EntryIx} := (s.settled reason).endingThose_table_spared (fun _ => true) (fun _ => .contained) (i := i)
  generalize run : (s.settled reason).endingThose (fun _ => true) (fun _ => .contained) = u at *
  have containment : u.containment = (s.settled reason).containment := by
    unfold State.EndsOnly at ends
    rw [ends]
  have start : ({ s with containment := u.containment, engine := u.engine } : State) = s.settled reason := by
    rw [containment, engine]
    rfl
  refine ⟨?frame, ?ends, fun c l live => channels_same ⟨l, live, rfl⟩, fun c idle => channels_kept fun ⟨l, live, _⟩ => ?idle,
    fun i e he ⟨c, l, live, mem⟩ => ?rider, fun i h => spared fun c l live _ => h c l live⟩
  case frame =>
    unfold State.EndsOnly at ends
    rw [ends, engine]
    rfl
  case ends =>
    change u.raise .cnt = { State.endingThose { s with containment := u.containment, engine := u.engine } (fun _ => true)
      (fun _ => .contained) with port := (u.raise .cnt).port }
    rw [start, run]
    rfl
  case rider => exact (rides live mem).trans (congrArg (Option.map (·.endedWith .contained)) he)
  case idle => exact Option.some_ne_none l (live.symm.trans idle)


/-! ## Allocations and charge lists (R76, R89, R106) -/

theorem allocate_sublist (pairs : List (SlotIx × Nat)) (n : Nat) :
    ((allocate pairs n).map (·.1)).Sublist (pairs.map (·.1)) := by
  induction pairs generalizing n with
  | nil => exact .slnil
  | cons q rest ih =>
    rw [allocate]
    split
    · exact (ih n).cons _
    · exact (ih _).cons_cons _

theorem allocate_sum (pairs : List (SlotIx × Nat)) (n : Nat) :
    ((allocate pairs n).map (·.2)).sum = min n (pairs.map (·.2)).sum := by
  induction pairs generalizing n with
  | nil => simp [allocate]
  | cons q rest ih =>
    rw [allocate]
    split
    · rw [ih, List.map_cons, List.sum_cons]
      omega
    · rw [List.map_cons, List.sum_cons, ih, List.map_cons, List.sum_cons]
      simp only []
      omega

/-- A pair of an allocation gives something, and no more than the slack it was formed with (R76). -/
theorem exists_of_mem_allocate {pairs : List (SlotIx × Nat)} {n : Nat} {q : SlotIx × Nat} (h : q ∈ allocate pairs n) :
    ∃ slack, (q.1, slack) ∈ pairs ∧ 1 ≤ q.2 ∧ q.2 ≤ slack := by
  have rest_of {rest : List (SlotIx × Nat)} (head : SlotIx × Nat) :
      (∃ slack, (q.1, slack) ∈ rest ∧ 1 ≤ q.2 ∧ q.2 ≤ slack) → ∃ slack, (q.1, slack) ∈ head :: rest ∧ 1 ≤ q.2 ∧ q.2 ≤ slack :=
    fun ⟨slack, mem, within⟩ => ⟨slack, List.mem_cons_of_mem head mem, within⟩
  induction pairs generalizing n with
  | nil => cases h
  | cons head rest ih =>
    rw [allocate] at h
    split at h
    · exact rest_of head (ih h)
    · rcases List.mem_cons.mp h with rfl | h
      · exact ⟨head.2, List.mem_cons_self .., by omega, Nat.min_le_left ..⟩
      · exact rest_of head (ih h)

theorem Figures.allocation_sublist (f : Figures) (ks : List SlotIx) (n : Nat) : ((f.allocation ks n).map (·.1)).Sublist ks := by
  have := allocate_sublist (ks.map fun k => (k, f.slack k)) n
  rwa [List.map_map, show (fun q : SlotIx × Nat => q.1) ∘ (fun k => (k, f.slack k)) = id from rfl, List.map_id] at this

theorem Figures.mem_allocation {f : Figures} {ks : List SlotIx} {n : Nat} {q : SlotIx × Nat} (h : q ∈ f.allocation ks n) :
    1 ≤ q.2 ∧ q.2 ≤ f.slack q.1 := by
  obtain ⟨slack, mem, gives, within⟩ := exists_of_mem_allocate h
  obtain ⟨k, _, same⟩ := List.mem_map.mp mem
  cases same
  exact ⟨gives, within⟩

theorem Figures.allocation_sum (f : Figures) (ks : List SlotIx) (n : Nat) :
    ((f.allocation ks n).map (·.2)).sum = min n (ks.map f.slack).sum := by
  rw [Figures.allocation, allocate_sum, List.map_map]
  rfl

theorem Figures.allocation_cons (f : Figures) (k : SlotIx) (ks : List SlotIx) (n : Nat) :
    f.allocation (k :: ks) n = if min (f.slack k) n = 0 then f.allocation ks n
      else (k, min (f.slack k) n) :: f.allocation ks (n - min (f.slack k) n) := rfl

theorem Figures.capacity_eq_sum (f : Figures) (ks : List SlotIx) : f.capacity ks = (ks.map f.slack).sum := by
  rw [List.sum_eq_foldr, List.foldr_map]
  rfl

theorem mergePair_of_absent {held : List (SlotIx × Nat)} {k : SlotIx} (h : k ∉ held.map (·.1)) (n : Nat) :
    mergePair held (k, n) = held ++ [(k, n)] := by
  induction held with
  | nil => rfl
  | cons q rest ih =>
    obtain ⟨apart, absent⟩ := not_or.mp (mt List.mem_cons.mpr h)
    rw [mergePair, if_neg (Ne.symm apart), ih absent]
    rfl

theorem mergePair_of_present {first : List (SlotIx × Nat)} {k : SlotIx} (h : k ∉ first.map (·.1)) (last : List (SlotIx × Nat))
    (m n : Nat) : mergePair (first ++ (k, m) :: last) (k, n) = first ++ (k, m + n) :: last := by
  induction first with
  | nil => exact if_pos rfl
  | cons q rest ih =>
    obtain ⟨apart, absent⟩ := not_or.mp (mt List.mem_cons.mpr h)
    rw [List.cons_append, mergePair, if_neg (Ne.symm apart), ih absent]
    rfl

theorem refundAll_append (p : Plan) (a : Account) (charges : List (SlotIx × Nat)) (k : SlotIx) (n total : Nat) :
    refundAll p a (charges ++ [(k, n)]) total =
      refundAll p (refundSlot p a k (min n total)) charges (total - min n total) := by
  rw [refundAll, List.reverse_append]
  rfl

/-! ## The green-time figures (R69 to R75) -/

theorem State.figures_of_inStep {s : State} {p : Plan} {r : StepRecord} (active : s.plans.active = some p)
    (inStep : s.tracker = .inStep r) : s.figures =
    some { t := s.time, plan := p, step := r, account := s.account, channels := s.channels, policy := s.policy } := by
  unfold State.figures
  simp only [active, inStep]

theorem State.figures_eq_none {s : State} (h : s.plans.active = none ∨ ∀ r, s.tracker ≠ .inStep r) : s.figures = none := by
  unfold State.figures
  split
  · rename_i active inStep
    rcases h with h | h
    · exact absurd (active.symm.trans h) (Option.some_ne_none _)
    · exact absurd inStep (h _)
  · rfl

theorem laterOf_eq_ite (x y : Time) : laterOf x y = if 0 ≤ (x - y).toInt then x else y := by
  unfold laterOf atOrAfter timeDiff
  split
  · rename_i h
    rw [if_pos (of_decide_eq_true h)]
  · rename_i h
    rw [if_neg fun g => h (decide_eq_true g)]

theorem Figures.effectiveGreen_cur (f : Figures) : f.effectiveGreen f.step.cur =
    ((slotAt f.plan f.step.cur).g : Int) - f.account.charge[f.step.cur] + f.account.xcur := by
  rw [Figures.effectiveGreen, if_pos rfl]

theorem Figures.effectiveGreen_other (f : Figures) {k : SlotIx} (h : k ≠ f.step.cur) : f.effectiveGreen k =
    ((slotAt f.plan k).g : Int) - f.account.charge[k] := by
  rw [Figures.effectiveGreen, if_neg h, Int.add_zero]

theorem Figures.start_of_green {f : Figures} (h : f.step.period = .green) :
    f.start = timePlus (laterOf f.plannedEnd f.t) f.curClearance := by
  unfold Figures.start
  rw [h]

theorem Figures.start_of_clearance {f : Figures} {drop : Time} (h : f.step.period = .clearance drop) :
    f.start = laterOf (timePlus drop f.curClearance) f.t := by
  unfold Figures.start
  rw [h]

theorem mem_ringSlots (p : Plan) (k : SlotIx) : k ∈ ringSlots p ↔ k.val < p.slots.length := by
  simp only [ringSlots, List.mem_filter, decide_eq_true_eq]
  exact and_iff_right ((by decide : ∀ k : SlotIx, k ∈ allSlots) k)

theorem ringSlots_sorted (p : Plan) : (ringSlots p).Pairwise (· < ·) :=
  (by decide : allSlots.Pairwise (· < ·)).filter _

theorem Figures.mem_after (f : Figures) (k : SlotIx) : k ∈ f.after ↔ k.val < f.plan.slots.length ∧ f.step.cur < k := by
  simp only [Figures.after, List.mem_filter, mem_ringSlots, decide_eq_true_eq]

theorem Figures.after_sorted (f : Figures) : f.after.Pairwise (· < ·) := (ringSlots_sorted f.plan).filter _

theorem Figures.mem_between (f : Figures) (j k : SlotIx) :
    k ∈ f.between j ↔ k.val < f.plan.slots.length ∧ f.step.cur < k ∧ (j = 0 ∨ k < j) := by
  unfold Figures.between
  split
  · rename_i zero
    rw [f.mem_after]
    exact and_congr_right fun _ => (and_iff_left (.inl zero)).symm
  · rename_i nonzero
    rw [List.mem_filter, f.mem_after, decide_eq_true_eq, and_assoc, or_iff_right nonzero]

theorem Figures.between_sorted (f : Figures) (j : SlotIx) : (f.between j).Pairwise (· < ·) := by
  unfold Figures.between
  split
  · exact f.after_sorted
  · exact f.after_sorted.filter _

theorem Figures.spanOf_eq_sum (f : Figures) (ks : List SlotIx) :
    f.spanOf ks = (ks.map fun k => f.effectiveGreen k + ((slotAt f.plan k).y : Int)).sum := by
  induction ks with
  | nil => rfl
  | cons k ks ih => rw [Figures.spanOf, ih, List.map_cons, List.sum_cons]

theorem Figures.extendLive_iff (f : Figures) : f.extendLive = true ↔ ∃ (b : ChannelIx) (l : LiveChannel) (rem : Nat) (rf : Time),
    f.channels[b].live = some l ∧ l.action = .extend rem rf := by
  simp only [Figures.extendLive, liveChannels_any_iff, isExtend_iff, exists_and_left]

theorem Figures.currentTruncated_iff (f : Figures) :
    f.currentTruncated = true ↔ f.step.period = .green ∧ ¬ f.extendLive = true := by
  simp only [Figures.currentTruncated, Bool.and_eq_true, decide_eq_true_eq, Bool.not_eq_true', Bool.not_eq_true]

theorem Figures.mem_truncation (f : Figures) (j k : SlotIx) : k ∈ f.truncation j ↔
    (k = f.step.cur ∧ f.step.period = .green ∧ ¬ f.extendLive = true ∨ k ∈ f.between j) ∧ ¬ f.isProtected k = true := by
  simp only [Figures.truncation, List.mem_filter, List.mem_append, Bool.not_eq_true', Bool.not_eq_true]
  refine and_congr_left fun _ => or_congr_left ?_
  rw [← Bool.not_eq_true, ← f.currentTruncated_iff]
  split
  · rename_i h
    rw [List.mem_singleton]
    exact (and_iff_left h).symm
  · rename_i h
    exact iff_of_false (List.not_mem_nil) fun g => h g.2

theorem Figures.truncation_sorted (f : Figures) (j : SlotIx) : (f.truncation j).Pairwise (· < ·) := by
  refine List.Pairwise.filter _ (List.pairwise_append.mpr ⟨?_, f.between_sorted j, fun a ha b hb => ?_⟩)
  · split
    · exact List.pairwise_singleton ..
    · exact .nil
  · have after := ((f.mem_between j b).mp hb).2.1
    split at ha
    · rwa [List.mem_singleton.mp ha]
    · cases ha

theorem Figures.mem_extensionSlots (f : Figures) (k : SlotIx) :
    k ∈ f.extensionSlots ↔ k.val < f.plan.slots.length ∧ f.step.cur < k ∧ ¬ f.isProtected k = true := by
  simp only [Figures.extensionSlots, List.mem_filter, f.mem_after, Bool.not_eq_true', Bool.not_eq_true, and_assoc]

theorem Figures.slack_of_protected {f : Figures} {k : SlotIx} (h : f.isProtected k = true) : f.slack k = 0 := if_pos h

theorem Figures.slack_of_other {f : Figures} {k : SlotIx} (h : ¬ f.isProtected k = true) (other : k ≠ f.step.cur) :
    f.slack k = (min (f.structural k) (f.debtLimit k)).toNat := by
  rw [Figures.slack, if_neg h, if_neg other]

theorem Figures.slack_of_clearance {f : Figures} {k : SlotIx} (h : ¬ f.isProtected k = true) (cur : k = f.step.cur)
    {drop : Time} (clearance : f.step.period = .clearance drop) : f.slack k = 0 := by
  unfold Figures.slack
  rw [if_neg h, if_pos cur, clearance]

theorem Figures.slack_of_green {f : Figures} {k : SlotIx} (h : ¬ f.isProtected k = true) (cur : k = f.step.cur)
    (green : f.step.period = .green) : f.slack k = (min (min (f.structural k) (f.debtLimit k)) f.timeLimit).toNat := by
  unfold Figures.slack
  rw [if_neg h, if_pos cur, green, min_comm f.timeLimit, min_assoc]

/-- Settles O30: each operation and each figure by its formula. -/
theorem accountOperations : Obligations.AccountOperations := by
  refine ⟨fun p a k n => ?slot, refundAll_append, fun p a total => rfl, fun f ks n => ?allocation, fun held more k n => ?merge,
    fun s => ⟨fun p r active inStep => State.figures_of_inStep active inStep, State.figures_eq_none⟩, fun f => ?figures⟩
  case slot =>
    exact ⟨⟨put_same .., put_same .., rfl⟩, ⟨put_same .., put_same .., rfl⟩, ⟨rfl, rfl, rfl, rfl⟩,
      fun j hj => ⟨put_other _ _ hj, put_other _ _ hj⟩, fun q hq => ⟨put_other _ _ hq, put_other _ _ hq⟩⟩
  case allocation =>
    exact ⟨f.allocation_sublist ks n, fun q => Figures.mem_allocation, f.allocation_sum ks n, rfl,
      fun k => ⟨fun zero => (f.allocation_cons k ks n).trans (if_pos zero),
        fun nonzero => (f.allocation_cons k ks n).trans (if_neg nonzero)⟩⟩
  case merge =>
    refine ⟨rfl, rfl, fun absent => mergePair_of_absent absent n, fun first last m h absent => ?_⟩
    rw [h]
    exact mergePair_of_present absent last m n
  case figures =>
    have plannedEnd : f.plannedEnd = timePlus f.step.onset
        (((slotAt f.plan f.step.cur).g : Int) - f.account.charge[f.step.cur] + f.account.xcur) := by
      rw [Figures.plannedEnd, Figures.effectiveGreen_cur]
    intro cur G Y gmin c owes later plus e isProtected extending limit
    have protects (k : SlotIx) : isProtected k ↔ f.isProtected k = true := (f.isProtected_iff k).symm
    have later_eq (x y : Time) : later x y = laterOf x y := (laterOf_eq_ite x y).symm
    refine ⟨f.effectiveGreen_cur, fun k => f.effectiveGreen_other, plannedEnd, ?_, fun green => ?_, fun drop clearance => ?_,
      fun j => ⟨f.mem_between j, f.between_sorted j, ?_⟩,
      fun k => ⟨fun h => ?_, fun h other => ?_, fun h same => ⟨fun drop clearance => ?_, fun green => ?_⟩⟩,
      fun k => ?_, f.after_sorted.filter _, f.capacity_eq_sum _,
      fun j => ⟨fun k => ?_, f.truncation_sorted j, f.capacity_eq_sum _, fun need => rfl⟩⟩
    · exact (congrArg (laterOf f.t) plannedEnd).trans (later_eq ..).symm
    · rw [Figures.start_of_green green, plannedEnd, ← later_eq]
      rfl
    · rw [Figures.start_of_clearance clearance, ← later_eq]
      rfl
    · rw [Figures.timeToGreen, Figures.spanOf_eq_sum]
      rfl
    · exact Figures.slack_of_protected ((protects k).mp h)
    · exact Figures.slack_of_other (mt (protects k).mpr h) other
    · exact Figures.slack_of_clearance (mt (protects k).mpr h) same clearance
    · rw [Figures.slack_of_green (mt (protects k).mpr h) same green, Figures.timeLimit, plannedEnd, ← later_eq]
      rfl
    · rw [f.mem_extensionSlots, protects]
    · rw [f.mem_truncation, protects, f.extendLive_iff]


/-! ## Several records pushed (R176) -/

/-- Records pushed one after another: those that fit are held, and OVF is raised where some do not. -/
theorem State.pushOutcomes_port (s : State) (r : OutcomeRecord) (rs : List OutcomeRecord) :
    (s.pushOutcomes (r :: rs)).port = { s.port with
      outcomes := s.port.outcomes ++ (r :: rs).take (32 - s.port.outcomes.length)
      events := if s.port.outcomes.length + (r :: rs).length ≤ 32 then s.port.events
        else { s.port.events with ovf := true } } := by
  have step (rs : List OutcomeRecord) : s.pushOutcomes (r :: rs) = (s.pushOutcome r).pushOutcomes rs := rfl
  rcases s.pushOutcome_cases r with ⟨room, pushed⟩ | ⟨full, lost⟩
  · have first : (r :: rs).take (32 - s.port.outcomes.length) = r :: rs.take (31 - s.port.outcomes.length) := by
      rw [show 32 - s.port.outcomes.length = (31 - s.port.outcomes.length) + 1 by omega]
      rfl
    cases rs with
    | nil =>
      have fits : s.port.outcomes.length + [r].length ≤ 32 := by
        simp only [List.length_singleton]
        omega
      rw [if_pos fits, first, step, pushed, List.take_nil]
      rfl
    | cons r' rs =>
      have rest := (s.pushOutcome r).pushOutcomes_port r' rs
      rw [step, rest, first, pushed]
      simp only [List.length_append, List.length_cons, List.length_nil, List.append_assoc, List.singleton_append,
        show 32 - (s.port.outcomes.length + (0 + 1)) = 31 - s.port.outcomes.length by omega,
        show s.port.outcomes.length + (0 + 1) + (rs.length + 1) = s.port.outcomes.length + (rs.length + 1 + 1) by omega]
  · have excess (x : OutcomeRecord) (q : List OutcomeRecord) : ¬ s.port.outcomes.length + (x :: q).length ≤ 32 := by
      simp only [List.length_cons]
      omega
    have none_fit (q : List OutcomeRecord) : q.take (32 - s.port.outcomes.length) = [] := by
      rw [show 32 - s.port.outcomes.length = 0 by omega, List.take_zero]
    rw [if_neg (excess r rs), none_fit, List.append_nil]
    cases rs with
    | nil => rw [step, lost]; rfl
    | cons r' rs =>
      have rest := (s.pushOutcome r).pushOutcomes_port r' rs
      rw [step, rest, lost]
      simp only [none_fit, List.append_nil, if_neg (excess r' rs)]
termination_by rs.length

/-! ## What a closure writes, its channel and its records apart (R29) -/

/-- The state with what the end of a channel writes replaced. -/
def State.withTable (s : State) (a : Account) (table : Vector (Option Entry) 16) (channels : Vector Channel 4) : State :=
  { s with account := a, table, channels }

theorem State.pushOutcome_withTable (s : State) (a tb ch) (r : OutcomeRecord) :
    (s.withTable a tb ch).pushOutcome r = (s.pushOutcome r).withTable a tb ch := by
  by_cases room : s.port.outcomes.length < outcomeCapacity
  · have same : (s.withTable a tb ch).port.outcomes.length < outcomeCapacity := room
    rw [State.pushOutcome, State.pushOutcome, if_pos room, if_pos same]
    rfl
  · have same : ¬ (s.withTable a tb ch).port.outcomes.length < outcomeCapacity := room
    rw [State.pushOutcome, State.pushOutcome, if_neg room, if_neg same]
    rfl

theorem State.setLink_withTable (s : State) (a tb ch) (p : PortId) (x : CorridorPort) :
    (s.withTable a tb ch).setLink p x = (s.setLink p x).withTable a tb ch := by
  cases p <;> rfl

theorem State.link_withTable (s : State) (a tb ch) (p : PortId) : (s.withTable a tb ch).link p = s.link p := by
  cases p <;> rfl

/-- A refused handoff request pushes its record (R145). -/
theorem State.requestHandoff_of_no_exit {s : State} {e : Entry} (h : portOfExit s.approaches[e.approach].exitSide = none) :
    s.requestHandoff e = s.pushOutcome (handoffRecord s.time e.vehicle e.route e.approach e.level (.notSent .noExit)) := by
  unfold State.requestHandoff
  rw [h]

theorem State.requestHandoff_of_refusal {s : State} {e : Entry} {p : PortId} {why : NotSent}
    (exit : portOfExit s.approaches[e.approach].exitSide = some p) (h : handoffRefusal (s.link p) = some why) :
    s.requestHandoff e = s.pushOutcome (handoffRecord s.time e.vehicle e.route e.approach e.level (.notSent why)) := by
  unfold State.requestHandoff
  simp only [exit, h]

theorem State.requestHandoff_of_sent {s : State} {e : Entry} {p : PortId}
    (exit : portOfExit s.approaches[e.approach].exitSide = some p) (h : handoffRefusal (s.link p) = none) :
    s.requestHandoff e = s.setLink p (enqueueHandoff (s.link p) e) := by
  unfold State.requestHandoff
  simp only [exit, h]

theorem State.requestHandoff_withTable (s : State) (a tb ch) (e : Entry) :
    (s.withTable a tb ch).requestHandoff e = (s.requestHandoff e).withTable a tb ch := by
  cases exit : portOfExit s.approaches[e.approach].exitSide with
  | none =>
    have same : portOfExit (s.withTable a tb ch).approaches[e.approach].exitSide = none := exit
    rw [State.requestHandoff_of_no_exit exit, State.requestHandoff_of_no_exit same, ← State.pushOutcome_withTable]
    rfl
  | some p =>
    have same : portOfExit (s.withTable a tb ch).approaches[e.approach].exitSide = some p := exit
    have link := s.link_withTable a tb ch p
    cases refusal : handoffRefusal (s.link p) with
    | some why =>
      rw [State.requestHandoff_of_refusal exit refusal, State.requestHandoff_of_refusal same (by rwa [link]),
        ← State.pushOutcome_withTable]
      rfl
    | none =>
      rw [State.requestHandoff_of_sent exit refusal, State.requestHandoff_of_sent same (by rwa [link]), link,
        State.setLink_withTable]

/-- The records and the handoff of a closure (R29, R30, R33). -/
def State.closedOut (s : State) (e : Entry) (r : CloseReason) : State :=
  if isServed r then (s.pushOutcome (closedRecord e s.time r)).requestHandoff e else s.pushOutcome (closedRecord e s.time r)

theorem State.closeEntry_eq (s : State) (i : EntryIx) (e : Entry) (r : CloseReason) :
    s.closeEntry i e r = State.causeIf ((s.closedOut e r).withTable (s.shed i e).1.account
      (put (s.shed i e).1.table i none) (s.shed i e).1.channels) (s.shed i e).2 := by
  have shed : (s.shed i e).1 = s.withTable (s.shed i e).1.account (s.shed i e).1.table (s.shed i e).1.channels :=
    s.shed_frame i e
  unfold State.closeEntry
  generalize s.shed i e = left at *
  obtain ⟨u, ended⟩ := left
  simp only [] at *
  rw [shed, State.pushOutcome_withTable]
  unfold State.closedOut
  split
  · rw [State.requestHandoff_withTable]
    rfl
  · rfl

/-- A closure but for its records: table, channels and account. -/
theorem State.closeEntry_table (s : State) (i : EntryIx) (e : Entry) (r : CloseReason) :
    (s.closeEntry i e r).table = put (s.shed i e).1.table i none := by
  rw [State.closeEntry_eq, State.causeIf_frame]
  rfl

theorem State.closeEntry_channels (s : State) (i : EntryIx) (e : Entry) (r : CloseReason) :
    (s.closeEntry i e r).channels = (s.shed i e).1.channels := by
  rw [State.closeEntry_eq, State.causeIf_frame]
  rfl

theorem State.closeEntry_account (s : State) (i : EntryIx) (e : Entry) (r : CloseReason) :
    (s.closeEntry i e r).account = (s.shed i e).1.account := by
  rw [State.closeEntry_eq, State.causeIf_frame]
  rfl

theorem State.closeEntry_port (s : State) (i : EntryIx) (e : Entry) (r : CloseReason) :
    (s.closeEntry i e r).port = (s.closedOut e r).port := by
  rw [State.closeEntry_eq, State.causeIf_frame]
  rfl

theorem State.closeEntry_link (s : State) (i : EntryIx) (e : Entry) (r : CloseReason) (p : PortId) :
    (s.closeEntry i e r).link p = (s.closedOut e r).link p := by
  rw [State.closeEntry_eq, State.causeIf_frame]
  cases p <;> rfl

theorem State.pushOutcome_engine (s : State) (r : OutcomeRecord) : (s.pushOutcome r).engine = s.engine := by
  rw [State.pushOutcome_frame]

theorem State.closedOut_engine (s : State) (e : Entry) (r : CloseReason) : (s.closedOut e r).engine = s.engine := by
  unfold State.closedOut
  split
  · rw [State.requestHandoff_frame]
    exact s.pushOutcome_engine _
  · exact s.pushOutcome_engine _

/-! ## The channel an entry leaves (R26, R112) -/

theorem State.ridersLevel_cons (s : State) (i : EntryIx) (is : List EntryIx) : s.ridersLevel (i :: is) =
    match s.table[i] with | some e => max e.level (s.ridersLevel is) | none => s.ridersLevel is := rfl

/-- The level of a rider list is the highest among its live entries. -/
theorem State.ridersLevel_isHighest (s : State) (riders : List EntryIx) : s.IsHighest riders (s.ridersLevel riders) := by
  induction riders with
  | nil => exact ⟨fun i h => (List.not_mem_nil h).elim, .inl rfl⟩
  | cons i is ih =>
    obtain ⟨bound, reached⟩ := ih
    cases live : s.table[i] with
    | none =>
      simp only [s.ridersLevel_cons, live]
      refine ⟨fun j mem e he => ?_, reached.imp_right fun ⟨j, mem, h⟩ => ⟨j, List.mem_cons_of_mem i mem, h⟩⟩
      rcases List.mem_cons.mp mem with rfl | mem
      · exact absurd (he.symm.trans live) (Option.some_ne_none e)
      · exact bound j mem e he
    | some x =>
      simp only [s.ridersLevel_cons, live]
      refine ⟨fun j mem e he => ?_, ?_⟩
      · rcases List.mem_cons.mp mem with rfl | mem
        · cases live.symm.trans he
          exact Nat.le_max_left ..
        · exact (bound j mem e he).trans (Nat.le_max_right ..)
      · by_cases top : s.ridersLevel is ≤ x.level
        · exact .inr ⟨i, List.mem_cons_self .., x, live, (Nat.max_eq_left top).symm⟩
        · rw [Nat.max_eq_right (by omega)]
          exact reached.imp_right fun ⟨j, mem, h⟩ => ⟨j, List.mem_cons_of_mem i mem, h⟩

/-- The entry rides no live channel. -/
def State.RidesNone (s : State) (e : Entry) : Prop := ∀ c, e.state = .granted c → s.channels[c].live = none

theorem State.shed_of_ridesNone {s : State} {e : Entry} (h : s.RidesNone e) (i : EntryIx) : s.shed i e = (s, false) := by
  unfold State.shed
  cases state : e.state with
  | granted c =>
    have idle := h c state
    simp only [State.leaveChannel, idle]
  | tracking => rfl
  | pending => rfl

section Leaving

variable {s : State} {e : Entry} {c : ChannelIx} {l : LiveChannel} (granted : e.state = .granted c)
  (live : s.channels[c].live = some l) (i : EntryIx)

include granted live

/-- The last rider that leaves ends its channel with RELEASED (R112). -/
theorem State.shed_of_last (last : l.riders.filter (fun j => decide (j ≠ i)) = []) :
    s.shed i e = (s.closeChannel c { l with riders := [] } .released, true) := by
  unfold State.shed
  simp only [granted, State.leaveChannel, live, last]

/-- Another rider that leaves keeps the order of the rest, which give the channel its level (R112). -/
theorem State.shed_of_rest (rest : l.riders.filter (fun j => decide (j ≠ i)) ≠ []) :
    s.shed i e = (s.setChannel c { s.channels[c] with live := some { l with
      riders := l.riders.filter fun j => decide (j ≠ i)
      level := s.ridersLevel (l.riders.filter fun j => decide (j ≠ i)) } }, false) := by
  unfold State.shed
  simp only [granted, State.leaveChannel, live]
  split
  · rename_i none
    exact absurd none rest
  · rename_i j js some
    rw [some]

end Leaving

theorem isServed_iff (r : CloseReason) : isServed r = true ↔ r = .servedRadio ∨ r = .servedLoop := by
  cases r <;> decide

theorem portOfExit_eq_some_iff (x : ExitSide) (p : PortId) :
    portOfExit x = some p ↔ x = if p = .linkA then .toA else .toB := by
  cases x <;> cases p <;> decide

/-! ## The handoff of a closure (R145) -/

section Request

variable {x : CorridorPort}

theorem handoffRefusal_of_down (h : x.state ≠ .up) : handoffRefusal x = some .linkNotUp := if_pos h

theorem handoffRefusal_of_contained (up : x.state = .up) (h : x.peerContained = true) :
    handoffRefusal x = some .peerContained := by
  rw [handoffRefusal, if_neg (not_not.mpr up), if_pos h]

theorem handoffRefusal_of_full (up : x.state = .up) (free : x.peerContained = false)
    (h : 4 ≤ x.outgoing.length ∨ 4 ≤ x.awaiting.length + handoffCount x.outgoing) : handoffRefusal x = some .queueFull := by
  have full : outgoingCapacity ≤ x.outgoing.length ∨ awaitingCapacity ≤ x.awaiting.length + handoffCount x.outgoing := h
  rw [handoffRefusal, if_neg (not_not.mpr up), if_neg (Bool.eq_false_iff.mp free), if_pos full]

theorem handoffRefusal_of_room (up : x.state = .up) (free : x.peerContained = false) (out : x.outgoing.length < 4)
    (held : x.awaiting.length + handoffCount x.outgoing < 4) : handoffRefusal x = none := by
  rw [handoffRefusal, if_neg (not_not.mpr up), if_neg (Bool.eq_false_iff.mp free), if_neg]
  exact not_or.mpr ⟨Nat.not_le.mpr out, Nat.not_le.mpr held⟩

end Request

section Records

variable {s : State} {e : Entry} {r : CloseReason}

theorem State.pushOutcome_link (s : State) (r : OutcomeRecord) (p : PortId) : (s.pushOutcome r).link p = s.link p := by
  rw [State.pushOutcome_frame]
  cases p <;> rfl

/-- What a closure pushes and what it leaves of the corridor ports (R29, R30). -/
def State.PushesOnly (s t : State) (records : List OutcomeRecord) : Prop :=
  t.port = { s.port with
    outcomes := s.port.outcomes ++ records.take (32 - s.port.outcomes.length)
    events := if s.port.outcomes.length + records.length ≤ 32 then s.port.events else { s.port.events with ovf := true } }

theorem State.closedOut_of_unserved (h : ¬ isServed r = true) :
    s.PushesOnly (s.closedOut e r) [closedRecord e s.time r] ∧ ∀ p, (s.closedOut e r).link p = s.link p := by
  rw [State.closedOut, if_neg h]
  exact ⟨s.pushOutcomes_port _ [], s.pushOutcome_link _⟩

/-- The NOT_SENT record of a served closure that requests no handoff (R145, R147). -/
def refusedRecord (s : State) (e : Entry) (why : NotSent) : OutcomeRecord :=
  handoffRecord s.time e.vehicle e.route e.approach e.level (.notSent why)

theorem State.closedOut_of_unsent (served : isServed r = true) {why : NotSent}
    (h : (s.pushOutcome (closedRecord e s.time r)).requestHandoff e =
      (s.pushOutcome (closedRecord e s.time r)).pushOutcome (refusedRecord s e why)) :
    s.PushesOnly (s.closedOut e r) [closedRecord e s.time r, refusedRecord s e why] ∧
      ∀ p, (s.closedOut e r).link p = s.link p := by
  rw [State.closedOut, if_pos served, h]
  refine ⟨s.pushOutcomes_port _ [_], fun p => ?_⟩
  rw [State.pushOutcome_link, State.pushOutcome_link]

theorem State.closedOut_of_no_exit (served : isServed r = true) (exit : s.approaches[e.approach].exitSide = .none) :
    s.PushesOnly (s.closedOut e r) [closedRecord e s.time r, refusedRecord s e .noExit] ∧
      ∀ p, (s.closedOut e r).link p = s.link p := by
  refine State.closedOut_of_unsent served ?_
  have same : (s.pushOutcome (closedRecord e s.time r)).approaches = s.approaches := by rw [State.pushOutcome_frame]
  have time : (s.pushOutcome (closedRecord e s.time r)).time = s.time := by rw [State.pushOutcome_frame]
  rw [State.requestHandoff_of_no_exit (by rw [same, exit]; rfl), time]
  rfl

theorem State.closedOut_of_refusal (served : isServed r = true) {p : PortId} {why : NotSent}
    (exit : s.approaches[e.approach].exitSide = if p = .linkA then .toA else .toB)
    (h : handoffRefusal (s.link p) = some why) :
    s.PushesOnly (s.closedOut e r) [closedRecord e s.time r, refusedRecord s e why] ∧
      ∀ p, (s.closedOut e r).link p = s.link p := by
  refine State.closedOut_of_unsent served ?_
  have same : (s.pushOutcome (closedRecord e s.time r)).approaches = s.approaches := by rw [State.pushOutcome_frame]
  have time : (s.pushOutcome (closedRecord e s.time r)).time = s.time := by rw [State.pushOutcome_frame]
  rw [State.requestHandoff_of_refusal (p := p) (by rw [same, portOfExit_eq_some_iff, exit])
    (by rw [State.pushOutcome_link, h]), time]
  rfl

theorem State.closedOut_of_sent (served : isServed r = true) {p : PortId}
    (exit : s.approaches[e.approach].exitSide = if p = .linkA then .toA else .toB) (h : handoffRefusal (s.link p) = none) :
    s.PushesOnly (s.closedOut e r) [closedRecord e s.time r] ∧
      (∀ q, q ≠ p → (s.closedOut e r).link q = s.link q) ∧ (s.closedOut e r).link p = enqueueHandoff (s.link p) e := by
  have same : (s.pushOutcome (closedRecord e s.time r)).approaches = s.approaches := by rw [State.pushOutcome_frame]
  rw [State.closedOut, if_pos served, State.requestHandoff_of_sent (p := p) (by rw [same, portOfExit_eq_some_iff, exit])
    (by rw [State.pushOutcome_link, h]), State.pushOutcome_link]
  refine ⟨?_, fun q apart => ?_, State.setLink_link_same ..⟩
  · rw [State.PushesOnly, State.setLink_port]
    exact s.pushOutcomes_port _ []
  · rw [State.setLink_link_other _ _ apart, State.pushOutcome_link]

end Records

/-- Settles O19: the channel that is left, the records and the handoff, and the cause after the whole write. -/
theorem closureIsOneWrite : Obligations.ClosureIsOneWrite := by
  intro s i e r live_e
  refine ⟨_, rfl, ?free, s.closeEntry_closes i e r, fun alone => ?alone, fun c l granted live => ?granted,
    fun unserved => ?unserved, fun served => ?served⟩
  case free =>
    rw [State.closeEntry_table]
    exact put_same ..
  case alone =>
    have shed := State.shed_of_ridesNone (s := s) alone i
    refine ⟨fun j apart => ?_, ?_, ?_, ?_⟩
    · rw [State.closeEntry_table, shed]
      exact put_other _ _ apart
    · rw [State.closeEntry_channels, shed]
    · rw [State.closeEntry_account, shed]
    · rw [State.closeEntry_eq, shed]
      exact s.closedOut_engine e r
  case granted =>
    have table_of (h : (s.shed i e).1.table = s.table) : ∀ j, j ≠ i → (s.closeEntry i e r).table[j] = s.table[j] := by
      intro j apart
      rw [State.closeEntry_table, h]
      exact put_other _ _ apart
    by_cases last : l.riders.filter (fun j => decide (j ≠ i)) = []
    · have shed := State.shed_of_last granted live i last
      refine ⟨fun d apart => ?_, table_of ?_, fun rest => absurd last rest, fun _ => ⟨?_, ?_, ?_⟩⟩
      · rw [State.closeEntry_channels, shed, State.closeChannel_channels]
        exact put_other _ _ apart
      · rw [shed]
        refine vector_ext fun j => ?_
        rw [State.closeChannel_table]
        exact if_neg List.not_mem_nil
      · rw [State.closeEntry_channels, shed, State.closeChannel_channels]
        exact put_same ..
      · rw [State.closeEntry_account, shed, State.closeChannel_account, State.endChannel_of_live live, State.cause_frame]
        simp only []
        rw [State.closeChannel_account]
        rfl
      · rw [State.closeEntry_eq, shed]
        exact ⟨_, rfl, s.closedOut_engine e r⟩
    · have shed := State.shed_of_rest granted live i last
      refine ⟨fun d apart => ?_, table_of ?_, fun _ => ⟨⟨_, ?_, s.ridersLevel_isHighest _⟩, ?_, ?_⟩, fun none => absurd none last⟩
      · rw [State.closeEntry_channels, shed]
        exact put_other _ _ apart
      · rw [shed]
        rfl
      · rw [State.closeEntry_channels, shed]
        exact put_same ..
      · rw [State.closeEntry_eq, shed]
        exact s.closedOut_engine e r
      · rw [State.closeEntry_account, shed]
        rfl
  all_goals
    have port := s.closeEntry_port i e r
    have link := s.closeEntry_link i e r
    have pushes {records : List OutcomeRecord} (h : s.PushesOnly (s.closedOut e r) records) :
        (s.closeEntry i e r).port.outcomes = s.port.outcomes ++ records.take (32 - s.port.outcomes.length) ∧
        (s.closeEntry i e r).port.events = if s.port.outcomes.length + records.length ≤ 32 then s.port.events
          else { s.port.events with ovf := true } := by
      rw [port, h]
      exact ⟨rfl, rfl⟩
    have written {records : List OutcomeRecord}
        (h : s.PushesOnly (s.closedOut e r) records ∧ ∀ p, (s.closedOut e r).link p = s.link p) :=
      And.intro (pushes h.1) fun p => (link p).trans (h.2 p)
  case unserved =>
    refine written (State.closedOut_of_unserved ?_)
    rw [isServed_iff]
    exact not_or.mpr unserved
  case served =>
    have served := (isServed_iff r).mpr served
    refine ⟨fun exit => written (State.closedOut_of_no_exit served exit), fun p exit =>
      ⟨fun down => written (State.closedOut_of_refusal served exit (handoffRefusal_of_down down)),
        fun up contained => written (State.closedOut_of_refusal served exit (handoffRefusal_of_contained up contained)),
        fun up free => ⟨fun full => written (State.closedOut_of_refusal served exit (handoffRefusal_of_full up free full)),
          fun out held => ?_⟩⟩⟩
    obtain ⟨pushed, others, queued⟩ := State.closedOut_of_sent served exit (handoffRefusal_of_room up free out held)
    exact ⟨pushes pushed, fun q apart => (link q).trans (others q apart), (link p).trans queued⟩

end Sys2Proof.Machine

end

section
/-! PROOFS. Timers, checks, receive links, intake, windows, channel events, corridor ports and the decisecond (O32, O33, O36 to O38, O43, O44, O50 to O54). -/

namespace Sys2Proof.Machine

/-! ## Events while RST is high -/

/-- An event's write while RST is high. -/
theorem next_whenReleased {s t : State} (released : s.held = false) {f : State → State} (h : f s = t) :
    (.next (s.whenReleased f) : Host.Outcome State Fault Refusal) = .next t :=
  congrArg Host.Outcome.next ((State.whenReleased_of_released released f).trans h)

/-! ## Flushes (R39) -/

theorem State.flushVisit_of_free {s : State} {i : EntryIx} {n : Nat} (flushing : s.port.command = .flushTable i n)
    (free : s.table[i] = none) : s.flushVisit = s.flushProgress i n := by
  unfold State.flushVisit
  simp only [flushing, free]

theorem State.flushVisit_of_live {s : State} {i : EntryIx} {n : Nat} {e : Entry}
    (flushing : s.port.command = .flushTable i n) (live : s.table[i] = some e) :
    s.flushVisit = (s.closeEntry i e .flushed).flushProgress i (n + 1) := by
  unfold State.flushVisit
  simp only [flushing, live]

theorem State.flushVisit_of_idle {s : State} (h : ∀ i n, s.port.command ≠ .flushTable i n) : s.flushVisit = s := by
  unfold State.flushVisit
  split
  · rename_i i n flushing
    exact absurd flushing (h i n)
  · rfl

/-- Settles O33: the acceptance, and a visit by the entry it finds. -/
theorem flushVisitsEveryEntry : Obligations.FlushVisitsEveryEntry :=
  ⟨fun _ serves => congrArg Host.Outcome.next (State.takeLong_of_serves serves _ _),
    fun _ _ _ released flushing => ⟨fun free => next_whenReleased released (State.flushVisit_of_free flushing free),
      fun _ live => next_whenReleased released (State.flushVisit_of_live flushing live)⟩,
    fun _ released idle => next_whenReleased released (State.flushVisit_of_idle idle)⟩

/-! ## Stale and expiry checks (R34, R35, R37) -/

theorem State.isStale_iff (s : State) (e : Entry) :
    s.isStale e = true ↔ e.confirmed = true ∧ (s.policy.tStale : Int) ≤ timeDiff s.time e.lastUpdate := by
  simp only [State.isStale, Bool.and_eq_true, decide_eq_true_eq]

theorem State.isExpired_iff (s : State) (e : Entry) :
    s.isExpired e = true ↔ e.confirmed = false ∧ 0 < timeDiff s.time e.windowL := by
  simp only [State.isExpired, isLater, Bool.and_eq_true, Bool.not_eq_true', decide_eq_true_eq]

/-- The state with one flag of the checks that wait written (R37; assumption 27). -/
def State.markStale (s : State) (i : EntryIx) (b : Bool) : State :=
  { s with intake := { s.intake with staleDue := put s.intake.staleDue i b } }

def State.markExpiry (s : State) (i : EntryIx) (b : Bool) : State :=
  { s with intake := { s.intake with expiryDue := put s.intake.expiryDue i b } }

theorem State.markStale_writes (s : State) (i : EntryIx) (b : Bool) :
    s.markStale i b = { s with intake := { s.intake with staleDue := (s.markStale i b).intake.staleDue } } ∧
      (s.markStale i b).intake.staleDue[i] = b ∧
      ∀ j, j ≠ i → (s.markStale i b).intake.staleDue[j] = s.intake.staleDue[j] :=
  ⟨rfl, put_same .., fun _ => put_other _ _⟩

theorem State.markExpiry_writes (s : State) (i : EntryIx) (b : Bool) :
    s.markExpiry i b = { s with intake := { s.intake with expiryDue := (s.markExpiry i b).intake.expiryDue } } ∧
      (s.markExpiry i b).intake.expiryDue[i] = b ∧
      ∀ j, j ≠ i → (s.markExpiry i b).intake.expiryDue[j] = s.intake.expiryDue[j] :=
  ⟨rfl, put_same .., fun _ => put_other _ _⟩

theorem State.staleExpiry_of_due {s : State} {i : EntryIx} {e : Entry} (live : s.table[i] = some e)
    (due : s.isStale e = true) :
    s.staleExpiry i = s.markStale i true := by
  unfold State.staleExpiry
  simp only [live, due, if_true]
  rfl

theorem State.staleExpiry_of_not_due {s : State} {i : EntryIx} (h : ∀ e, s.table[i] = some e → ¬ s.isStale e = true) :
    s.staleExpiry i = s := by
  unfold State.staleExpiry
  cases live : s.table[i] with
  | none => rfl
  | some e => exact if_neg (h e live)

theorem State.unconfirmedExpiry_of_due {s : State} {i : EntryIx} {e : Entry} (live : s.table[i] = some e)
    (due : s.isExpired e = true) :
    s.unconfirmedExpiry i = s.markExpiry i true := by
  unfold State.unconfirmedExpiry
  simp only [live, due, if_true]
  rfl

theorem State.unconfirmedExpiry_of_not_due {s : State} {i : EntryIx}
    (h : ∀ e, s.table[i] = some e → ¬ s.isExpired e = true) : s.unconfirmedExpiry i = s := by
  unfold State.unconfirmedExpiry
  cases live : s.table[i] with
  | none => rfl
  | some e => exact if_neg (h e live)

theorem State.closeIf_of_meets {s : State} {i : EntryIx} {e : Entry} {test : Entry → Bool} (live : s.table[i] = some e)
    (meets : test e = true) (r : CloseReason) : s.closeIf i test r = s.closeEntry i e r := by
  unfold State.closeIf
  simp only [live, meets, if_true]

theorem State.closeIf_of_not_meets {s : State} {i : EntryIx} {test : Entry → Bool}
    (h : ∀ e, s.table[i] = some e → ¬ test e = true) (r : CloseReason) : s.closeIf i test r = s := by
  unfold State.closeIf
  cases live : s.table[i] with
  | none => rfl
  | some e => exact if_neg (h e live)

theorem allEntries_eq_finRange : allEntries = List.finRange 16 := by decide

/-- The check that intake makes next is the waiting one of the lowest index (R37). -/
theorem State.nextCheck_of_lowest {s : State} {i : EntryIx} (waits : s.intake.staleDue[i] = true ∨ s.intake.expiryDue[i] = true)
    (lowest : ∀ j, j < i → s.intake.staleDue[j] = false ∧ s.intake.expiryDue[j] = false) : s.nextCheck = some i := by
  rw [State.nextCheck, allEntries_eq_finRange, List.find?_eq_some_iff_getElem]
  refine ⟨Bool.or_eq_true _ _ ▸ waits, i.val, by simp, by simp, fun j hj => ?_⟩
  obtain ⟨stale, expiry⟩ := lowest ⟨j, by omega⟩ hj
  simp only [List.getElem_finRange, Fin.cast_mk, stale, expiry, Bool.or_self, Bool.not_false]

section Check

variable {s : State} {i : EntryIx} (idle : s.intake.item = none) (next : s.nextCheck = some i)

include idle next

theorem State.staleCheck_of_next (due : s.intake.staleDue[i] = true) : s.staleCheck =
    (s.markStale i false).closeIf i s.isStale .stale := by
  unfold State.staleCheck
  simp only [idle, next, due, if_true, State.markStale]

theorem State.expiryCheck_of_next (due : s.intake.expiryDue[i] = true) : s.expiryCheck =
    (s.markExpiry i false).closeIf i s.isExpired .unconfirmedExpired := by
  unfold State.expiryCheck
  simp only [idle, next, due, if_true, State.markExpiry]

end Check

theorem State.staleCheck_of_busy {s : State} (busy : s.intake.item ≠ none) : s.staleCheck = s := by
  unfold State.staleCheck
  split
  · rename_i idle _
    exact absurd idle busy
  · rfl

theorem State.expiryCheck_of_busy {s : State} (busy : s.intake.item ≠ none) : s.expiryCheck = s := by
  unfold State.expiryCheck
  split
  · rename_i idle _
    exact absurd idle busy
  · rfl

/-- Settles O43: the entries that fall due, and the check of the lowest index. -/
theorem staleAndExpiryChecks : Obligations.StaleAndExpiryChecks := by
  intro s released stale expired
  have stale_iff (e : Entry) : stale e ↔ s.isStale e = true := (s.isStale_iff e).symm
  have expired_iff (e : Entry) : expired e ↔ s.isExpired e = true := (s.isExpired_iff e).symm
  refine ⟨fun i => ⟨fun e live due => ⟨s.markStale i true, ?stale, s.markStale_writes i true⟩,
      fun h => next_whenReleased released (State.staleExpiry_of_not_due fun e live => mt (stale_iff e).mpr (h e live)),
      fun e live due => ⟨s.markExpiry i true, ?expired, s.markExpiry_writes i true⟩,
      fun h => next_whenReleased released (State.unconfirmedExpiry_of_not_due fun e live => mt (expired_iff e).mpr (h e live))⟩,
    fun i idle lowest => ⟨fun due => ⟨s.markStale i false, (s.markStale_writes i false).1, (s.markStale_writes i false).2.1,
        (s.markStale_writes i false).2.2, ?staleCheck⟩,
      fun due => ⟨s.markExpiry i false, (s.markExpiry_writes i false).1, (s.markExpiry_writes i false).2.1,
        (s.markExpiry_writes i false).2.2, ?expiryCheck⟩⟩,
    fun busy => ⟨next_whenReleased released (State.staleCheck_of_busy busy),
      next_whenReleased released (State.expiryCheck_of_busy busy)⟩⟩
  case stale => exact next_whenReleased released (State.staleExpiry_of_due live ((stale_iff e).mp due))
  case expired => exact next_whenReleased released (State.unconfirmedExpiry_of_due live ((expired_iff e).mp due))
  case staleCheck =>
    have check := State.staleCheck_of_next idle (State.nextCheck_of_lowest (.inl due) lowest) due
    exact ⟨fun e live meets => next_whenReleased released
        (check.trans (State.closeIf_of_meets (s := s.markStale i false) live ((stale_iff e).mp meets) .stale)),
      fun h => next_whenReleased released
        (check.trans (State.closeIf_of_not_meets (s := s.markStale i false) (fun e live => mt (stale_iff e).mpr (h e live)) .stale))⟩
  case expiryCheck =>
    have check := State.expiryCheck_of_next idle (State.nextCheck_of_lowest (.inr due) lowest) due
    exact ⟨fun e live meets => next_whenReleased released
        (check.trans (State.closeIf_of_meets (s := s.markExpiry i false) live ((expired_iff e).mp meets) .unconfirmedExpired)),
      fun h => next_whenReleased released
        (check.trans (State.closeIf_of_not_meets (s := s.markExpiry i false) (fun e live => mt (expired_iff e).mpr (h e live)) .unconfirmedExpired))⟩

/-! ## Check-out loops (R15, R16) -/

section Loop

variable {s : State} {a : Approach}

theorem State.loopActivation_of_armed {u : Time} (due : s.loops[a].changeAt = some u) (armed : s.loops[a].active = false) :
    s.loopActivation a = s.setLoop a (activated s.loops[a] u) := by
  unfold State.loopActivation
  simp only [due, armed, Bool.false_eq_true, if_false]

theorem State.loopActivation_of_active (active : s.loops[a].active = true) : s.loopActivation a = s := by
  unfold State.loopActivation
  simp only [active, if_true]
  split <;> rfl

theorem State.loopClear_of_active {u : Time} (due : s.loops[a].changeAt = some u) (active : s.loops[a].active = true) :
    s.loopClear a = s.setLoop a { s.loops[a] with active := false, changeAt := none } := by
  unfold State.loopClear
  simp only [due, active, if_true]

theorem State.loopClear_of_armed (armed : s.loops[a].active = false) : s.loopClear a = s := by
  unfold State.loopClear
  simp only [armed, Bool.false_eq_true, if_false]
  split <;> rfl

theorem State.loopActivation_of_steady (steady : s.loops[a].changeAt = none) : s.loopActivation a = s := by
  unfold State.loopActivation
  simp only [steady]

theorem State.loopClear_of_steady (steady : s.loops[a].changeAt = none) : s.loopClear a = s := by
  unfold State.loopClear
  simp only [steady]

theorem State.isStuck_iff (s : State) (l : LoopState) : s.isStuck l = true ↔
    l.active = true ∧ l.stuckReported = false ∧ (s.stuckLimit : Int) < timeDiff s.time l.activation := by
  simp only [State.isStuck, Bool.and_eq_true, Bool.not_eq_true', decide_eq_true_eq, and_assoc]

end Loop

/-- Settles O44: each loop event by the change and the level it finds. -/
theorem loopsRecogniseCrossings : Obligations.LoopsRecogniseCrossings := by
  intro s a released l stuck
  have stuck_iff : stuck ↔ s.isStuck s.loops[a] = true := (s.isStuck_iff _).symm
  refine ⟨fun u due armed => ⟨next_whenReleased released (State.loopClear_of_armed armed), _,
      next_whenReleased released (State.loopActivation_of_armed due armed), rfl, put_same .., fun b => put_other _ _⟩,
    fun u due active => ⟨next_whenReleased released (State.loopActivation_of_active active), _,
      next_whenReleased released (State.loopClear_of_active due active), rfl, put_same .., fun b => put_other _ _⟩,
    fun steady => ⟨next_whenReleased released (State.loopActivation_of_steady steady),
      next_whenReleased released (State.loopClear_of_steady steady)⟩,
    fun h => ⟨_, next_whenReleased released (if_pos (stuck_iff.mp h)), rfl, put_same .., fun b => put_other _ _⟩,
    fun h => next_whenReleased released (if_neg (mt stuck_iff.mpr h))⟩


/-! ## The fields of a request frame (R182) -/

theorem append_toNat {m n : Nat} (x : BitVec m) (y : BitVec n) : (x ++ y).toNat = 2 ^ n * x.toNat + y.toNat := by
  rw [BitVec.toNat_append, ← Nat.shiftLeft_add_eq_or_of_lt y.isLt, Nat.shiftLeft_eq, Nat.mul_comm]

theorem extract_toNat {n : Nat} (x : BitVec n) (start len : Nat) :
    (x.extractLsb' start len).toNat = x.toNat / 2 ^ start % 2 ^ len := by
  rw [BitVec.extractLsb'_toNat, Nat.shiftRight_eq_div_pow]

theorem getLsbD_eq_decide {n : Nat} (x : BitVec n) (i : Nat) : x.getLsbD i = decide (x.toNat / 2 ^ i % 2 = 1) := by
  rw [← BitVec.testBit_toNat, Nat.testBit_eq_decide_div_mod_eq]

theorem halfOfBytes_toNat (hi lo : Byte) : (halfOfBytes hi lo).toNat = 256 * hi.toNat + lo.toNat := append_toNat hi lo

theorem frameKindOfBits_eq (b : BitVec 2) : frameKindOfBits b = if b.toNat = 0 then .checkIn else if b.toNat = 1 then .update
    else if b.toNat = 2 then .checkOut else .cancel := by
  unfold frameKindOfBits
  rcases b.toNat with _ | _ | _ | n <;> rfl

/-- Each field of a request frame is a run of bits of its bytes, most significant first (R182). -/
theorem requestOfBody_reads (b1 b2 b3 b4 b5 b6 b7 b8 b9 b10 b11 : Byte) : ∃ g : RequestFrame,
    requestOfBody [b1, b2, b3, b4, b5, b6, b7, b8, b9, b10, b11] = some g ∧
      g.approach.val = b1.toNat / 64 ∧
      g.kind = (if b1.toNat / 16 % 4 = 0 then .checkIn else if b1.toNat / 16 % 4 = 1 then .update
        else if b1.toNat / 16 % 4 = 2 then .checkOut else .cancel) ∧
      g.seq.toNat = b1.toNat % 16 ∧ g.vehicle.toNat = 256 * b2.toNat + b3.toNat ∧
      g.route.toNat = (256 * b4.toNat + b5.toNat) / 64 ∧ g.stopFlag = decide (b5.toNat / 32 % 2 = 1) ∧
      g.lateness.toNat = (256 * b6.toNat + b7.toNat) / 8 ∧ g.distance.toNat = (256 * b8.toNat + b9.toNat) / 32 ∧
      g.speed.toNat = (256 * b9.toNat + b10.toNat) / 16 % 512 ∧
      g.dwell.toNat = (256 * b10.toNat + b11.toNat) / 2 % 2048 := by
  have tail : ((b8 ++ b9 : BitVec 16) ++ (b10 ++ b11 : BitVec 16) : BitVec 32).toNat =
      65536 * (256 * b8.toNat + b9.toNat) + (256 * b10.toNat + b11.toNat) := by
    rw [append_toNat (b8 ++ b9 : BitVec 16) (b10 ++ b11 : BitVec 16), append_toNat b8 b9, append_toNat b10 b11]
    rfl
  have := b1.isLt
  have := b5.isLt
  have := b7.isLt
  have := b9.isLt
  have := b10.isLt
  have := b11.isLt
  refine ⟨_, rfl, ?_, ?_, ?_, halfOfBytes_toNat .., ?_, ?_, ?_, ?_, ?_, ?_⟩
  · change (b1.extractLsb' 6 2).toNat = _
    rw [extract_toNat]
    omega
  · change frameKindOfBits (b1.extractLsb' 4 2) = _
    rw [frameKindOfBits_eq, extract_toNat]
    rfl
  · rw [extract_toNat, pow_zero, Nat.div_one]
    rfl
  · rw [extract_toNat, halfOfBytes_toNat]
    have := b4.isLt
    omega
  · rw [getLsbD_eq_decide, halfOfBytes_toNat]
    refine decide_eq_decide.mpr ?_
    omega
  · rw [extract_toNat, halfOfBytes_toNat]
    have := b6.isLt
    omega
  · rw [extract_toNat, tail]
    have := b8.isLt
    omega
  · rw [extract_toNat, tail]
    omega
  · rw [extract_toNat, tail]
    omega

theorem exists_eleven {st : List Byte} (h : st.length = 11) :
    ∃ b1 b2 b3 b4 b5 b6 b7 b8 b9 b10 b11, st = [b1, b2, b3, b4, b5, b6, b7, b8, b9, b10, b11] := by
  match st, h with
  | [b1, b2, b3, b4, b5, b6, b7, b8, b9, b10, b11], _ => exact ⟨_, _, _, _, _, _, _, _, _, _, _, rfl⟩

theorem byteSum_append (st : List Byte) (b : Byte) : byteSum (st ++ [b]) = st.foldl (· + ·) 0 + b := by
  rw [byteSum, List.foldl_append]
  rfl

theorem requestOfBytes_of_bad {st : List Byte} {b : Byte} (h : st.foldl (· + ·) 0 + b ≠ 0) :
    requestOfBytes (st ++ [b]) = none := by
  rw [requestOfBytes, byteSum_append, if_neg h]

theorem requestOfBytes_of_good {st : List Byte} {b : Byte} (whole : st.length = 11) (h : st.foldl (· + ·) 0 + b = 0) :
    requestOfBytes (st ++ [b]) = requestOfBody st := by
  rw [requestOfBytes, byteSum_append, if_pos h, ← whole, List.take_left]

/-! ## A receive link's characters (R1 to R5) -/

section Link

variable {s : State} {r : RxId}

theorem framingFault_eq (r : RxId) : framingFault r = if r = .rx0 then .rx0Framing else .rx1Framing := by cases r <;> rfl
theorem overrunFault_eq (r : RxId) : overrunFault r = if r = .rx0 then .rx0Overrun else .rx1Overrun := by cases r <;> rfl
theorem checkFault_eq (r : RxId) : checkFault r = if r = .rx0 then .rx0Check else .rx1Check := by cases r <;> rfl

theorem State.setRx_framingError (s : State) (r : RxId) (x : RxLink) :
    (s.setRx r x).framingError r = (s.setRx r { x with assembler := .hunt }).occur (framingFault r) (.rx r) none := by
  rw [State.framingError, State.setRx_rx_same, State.setRx_setRx]
  rfl

/-- A link that hears nothing (R1). -/
theorem State.receive_of_disabled (off : (s.rx r).enabled = false) :
    (∀ b stop, s.receiveCharacter r b stop = s) ∧ s.receiveBreak r = s ∧ s.receiveGap r = s ∧ s.undecidedHigh r = s := by
  simp only [State.receiveCharacter, State.receiveBreak, State.receiveGap, State.undecidedHigh, off, Bool.not_false,
    Bool.true_or, Bool.false_and, Bool.false_eq_true, if_true, if_false, implies_true, and_self]

/-- A link that holds a character undecided takes its break or the return of the line alone (R2). -/
theorem State.receive_of_undecided (on : (s.rx r).enabled = true) (undecided : (s.rx r).line = .undecided) :
    (∀ b stop, s.receiveCharacter r b stop = s) ∧ s.receiveGap r = s ∧
      s.receiveBreak r = s.setRx r { s.rx r with line := .inBreak, assembler := .hunt } ∧
      s.undecidedHigh r = (s.setRx r { s.rx r with line := .idle, assembler := .hunt }).occur (framingFault r) (.rx r) none := by
  rw [← s.setRx_framingError r { s.rx r with line := .idle }]
  simp only [State.receiveCharacter, State.receiveBreak, State.receiveGap, State.undecidedHigh, on, undecided, decide_true,
    Bool.or_true, Bool.and_self, Bool.true_and, ne_eq, not_true_eq_false, decide_false, Bool.false_and, Bool.false_eq_true,
    if_true, if_false, implies_true, true_and, and_true]
  rfl

section Decided

variable (on : (s.rx r).enabled = true) (decided : (s.rx r).line ≠ .undecided)

include on decided

theorem State.break_of_decided : s.receiveBreak r = s ∧ s.undecidedHigh r = s := by
  simp only [State.receiveBreak, State.undecidedHigh, on, decided, decide_false, Bool.and_false, Bool.false_eq_true, if_false,
    and_self]

theorem State.receiveCharacter_eq (b : Byte) (stop : Bool) : s.receiveCharacter r b stop = s.character r b stop := by
  unfold State.receiveCharacter
  simp only [on, decided, Bool.not_true, decide_false, Bool.or_self, Bool.false_eq_true, if_false]

theorem State.receiveGap_eq :
    s.receiveGap r = if (s.rx r).assembler.isCollecting = true then s.framingError r else s := by
  unfold State.receiveGap
  simp only [on, decided, ne_eq, not_false_eq_true, decide_true, Bool.and_self, Bool.true_and]

/-- A character with a low stop bit (R2). -/
theorem State.receive_low (b : Byte) : s.receiveCharacter r b false =
    if b = 0 then s.setRx r { s.rx r with line := .undecided }
    else (s.setRx r { s.rx r with line := .idle, assembler := .hunt }).occur (framingFault r) (.rx r) none := by
  rw [State.receiveCharacter_eq on decided, State.character]
  simp only [Bool.false_eq_true, if_false, State.setRx_framingError, State.setRx_rx_same, State.setRx_setRx, ite_not, ne_eq]

/-- A good character reaches the assembler of an idle line (R2, R3). -/
theorem State.receive_high (b : Byte) :
    s.receiveCharacter r b true = (s.setRx r { s.rx r with line := .idle }).goodCharacter r b := by
  rw [State.receiveCharacter_eq on decided]
  rfl

theorem State.receive_hunting (hunts : (s.rx r).assembler = .hunt) (b : Byte) : s.receiveCharacter r b true =
    s.setRx r (if b = startOfFrame then { s.rx r with line := .idle, assembler := .collect [] } else { s.rx r with line := .idle }) := by
  rw [State.receive_high on decided, State.goodCharacter]
  simp only [State.setRx_rx_same, State.setRx_setRx, hunts]
  split <;> rfl

variable {st : List Byte} (collects : (s.rx r).assembler = .collect st)

include collects

theorem State.receive_inside (short : st.length < 11) (b : Byte) : s.receiveCharacter r b true =
    s.setRx r { s.rx r with line := .idle, assembler := .collect (st ++ [b]) } := by
  have inside : (st ++ [b]).length < requestLength := by
    simp only [List.length_append, List.length_singleton, requestLength]
    omega
  rw [State.receive_high on decided, State.goodCharacter]
  simp only [State.setRx_rx_same, State.setRx_setRx, collects, inside, if_true]

/-- The last character of a frame has it judged, the assembler hunting again (R3, R4). -/
theorem State.receive_last (whole : st.length = 11) (b : Byte) : s.receiveCharacter r b true =
    match requestOfBytes (st ++ [b]) with
    | some g => (s.setRx r { s.rx r with line := .idle, assembler := .hunt }).offerFrame r g
    | none => (s.setRx r { s.rx r with line := .idle, assembler := .hunt }).occur (checkFault r) (.rx r) none := by
  have full : ¬ (st ++ [b]).length < requestLength := by
    simp only [List.length_append, List.length_singleton, requestLength]
    omega
  rw [State.receive_high on decided, State.goodCharacter]
  simp only [State.setRx_rx_same, collects, full, if_false, State.judgeFrame, State.setRx_setRx]
  rfl

end Decided

theorem State.offerFrame_of_full {old : RequestFrame} (held : (s.rx r).holding = some old) (g : RequestFrame) :
    s.offerFrame r g = s.occur (overrunFault r) (.rx r) none := by
  unfold State.offerFrame
  rw [held]

theorem State.offerFrame_of_empty (empty : (s.rx r).holding = none) (g : RequestFrame) :
    s.offerFrame r g = s.setRx r { s.rx r with holding := some g } := by
  unfold State.offerFrame
  rw [empty]

end Link

/-- Settles O36: a link by its enable, its line and its assembler. -/
theorem receiveLinksAssembleFrames : Obligations.ReceiveLinksAssembleFrames := by
  intro s r released x char framing overrun check
  have framing_eq : framing = framingFault r := (framingFault_eq r).symm
  have overrun_eq : overrun = overrunFault r := (overrunFault_eq r).symm
  have check_eq : check = checkFault r := (checkFault_eq r).symm
  rw [framing_eq, overrun_eq, check_eq]
  refine ⟨fun off => ?disabled, fun on undecided => ?undecided, fun on decided => ?decided⟩
  case disabled =>
    obtain ⟨characters, breaks, gaps, highs⟩ := State.receive_of_disabled off
    exact ⟨fun b stop => next_whenReleased released (characters b stop), next_whenReleased released breaks,
      next_whenReleased released gaps, next_whenReleased released highs⟩
  case undecided =>
    obtain ⟨characters, gaps, breaks, highs⟩ := State.receive_of_undecided on undecided
    exact ⟨fun b stop => next_whenReleased released (characters b stop), next_whenReleased released gaps,
      next_whenReleased released breaks, next_whenReleased released highs⟩
  case decided =>
    obtain ⟨breaks, highs⟩ := State.break_of_decided on decided
    have gap := State.receiveGap_eq on decided
    refine ⟨next_whenReleased released breaks, next_whenReleased released highs, fun hunts => ⟨?_, ?_, fun b other => ?_⟩,
      fun b other => ?_, ?_, fun st collects => ⟨?_, fun b short => ?_, fun b whole bad => ?_, fun b whole good old held => ?_,
        fun b b1 b2 b3 b4 b5 b6 b7 b8 b9 b10 b11 bytes good empty => ?_⟩⟩
    · exact next_whenReleased released (gap.trans (if_neg (by rw [hunts]; decide)))
    · exact next_whenReleased released ((State.receive_hunting on decided hunts _).trans (congrArg (s.setRx r) (if_pos rfl)))
    · exact next_whenReleased released ((State.receive_hunting on decided hunts b).trans (congrArg (s.setRx r) (if_neg other)))
    · exact next_whenReleased released ((State.receive_low on decided b).trans (if_neg other))
    · exact next_whenReleased released ((State.receive_low on decided 0).trans (if_pos rfl))
    · exact next_whenReleased released (gap.trans (if_pos (by rw [collects]; rfl)))
    · exact next_whenReleased released (State.receive_inside on decided collects short b)
    · refine next_whenReleased released ((State.receive_last on decided collects whole b).trans ?_)
      rw [requestOfBytes_of_bad bad]
    · refine next_whenReleased released ((State.receive_last on decided collects whole b).trans ?_)
      obtain ⟨b1, b2, b3, b4, b5, b6, b7, b8, b9, b10, b11, rfl⟩ := exists_eleven whole
      obtain ⟨g, reads, _⟩ := requestOfBody_reads b1 b2 b3 b4 b5 b6 b7 b8 b9 b10 b11
      rw [requestOfBytes_of_good whole good, reads]
      refine State.offerFrame_of_full (old := old) ?_ g
      rw [State.setRx_rx_same, ← held]
    · subst bytes
      obtain ⟨g, reads, fields⟩ := requestOfBody_reads b1 b2 b3 b4 b5 b6 b7 b8 b9 b10 b11
      refine ⟨g, next_whenReleased released ((State.receive_last on decided collects rfl b).trans ?_), fields⟩
      rw [requestOfBytes_of_good rfl good, reads]
      refine (State.offerFrame_of_empty ?_ g).trans ?_
      · rw [State.setRx_rx_same, ← empty]
      · rw [State.setRx_rx_same, State.setRx_setRx]


/-! ## Intake's take (R8, R37) -/

theorem State.ready_iff (s : State) (q : Source) : s.ready q = true ↔
    (∃ r, q = .rx r ∧ (s.rx r).holding ≠ none) ∨ (∃ p, q = .link p ∧ (s.link p).received ≠ []) ∨
      q = .loop ∧ ∃ a : Approach, s.loops[a].pending = true := by
  have all (a : Approach) : a ∈ allApproaches := (by decide : ∀ a : Approach, a ∈ allApproaches) a
  cases q with
  | rx r => simp [State.ready, Option.isSome_iff_ne_none]
  | link p => simp [State.ready]
  | loop =>
    simp only [State.ready, List.any_eq_true, reduceCtorEq, false_and, exists_false, false_or, true_and]
    exact ⟨fun ⟨a, _, h⟩ => ⟨a, h⟩, fun ⟨a, h⟩ => ⟨a, all a, h⟩⟩

theorem State.nextCheck_isSome_iff (s : State) : s.nextCheck.isSome = true ↔
    ∃ i : EntryIx, s.intake.staleDue[i] = true ∨ s.intake.expiryDue[i] = true := by
  simp only [State.nextCheck, List.find?_isSome, Bool.or_eq_true, allEntries_eq_finRange, List.mem_finRange, true_and]

section Take

variable {s : State}

theorem State.intakeTake_of_barred (h : s.intake.item ≠ none ∨ s.nextCheck.isSome = true ∨ ∀ q, ¬ s.ready q = true) :
    s.intakeTake = s := by
  unfold State.intakeTake
  rcases h with busy | waits | none
  · rw [if_pos]
    rw [Option.isSome_iff_ne_none.mpr busy, Bool.true_or]
  · rw [if_pos]
    rw [waits, Bool.or_true]
  · have nothing : (sourcesAfter s.intake.pointer).find? s.ready = Option.none := List.find?_eq_none.mpr fun q _ => none q
    rw [nothing]
    exact ite_self s

theorem State.intakeTake_of_first {pre post : List Source} {src : Source} (idle : s.intake.item = none)
    (unchecked : ¬ s.nextCheck.isSome = true) (ring : sourcesAfter s.intake.pointer = pre ++ src :: post)
    (ready : s.ready src = true) (unready : ∀ q ∈ pre, ¬ s.ready q = true) : s.intakeTake = s.takeFrom src := by
  have first : (sourcesAfter s.intake.pointer).find? s.ready = some src :=
    List.find?_eq_some_iff_append.mpr ⟨ready, pre, post, ring, fun q hq => by simpa using unready q hq⟩
  unfold State.intakeTake
  rw [first, idle, Bool.not_eq_true _ |>.mp unchecked]
  rfl

theorem State.takeFrom_of_frame {r : RxId} {g : RequestFrame} (held : (s.rx r).holding = some g) :
    s.takeFrom (.rx r) = s.takeFrame r g := by
  unfold State.takeFrom
  simp only [held]

theorem State.takeFrom_of_message {p : PortId} {m : HandoffMsg} {sender : Byte} {more : List (HandoffMsg × Byte)}
    (queued : (s.link p).received = (m, sender) :: more) : s.takeFrom (.link p) =
      (s.setLink p { s.link p with received := more }).busyWith (.link p) (.handoff p m sender false) := by
  unfold State.takeFrom
  simp only [queued]

theorem State.takeFrom_of_loop {a : Approach} (pending : s.loops[a].pending = true)
    (lowest : ∀ b, b < a → s.loops[b].pending = false) : s.takeFrom .loop = s.takeLoop a := by
  have inOrder : allApproaches = List.finRange 4 := by decide
  have first : (allApproaches.find? fun a => s.loops[a].pending) = some a := by
    rw [inOrder, List.find?_eq_some_iff_getElem]
    refine ⟨pending, a.val, by simp, by simp, fun j hj => ?_⟩
    have := lowest ⟨j, by omega⟩ hj
    simp only [List.getElem_finRange, Fin.cast_mk, this, Bool.not_false]
  unfold State.takeFrom
  simp only [first]

end Take

/-- Settles O37: the ring, and the item of each source. -/
theorem intakeTakesInRingOrder : Obligations.IntakeTakesInRingOrder := by
  refine ⟨fun p => ?ring, fun s released => ?take⟩
  case ring => rcases p with (_ | _) | (_ | _) | _ <;> rfl
  case take =>
    intro isReady waiting
    have ready_iff (q : Source) : isReady q ↔ s.ready q = true := by
      rw [s.ready_iff]
      rcases q with r | p | _ <;> simp [isReady]
    have waiting_iff : waiting ↔ s.nextCheck.isSome = true := s.nextCheck_isSome_iff.symm
    refine ⟨fun barred => ?barred, fun pre src post idle unchecked ring unready => ?taken⟩
    case barred =>
      refine next_whenReleased released (State.intakeTake_of_barred ?_)
      simpa only [ready_iff, waiting_iff] using barred
    case taken =>
      have takes (ready : s.ready src = true) {t : State} (h : s.takeFrom src = t) : exec .intakeTake s = .next t :=
        next_whenReleased released ((State.intakeTake_of_first idle (mt waiting_iff.mpr unchecked) ring ready
          fun q hq => mt (ready_iff q).mpr (unready q hq)).trans h)
      refine ⟨fun r g from_ held => ?_, fun p m sender more from_ queued => ?_, fun a from_ pending lowest => ?_⟩
      all_goals subst from_
      · refine ⟨reduceFrame g, takes ?_ ((State.takeFrom_of_frame held).trans (by cases r <;> rfl)), rfl⟩
        exact (s.ready_iff _).mpr (.inl ⟨r, rfl, by rw [held]; exact Option.some_ne_none g⟩)
      · refine takes ?_ ((State.takeFrom_of_message queued).trans (by cases p <;> rfl))
        exact (s.ready_iff _).mpr (.inr (.inl ⟨p, rfl, by rw [queued]; exact List.cons_ne_nil _ _⟩))
      · refine ⟨s.takeLoop a, takes ((s.ready_iff _).mpr (.inr (.inr ⟨rfl, a, pending⟩))) (State.takeFrom_of_loop pending lowest), ?_⟩
        exact ⟨rfl, put_same .., fun b apart => put_other _ _ apart⟩

/-! ## Windows, levels and routes (R12, R14, R65, R66) -/

theorem levelOf_eq_countP (ts : Vector Int 7) (x : Int) : levelOf ts x = ts.toList.countP fun t => decide (t ≤ x) :=
  List.countP_eq_length_filter.symm

theorem ceilDiv_spec (a : Nat) {b : Nat} (h : 0 < b) : a ≤ ceilDiv a b * b ∧ ceilDiv a b * b < a + b := by
  have split := Nat.div_add_mod (a + b - 1) b
  have rest := Nat.mod_lt (a + b - 1) h
  rw [ceilDiv, Nat.mul_comm]
  omega

theorem levelOf_le (ts : Vector Int 7) (x : Int) : levelOf ts x ≤ 7 := by
  rw [levelOf_eq_countP]
  exact List.countP_le_length.trans_eq ts.length_toList

theorem mem_toList_iff {α : Type} {n : Nat} (v : Vector α n) (x : α) : x ∈ v.toList ↔ ∃ i : Fin n, v[i] = x := by
  rw [Vector.mem_toList_iff, Vector.mem_iff_getElem]
  exact ⟨fun ⟨i, hi, h⟩ => ⟨⟨i, hi⟩, h⟩, fun ⟨i, h⟩ => ⟨i.val, i.isLt, h⟩⟩

/-- A lateness between two thresholds of a rising list has the level of the lower one (R14). -/
theorem levelOf_of_between {ts : Vector Int 7} {x : Int} {k : Fin 7} (rising : ∀ i j : Fin 7, i ≤ j → ts[i] ≤ ts[j])
    (reached : ts[k] ≤ x) (beyond : ∀ j : Fin 7, k < j → x < ts[j]) : levelOf ts x = k.val + 1 := by
  have split : ts.toList = ts.toList.take (k.val + 1) ++ ts.toList.drop (k.val + 1) := (List.take_append_drop ..).symm
  have low : (ts.toList.take (k.val + 1)).countP (fun t => decide (t ≤ x)) = (ts.toList.take (k.val + 1)).length := by
    refine List.countP_eq_length.mpr fun t mem => decide_eq_true ?_
    obtain ⟨i, hi, h⟩ := List.mem_take_iff_getElem.mp mem
    have hi' : i < 7 := by
      have := ts.length_toList
      omega
    have below := rising ⟨i, hi'⟩ k (Fin.le_def.mpr (by simp only []; omega))
    exact (h ▸ below).trans reached
  have high : (ts.toList.drop (k.val + 1)).countP (fun t => decide (t ≤ x)) = 0 := by
    refine List.countP_eq_zero.mpr fun t mem => ?_
    obtain ⟨i, hi, h⟩ := List.mem_drop_iff_getElem.mp mem
    have hi' : k.val + 1 + i < 7 := by
      have := ts.length_toList
      omega
    have above := beyond ⟨k.val + 1 + i, hi'⟩ (Fin.lt_def.mpr (by simp only []; omega))
    rw [decide_eq_true_iff, ← h]
    exact Int.not_le.mpr above
  rw [levelOf_eq_countP, split, List.countP_append, low, high, List.length_take, ts.length_toList]
  omega

section Lookup

variable {t : RouteTable} {route : Route} {a : Approach}

theorem lookupRoute_of_first {j : Fin 32} (on : t.entries[j].enabled = true) (same : t.entries[j].route = route)
    (first : ∀ k, k < j → t.entries[k].enabled = true → t.entries[k].route ≠ route) : lookupRoute t route a =
      if t.entries[j].mask.getLsbD a.val then .ok t.entries[j].cap else .error .approach := by
  have found : (t.entries.toList.find? fun e => e.enabled && decide (e.route = route)) = some t.entries[j] := by
    rw [List.find?_eq_some_iff_getElem]
    refine ⟨by rw [on, decide_eq_true same]; rfl, j.val, by simp, by simp, fun k hk => ?_⟩
    have differs := first ⟨k, by omega⟩ hk
    rw [Bool.not_eq_true', Bool.and_eq_false_imp]
    exact fun enabled => decide_eq_false (differs enabled)
  unfold lookupRoute
  rw [found]

theorem lookupRoute_of_missing (missing : ∀ k : Fin 32, t.entries[k].enabled = true → t.entries[k].route ≠ route) :
    lookupRoute t route a = if t.mode = .openMode then .ok 1 else .error .route := by
  have nothing : (t.entries.toList.find? fun e => e.enabled && decide (e.route = route)) = none := by
    refine List.find?_eq_none.mpr fun e mem => ?_
    obtain ⟨k, rfl⟩ := (mem_toList_iff t.entries e).mp mem
    rw [Bool.and_eq_true, decide_eq_true_iff]
    exact fun ⟨enabled, same⟩ => missing k enabled same
  unfold lookupRoute
  rw [nothing]
  cases t.mode <;> rfl

end Lookup

/-- Settles O38: travel times as quotients, levels as counts of thresholds, and the route found first. -/
theorem windowsAndLevels : Obligations.WindowsAndLevels := by
  refine ⟨fun r cfg t floor => ?windows, fun n tol t => ?handoff, fun ts x => ⟨levelOf_le ts x, fun all => ?_, fun none => ?_,
    fun k => levelOf_of_between⟩, fun t route a => ⟨fun j on same first => ⟨fun permits => ?_, fun bars => ?_⟩,
      fun missing open_ => ?_, fun missing strict => ?_⟩⟩
  case windows =>
    intro w slow fast
    have slow_pos : 0 < slow := by omega
    have fast_pos : 0 < fast := by omega
    refine ⟨ceilDiv (100 * r.distance) slow, 100 * r.distance / fast, rfl, rfl, ceilDiv_spec _ slow_pos,
      Nat.div_mul_le_self .., ?_⟩
    exact Nat.lt_mul_of_div_lt (Nat.lt_succ_self _) fast_pos
  case handoff =>
    have early : ((n - tol : Nat) : Int) = if tol ≤ n then (n : Int) - tol else 0 := by
      split <;> omega
    rw [handoffWindow, early, Nat.cast_add]
  · rw [levelOf_eq_countP, List.countP_eq_length.mpr, ts.length_toList]
    intro t mem
    obtain ⟨i, rfl⟩ := (mem_toList_iff ts t).mp mem
    exact decide_eq_true (all i)
  · rw [levelOf_eq_countP, List.countP_eq_zero]
    intro t mem
    obtain ⟨i, rfl⟩ := (mem_toList_iff ts t).mp mem
    rw [decide_eq_true_iff]
    exact Int.not_le.mpr (none i)
  · exact (lookupRoute_of_first on same first).trans (if_pos permits)
  · exact (lookupRoute_of_first on same first).trans (if_neg (Bool.eq_false_iff.mp bars))
  · exact (lookupRoute_of_missing missing).trans (if_pos open_)
  · exact (lookupRoute_of_missing missing).trans (if_neg (by rw [strict]; decide))


/-! ## A channel's own events (R105, R107, R111) -/

theorem countedOut_iff (l : LiveChannel) : countedOut l = true ↔ l.run = .running ∧ ∃ rf, l.action = .extend 0 rf := by
  unfold countedOut
  rcases l.action with ⟨_ | n, rf⟩ | d <;> rcases l.run with _ | _ | p <;> simp

section Events

variable {s : State} {c : ChannelIx}

theorem State.startExtension_of_starts {l : LiveChannel} {rem : Nat} {rf : Time} (live : s.channels[c].live = some l)
    (armed : l.run = .armed) (extends_ : l.action = .extend rem rf) (reached : atOrAfter s.time rf = true) :
    s.startExtension c = s.setChannel c { s.channels[c] with live := some { l with run := .running } } := by
  have due : s.reached rf = true := reached
  unfold State.startExtension
  simp only [live, armed, extends_, due, if_true]

theorem State.startExtension_of_waits (h : ∀ l, s.channels[c].live = some l →
    ¬ (l.run = .armed ∧ ∃ rem rf, l.action = .extend rem rf ∧ atOrAfter s.time rf = true)) : s.startExtension c = s := by
  unfold State.startExtension
  split
  · rename_i l live
    split
    · rename_i rem rf extends_ armed
      exact if_neg fun reached => h l live ⟨armed, rem, rf, extends_, reached⟩
    · rfl
  · rfl

theorem State.completeExtension_of_counted {l : LiveChannel} (live : s.channels[c].live = some l)
    (counted : countedOut l = true) : s.completeExtension c = s.endChannel c .complete := by
  unfold State.completeExtension
  simp only [live, counted, if_true]

theorem State.completeExtension_of_waits (h : ∀ l, s.channels[c].live = some l → ¬ countedOut l = true) :
    s.completeExtension c = s := by
  unfold State.completeExtension
  cases live : s.channels[c].live with
  | none => rfl
  | some l => exact if_neg (h l live)

theorem State.missAdvance_of_late {l : LiveChannel} {d : Time} (live : s.channels[c].live = some l)
    (awake : l.run = .armed ∨ l.run = .running) (advances : l.action = .advance d) (reached : atOrAfter s.time d = true) :
    s.missAdvance c = (s.endChannel c .missed).occur .advMissed (s.firstRider l).1 (s.firstRider l).2 := by
  have due : s.reached d = true := reached
  unfold State.missAdvance
  rcases awake with awake | awake <;> simp only [live, advances, awake, due, if_true]

theorem State.missAdvance_of_waits (h : ∀ l, s.channels[c].live = some l → ¬ ((l.run = .armed ∨ l.run = .running) ∧
    ∃ d, l.action = .advance d ∧ atOrAfter s.time d = true)) : s.missAdvance c = s := by
  unfold State.missAdvance
  split
  · rename_i l live
    split
    · rfl
    · rename_i deadline advances awake
      refine if_neg fun reached => h l live ⟨?_, deadline, advances, reached⟩
      cases run : l.run with
      | armed => exact .inl rfl
      | running => exact .inr rfl
      | suspended p => exact absurd run (awake p)
    · rfl
  · rfl

theorem State.firstRider_of_entry {l : LiveChannel} {i : EntryIx} {riders : List EntryIx} {e : Entry}
    (first : l.riders = i :: riders) (live : s.table[i] = some e) :
    s.firstRider l = (.approach e.approach, some e.vehicle) := by
  unfold State.firstRider
  simp only [first, live]

end Events

/-! ## CANCEL_CHANNEL (R118) -/

theorem State.judgeCancel_of_bad {b : Byte} (h : 4 ≤ b.toNat) (s : State) : s.judgeCancel b = refuse s .badArg := by
  unfold State.judgeCancel
  rw [channelOfByte_of_ge h]

theorem State.judgeCancel_of_idle {s : State} {c : ChannelIx} (idle : s.channels[c].live = none) :
    s.judgeCancel (BitVec.ofNat 8 c.val) = refuse s .notFound := by
  unfold State.judgeCancel
  simp only [channelOfByte_ofNat, idle]

theorem State.judgeCancel_of_live {s : State} {c : ChannelIx} {l : LiveChannel} (live : s.channels[c].live = some l) :
    s.judgeCancel (BitVec.ofNat 8 c.val) = okWith (s.endChannel c .cancelled) (natBytes (refundAmount l .cancelled)) := by
  unfold State.judgeCancel
  simp only [channelOfByte_ofNat, live]

theorem refundAmount_cancelled {l : LiveChannel} {n : Nat} (extends_ : ∀ rem rf, l.action = .extend rem rf → n = rem)
    (advances : ∀ d, l.action = .advance d → n = 0) : refundAmount l .cancelled = n := by
  unfold refundAmount
  cases action : l.action with
  | advance d => exact (advances d action).symm
  | extend rem rf => exact (extends_ rem rf action).symm

/-- Settles O32: the judgement of the command, and each event by the channel it finds. -/
theorem channelEventsAndCancel : Obligations.ChannelEventsAndCancel := by
  intro s
  refine ⟨fun serves => ⟨fun b bad => ?_, fun c idle => ?_, fun c l live n extends_ advances => ?_⟩, fun released c => ?events⟩
  · exact congrArg Host.Outcome.next (State.take_refused serves _ (·.judgeCancel b) _ (State.judgeCancel_of_bad bad _))
  · exact congrArg Host.Outcome.next (State.take_refused serves _ (·.judgeCancel _) _ (State.judgeCancel_of_idle (s := s.endTransaction) idle))
  · have judged := State.judgeCancel_of_live (s := s.endTransaction) live
    rw [refundAmount_cancelled extends_ advances, natBytes_eq] at judged
    exact congrArg Host.Outcome.next (State.take_accepted serves _ (·.judgeCancel _) (·.endChannel c .cancelled)
      (fun t p => t.endChannel_withPort p c .cancelled) _ judged)
  case events =>
    intro starts completes misses
    refine ⟨fun l live ⟨armed, rem, rf, extends_, reached⟩ =>
        ⟨_, next_whenReleased released (State.startExtension_of_starts live armed extends_ reached), rfl, ?_⟩,
      fun h => next_whenReleased released (State.startExtension_of_waits h),
      fun l live counted => next_whenReleased released (State.completeExtension_of_counted live ((countedOut_iff l).mpr counted)),
      fun h => next_whenReleased released (State.completeExtension_of_waits fun l live => mt (countedOut_iff l).mp (h l live)),
      fun l i riders e live ⟨awake, d, advances, reached⟩ first entry => ?_,
      fun h => next_whenReleased released (State.missAdvance_of_waits h)⟩
    · exact (State.callActive_iff _ _).mpr ⟨c, { l with run := .running }, congrArg Channel.live (put_same ..), rfl, rfl⟩
    · have late := State.missAdvance_of_late live awake advances reached
      rw [State.firstRider_of_entry first entry] at late
      exact next_whenReleased released late


/-! ## A decisecond (spec/00_scope.md, Time) -/

theorem sampleInput_changeAt (x : PhaseInput) (level : Bool) (t : Time) : (sampleInput x level t).changeAt =
    if x.changeAt ≠ none then x.changeAt else if level = x.lastSample ∧ level ≠ x.recognised then some t else none := by
  unfold sampleInput
  cases x.changeAt <;> rfl

theorem sampleLoop_eq (l : LoopState) (active : Bool) (t : Time) : sampleLoop l active t = { l with
    lastSample := active
    changeAt := if l.changeAt ≠ none then l.changeAt
      else if active = l.lastSample ∧ active ≠ l.active then some t else none } := by
  unfold sampleLoop
  cases l.changeAt <;> rfl

/-- CHK is active when low (R15). -/
theorem not_asks_iff (chk last active : Bool) : (!chk) = last ∧ (!chk) ≠ active ↔ chk ≠ last ∧ chk = active := by
  cases chk <;> cases last <;> cases active <;> decide

theorem ovrActive_eq (edge : OvrEdge) (level : Bool) : ovrActive edge level = if edge = .rising then level else !level := by
  cases edge <;> rfl

theorem sampleOverride_of_waiting {o : OverrideMonitor} (h : o.changeAt ≠ none) (active : Bool) (filter : Nat) (t : Time) :
    sampleOverride o active filter t = o := by
  unfold sampleOverride
  split
  · rfl
  · rename_i steady
    exact absurd steady h

theorem sampleOverride_of_steady {o : OverrideMonitor} (h : o.changeAt = none) (active : Bool) (filter : Nat) (t : Time) :
    sampleOverride o active filter t = if active = o.recognised then { o with runCount := 0 }
      else { o with runCount := o.runCount + 1, changeAt := if filter ≤ o.runCount + 1 then some t else none } := by
  unfold sampleOverride
  rw [h]

theorem tickChannel_lastEnd (c : Channel) : (tickChannel c).lastEnd = c.lastEnd := by
  unfold tickChannel
  split
  · split <;> rfl
  · rfl

theorem tickChannel_of_idle {c : Channel} (h : c.live = none) : tickChannel c = c := by
  unfold tickChannel
  rw [h]

theorem tickChannel_of_running {c : Channel} {l : LiveChannel} {rem : Nat} {rf : Time} (live : c.live = some l)
    (running : l.run = .running) (extends_ : l.action = .extend rem rf) :
    (tickChannel c).live = some { l with action := .extend (rem - 1) rf } := by
  unfold tickChannel
  simp only [live, running, extends_]

theorem tickChannel_of_still {c : Channel} {l : LiveChannel} (live : c.live = some l)
    (still : l.run ≠ .running ∨ isExtend l = false) : tickChannel c = c := by
  unfold tickChannel
  simp only [live]
  split
  · rename_i rem rf extends_ running
    rcases still with waits | advances
    · exact absurd running waits
    · rw [isExtend, extends_] at advances
      cases advances
  · rfl

/-- Settles O54: each input by its sample. -/
theorem decisecondSamplesInputs : Obligations.DecisecondSamplesInputs := by
  intro s pg chk ovr released active
  refine ⟨s.tick pg chk ovr, next_whenReleased released rfl, rfl, fun i => ?input, fun a => ?loop, ?override, fun c => ?channel⟩
  case input =>
    have sampled : (s.tick pg chk ovr).inputs[i] = sampleInput s.inputs[i] (pg.getLsbD i.val) (s.time + 1) := tabulate_get _ i
    rw [sampled]
    exact ⟨rfl, rfl, sampleInput_changeAt ..⟩
  case loop =>
    have sampled : (s.tick pg chk ovr).loops[a] =
        sampleCheckOut s.loops[a] s.approaches[a] (chk.getLsbD a.val) (s.time + 1) := tabulate_get _ a
    rw [sampled, sampleCheckOut]
    refine ⟨fun unwatched => if_neg ?_, fun on uses => ?_⟩
    · rw [Bool.and_eq_true]
      exact fun ⟨on, uses⟩ => unwatched.elim (fun off => Bool.noConfusion (on.symm.trans off))
        fun unused => Bool.noConfusion (uses.symm.trans unused)
    · rw [on, uses, Bool.and_self, if_pos rfl, sampleLoop_eq]
      simp only [not_asks_iff]
  case override =>
    have sampled : (s.tick pg chk ovr).ovr = sampleOverride s.ovr active s.pins.filter (s.time + 1) :=
      congrArg (sampleOverride s.ovr · s.pins.filter (s.time + 1)) (ovrActive_eq ..)
    rw [sampled]
    exact ⟨fun waits => sampleOverride_of_waiting waits .., fun steady same => (sampleOverride_of_steady steady ..).trans (if_pos same),
      fun steady differs => (sampleOverride_of_steady steady ..).trans (if_neg differs)⟩
  case channel =>
    have ticked : (s.tick pg chk ovr).channels[c] = tickChannel s.channels[c] := tabulate_get _ c
    rw [ticked]
    refine ⟨tickChannel_lastEnd _, fun idle => ?_, fun l live => ⟨fun rem rf running extends_ =>
      tickChannel_of_running live running extends_, fun still => ?_⟩⟩
    · rw [tickChannel_of_idle idle, idle]
    · rw [tickChannel_of_still live still, live]

/-! ## Windows, silence and deadlines at a port (R139 to R141, R146) -/

theorem downFault_eq (p : PortId) : downFault p = if p = .linkA then .linkADown else .linkBDown := by cases p <;> rfl
theorem crcFault_eq (p : PortId) : crcFault p = if p = .linkA then .linkACrc else .linkBCrc := by cases p <;> rfl
theorem roleFaultKind_eq (p : PortId) : roleFaultKind p = if p = .linkA then .linkARole else .linkBRole := by cases p <;> rfl

section Waits

variable {s : State} {p : PortId}

theorem State.countMiss_eq (s : State) (p : PortId) (x : CorridorPort) : s.countMiss p (missed x) =
    if (x.state = .syncing ∨ x.state = .up) ∧ min (x.missCount + 1) x.settings.missLimit = x.settings.missLimit
    then (s.setLink p { x with missCount := min (x.missCount + 1) x.settings.missLimit, state := .down }).occur (downFault p)
      (.link p) none
    else s.setLink p { x with missCount := min (x.missCount + 1) x.settings.missLimit } := by
  refine if_congr ?_ rfl rfl
  rw [Bool.and_eq_true, decide_eq_true_iff]
  refine and_congr (isAlive_iff x.state) ?_
  simp only [missed]
  omega

theorem State.closeWindow_of_reached {w : Time} (window : (s.link p).windowClose = some w) (reached : atOrAfter s.time w = true) :
    s.closeWindow p = s.countMiss p (missed (windowClosed (s.link p) s.time)) := by
  have due : s.reached w = true := reached
  unfold State.closeWindow
  simp only [window, due, if_true]

theorem State.closeWindow_of_waits (h : ∀ w, (s.link p).windowClose = some w → atOrAfter s.time w = false) :
    s.closeWindow p = s := by
  unfold State.closeWindow
  simp only []
  split
  · rename_i w window
    exact if_neg (Bool.eq_false_iff.mp (h w window))
  · rfl

theorem State.silence_of_reached {w : Time} (timer : (s.link p).silenceExpiry = some w) (reached : atOrAfter s.time w = true)
    (alive : (s.link p).state = .syncing ∨ (s.link p).state = .up) :
    s.silence p = (s.setLink p { s.link p with silenceExpiry := none, state := .down }).occur (downFault p) (.link p) none := by
  have due : s.reached w = true := reached
  unfold State.silence
  simp only [timer, due, (isAlive_iff _).mpr alive, Bool.and_self, if_true]
  rfl

theorem State.silence_of_waits (h : ¬ ((s.link p).state = .syncing ∨ (s.link p).state = .up) ∨
    ∀ w, (s.link p).silenceExpiry = some w → atOrAfter s.time w = false) : s.silence p = s := by
  unfold State.silence
  simp only []
  split
  · rename_i w timer
    refine if_neg ?_
    rw [Bool.and_eq_true, isAlive_iff]
    rintro ⟨alive, reached⟩
    exact h.elim (fun dead => dead alive) fun early => Bool.noConfusion (reached.symm.trans (early w timer))
  · rfl

/-- The awaiting item of an id that one item bears. -/
theorem awaitingOf_of_mem {x : CorridorPort} {id : Byte} {i : AwaitItem} (mem : i ∈ x.awaiting) (same : i.id = id)
    (only : ∀ j ∈ x.awaiting, j.id = id → j = i) : awaitingOf x id = some i := by
  unfold awaitingOf
  cases found : x.awaiting.find? fun j => decide (j.id = id) with
  | none => exact absurd (decide_eq_true same) (List.find?_eq_none.mp found i mem)
  | some j => rw [only j (List.mem_of_find?_eq_some found) (of_decide_eq_true (List.find?_some found :))]

theorem awaitingOf_of_absent {x : CorridorPort} {id : Byte} (h : ∀ i ∈ x.awaiting, i.id ≠ id) : awaitingOf x id = none :=
  List.find?_eq_none.mpr fun i mem => mt of_decide_eq_true (h i mem)

theorem State.deadline_of_awaited {id : Byte} {i : AwaitItem} (awaited : awaitingOf (s.link p) id = some i) :
    s.deadline p id = if atOrAfter s.time i.deadline = true then s.endAwaiting p i .unconfirmed else s := by
  unfold State.deadline
  simp only [awaited]
  rfl

theorem State.deadline_of_absent {id : Byte} (absent : awaitingOf (s.link p) id = none) : s.deadline p id = s := by
  unfold State.deadline
  simp only [absent]

end Waits

/-- Settles O51: each timer of a port by whether its time is reached. -/
theorem windowsSilenceAndDeadlines : Obligations.WindowsSilenceAndDeadlines := by
  intro s p released x down alive
  have down_eq : down = downFault p := (downFault_eq p).symm
  rw [down_eq]
  refine ⟨fun w window reached => ?window, fun early => next_whenReleased released (State.closeWindow_of_waits early),
    fun w timer reached lives => next_whenReleased released (State.silence_of_reached timer reached lives),
    fun h => next_whenReleased released (State.silence_of_waits h), fun id i mem same only => ?item,
    fun id absent => next_whenReleased released (State.deadline_of_absent (awaitingOf_of_absent absent))⟩
  case window =>
    have closes := (State.closeWindow_of_reached window reached).trans (s.countMiss_eq p _)
    exact ⟨fun lost => next_whenReleased released (closes.trans (if_pos lost)),
      fun kept => next_whenReleased released (closes.trans (if_neg kept))⟩
  case item =>
    have ends := State.deadline_of_awaited (awaitingOf_of_mem mem same only)
    subst same
    exact ⟨fun reached => next_whenReleased released (ends.trans (if_pos reached)),
      fun early => next_whenReleased released (ends.trans (if_neg (Bool.eq_false_iff.mp early)))⟩


/-! ## Frames sent (R139, R141, R144) -/

theorem State.maySend_iff (s : State) (p : PortId) : s.maySend p = true ↔
    ((s.link p).state = .syncing ∨ (s.link p).state = .up ∨ (s.link p).state = .down) ∧ (s.link p).line = .listening ∧
      s.startUpEnd = none := by
  simp only [State.maySend, State.startingUp, Bool.and_eq_true, isActive_iff, decide_eq_true_eq, Bool.not_eq_true',
    Option.isSome_eq_false_iff, Option.isNone_iff_eq_none, and_assoc]

section Sending

variable {s : State} {p : PortId}

theorem State.beginPoll_of_due {d : Time} (role : (s.link p).settings.role = .poller) (window : (s.link p).windowClose = none)
    (due : (s.link p).pollDue = some d) (may : s.maySend p = true) (reached : atOrAfter s.time d = true) :
    s.beginPoll p = s.setLink p { s.link p with line := .frame (s.frameNow (s.link p) false), pollDue := none, pollStart := s.time } := by
  have expired : s.reached d = true := reached
  unfold State.beginPoll
  simp only [role, window, due, may, expired, Bool.and_self, if_true]

theorem State.beginPoll_of_barred (h : ¬ (s.maySend p = true ∧ (s.link p).settings.role = .poller ∧
    (s.link p).windowClose = none ∧ ∃ d, (s.link p).pollDue = some d ∧ atOrAfter s.time d = true)) : s.beginPoll p = s := by
  unfold State.beginPoll
  simp only []
  split
  · rename_i d role window due
    refine if_neg fun both => ?_
    obtain ⟨may, reached⟩ := Bool.and_eq_true _ _ |>.mp both
    exact h ⟨may, role, window, d, due, reached⟩
  · rfl

theorem State.beginReply_of_due (may : s.maySend p = true) (due : (s.link p).replyDue = true) : s.beginReply p =
    s.setLink p { s.link p with line := .frame (s.frameNow (s.link p) true), replyDue := false } := by
  unfold State.beginReply
  simp only [may, due, Bool.and_self, if_true]

theorem State.beginReply_of_barred (h : ¬ s.maySend p = true ∨ (s.link p).replyDue = false) : s.beginReply p = s := by
  refine if_neg fun both => ?_
  obtain ⟨due, may⟩ := Bool.and_eq_true _ _ |>.mp both
  exact h.elim (fun barred => barred may) fun idle => Bool.noConfusion (due.symm.trans idle)

/-! ## Waiting writes and breaks (R134, R150) -/

theorem State.pushOutcomes_link (s : State) (rs : List OutcomeRecord) (q : PortId) : (s.pushOutcomes rs).link q = s.link q := by
  rw [State.pushOutcomes_frame]
  cases q <;> rfl

theorem State.pushOutcomes_time (s : State) (rs : List OutcomeRecord) : (s.pushOutcomes rs).time = s.time := by
  rw [State.pushOutcomes_frame]

theorem withRoleWritten_breakWaiting (x : CorridorPort) (t : Time) : (withRoleWritten x t).breakWaiting = x.breakWaiting := by
  unfold withRoleWritten
  split <;> rfl

theorem State.writeSettings_breakWaiting (s : State) (p : PortId) (st : PortSettings) :
    ((s.writeSettings p st).link p).breakWaiting = (s.link p).breakWaiting := by
  rw [State.writeSettings_eq, State.pushOutcomes_link, State.setLink_link_same, withRoleWritten_breakWaiting]

theorem State.writes_breakWaiting (sts : List PortSettings) (s : State) (p : PortId) :
    ((sts.foldl (fun v st => v.writeSettings p st) s).link p).breakWaiting = (s.link p).breakWaiting := by
  induction sts generalizing s with
  | nil => rfl
  | cons st sts ih => rw [List.foldl_cons, ih, State.writeSettings_breakWaiting]

/-- The writes that waited for a port replaced, made one after another. -/
theorem State.setLink_writeDeferred (s : State) (p : PortId) (x : CorridorPort) : (s.setLink p x).writeDeferred p =
    x.deferredWrites.foldl (fun v st => v.writeSettings p st) (s.setLink p { x with deferredWrites := [] }) := by
  rw [State.writeDeferred, State.setLink_link_same, State.setLink_setLink]

theorem State.beginWaitingBreak_of_waiting (h : (s.link p).breakWaiting = true) :
    s.beginWaitingBreak p = s.setLink p { s.link p with line := .sendingBreak, breakWaiting := false } := if_pos h

theorem State.beginWaitingBreak_of_none (h : (s.link p).breakWaiting = false) : s.beginWaitingBreak p = s :=
  if_neg (Bool.eq_false_iff.mp h)

theorem State.endTransmission_of_frame {g : OutFrame} (sends : (s.link p).line = .frame g) : s.endTransmission p =
    ((s.setLink p (frameSent (s.link p) g s.time)).writeDeferred p).beginWaitingBreak p := by
  unfold State.endTransmission
  simp only [sends]

theorem State.endTransmission_of_none (h : ∀ g, (s.link p).line ≠ .frame g) : s.endTransmission p = s := by
  unfold State.endTransmission
  simp only []

/-- The port at the end of its frame, the message apart (R139, R144). -/
theorem frameSent_eq (x : CorridorPort) (g : OutFrame) (t : Time) : frameSent x g t = { x with
    line := .listening
    windowClose := if g.isReply then x.windowClose else some (timePlus t x.settings.replyWindow)
    outgoing := (messageSent x t g.msg).outgoing
    awaiting := (messageSent x t g.msg).awaiting } := by
  unfold frameSent
  rcases g.msg with _ | ⟨m, a, level, tmo⟩ | ⟨id, r⟩ <;> rcases g.isReply <;> rfl

end Sending

/-- Settles O50: the frames that begin, and the end of one with its message, the writes that waited and the break. -/
theorem portsSendFrames : Obligations.PortsSendFrames := by
  intro s p released x frame free pollable
  have may_iff : free ↔ s.maySend p = true := (s.maySend_iff p).symm
  refine ⟨fun ⟨may, role, window, d, due, reached⟩ => next_whenReleased released
      (State.beginPoll_of_due role window due (may_iff.mp may) reached),
    fun barred => next_whenReleased released (State.beginPoll_of_barred fun ⟨may, rest⟩ => barred ⟨may_iff.mpr may, rest⟩),
    fun may due => next_whenReleased released (State.beginReply_of_due (may_iff.mp may) due),
    fun barred => next_whenReleased released (State.beginReply_of_barred (barred.imp_left (mt may_iff.mpr))),
    fun g sends => ?ends, fun h => next_whenReleased released (State.endTransmission_of_none h)⟩
  case ends =>
    intro sent ends
    have of_sent {y : CorridorPort} (h : { frameSent x g s.time with deferredWrites := [] } = y) : ends y := by
      have run := State.endTransmission_of_frame sends
      rw [State.setLink_writeDeferred, h, show (frameSent (s.link p) g s.time).deferredWrites = x.deferredWrites by
        rw [frameSent_eq]] at run
      have waiting : ((x.deferredWrites.foldl (fun v st => v.writeSettings p st) (s.setLink p y)).link p).breakWaiting =
          x.breakWaiting := by
        rw [State.writes_breakWaiting, State.setLink_link_same, ← h, frameSent_eq]
      exact ⟨fun none => next_whenReleased released (run.trans (State.beginWaitingBreak_of_none (waiting.trans none))),
        fun waits => next_whenReleased released (run.trans (State.beginWaitingBreak_of_waiting (waiting.trans waits)))⟩
    refine ⟨fun msg => of_sent ?_, fun id r msg => of_sent ?_, fun m a level tmo msg => of_sent ?_⟩ <;>
      rw [frameSent_eq, msg] <;> rfl

/-! ## Breaks (R150, R151) -/

theorem State.setLink_pushOutcome (s : State) (p : PortId) (x : CorridorPort) (r : OutcomeRecord) :
    (s.setLink p x).pushOutcome r = (s.pushOutcome r).setLink p x := by
  have same : (s.setLink p x).port = s.port := s.setLink_port p x
  rw [State.pushOutcome, State.pushOutcome, same]
  split <;> cases p <;> rfl

theorem State.setLink_pushOutcomes (s : State) (p : PortId) (x : CorridorPort) (rs : List OutcomeRecord) :
    (s.setLink p x).pushOutcomes rs = (s.pushOutcomes rs).setLink p x := by
  induction rs generalizing s with
  | nil => rfl
  | cons r rs ih =>
    have step (u : State) : u.pushOutcomes (r :: rs) = (u.pushOutcome r).pushOutcomes rs := rfl
    rw [step, step, State.setLink_pushOutcome, ih]

theorem State.pushOutcomes_append (s : State) (xs ys : List OutcomeRecord) :
    (s.pushOutcomes xs).pushOutcomes ys = s.pushOutcomes (xs ++ ys) := (List.foldl_append ..).symm

/-- The state whose item in progress knows of a break at a port (R149). -/
def State.withBreakMarked (s : State) (p : PortId) : State :=
  { s with intake := { s.intake with item := s.intake.item.map (markBroken p) } }

/-- The records of the break and of its role write, where there is one (R136, R151). -/
theorem State.breakReset_eq (s : State) (p : PortId) : s.breakReset p =
    if (s.link p).state = .roleFault then
      ((s.withBreakMarked p).setLink p (brokenPort (s.link p))).pushOutcomes (breakRecords (s.link p) s.time)
    else ((s.withBreakMarked p).setLink p (withRoleWritten (brokenPort (s.link p)) s.time)).pushOutcomes
      (breakRecords (s.link p) s.time ++ roleWriteRecords (brokenPort (s.link p)) s.time) := by
  refine if_congr Iff.rfl rfl ?_
  have time (y : CorridorPort) (rs : List OutcomeRecord) : (((s.withBreakMarked p).setLink p y).pushOutcomes rs).time = s.time := by
    rw [State.pushOutcomes_time, State.setLink_time]
    rfl
  change State.roleWrite (((s.withBreakMarked p).setLink p (brokenPort (s.link p))).pushOutcomes
    (breakRecords (s.link p) s.time)) p = _
  rw [State.roleWrite, time, State.pushOutcomes_link, State.setLink_link_same, ← State.setLink_pushOutcomes,
    State.setLink_setLink, State.pushOutcomes_append]

/-- The port as a break's reset leaves it: the queues empty, and the role written but in ROLE_FAULT (R151). -/
def portAfterBreak (x : CorridorPort) (t : Time) : CorridorPort :=
  if x.state = .roleFault then brokenPort x else withRoleWritten (brokenPort x) t

theorem State.breakReset_of_role {s : State} {p : PortId}
    (role : (s.link p).state = .roleFault ∨ (s.link p).settings.role ≠ .off) : s.breakReset p =
    ((s.withBreakMarked p).setLink p (portAfterBreak (s.link p) s.time)).pushOutcomes (breakRecords (s.link p) s.time) := by
  rw [State.breakReset_eq, portAfterBreak]
  by_cases fault : (s.link p).state = .roleFault
  · rw [if_pos fault, if_pos fault]
  · have none : roleWriteRecords (brokenPort (s.link p)) s.time = [] := by
      unfold roleWriteRecords
      split
      · rename_i off
        exact absurd off (role.resolve_left fault)
      · rfl
      · rfl
    rw [if_neg fault, if_neg fault, none, List.append_nil]

theorem linkOfByte_port (p : PortId) : linkOfByte (if p = .linkA then 2 else 3) = some (.port p) := by cases p <;> rfl

theorem linkOfByte_ne_port {b : Byte} (h : b.toNat < 2 ∨ 4 ≤ b.toNat) (p : PortId) : linkOfByte b ≠ some (.port p) := by
  unfold linkOfByte
  rcases eq : b.toNat with _ | _ | _ | _ | n <;> rw [eq] at h <;> cases p <;> simp_all

theorem State.link_endTransaction (s : State) (p : PortId) : s.endTransaction.link p = s.link p := by cases p <;> rfl

theorem refusesBreak_iff (x : CorridorPort) :
    refusesBreak x = true ↔ x.settings.role = .off ∨ x.state = .roleFault ∨ x.line = .sendingBreak := by
  simp only [refusesBreak, Bool.or_eq_true, decide_eq_true_eq, or_assoc]

section LinkBreak

variable {s : State} {p : PortId}

theorem State.judgeLinkBreak_of_other {b : Byte} (h : ∀ p, linkOfByte b ≠ some (.port p)) :
    s.judgeLinkBreak b = refuse s .badArg := by
  unfold State.judgeLinkBreak
  split
  · rename_i p named
    exact absurd named (h p)
  · rfl

theorem State.judgeLinkBreak_port (s : State) (p : PortId) : s.judgeLinkBreak (if p = .linkA then 2 else 3) =
    if refusesBreak (s.link p) = true then refuse s .badState else okWith (s.startBreak p) [] := by
  unfold State.judgeLinkBreak
  rw [linkOfByte_port]

theorem State.startBreak_of_frame {g : OutFrame} (sends : (s.link p).line = .frame g) :
    s.startBreak p = s.setLink p { s.link p with breakWaiting := true } := by
  unfold State.startBreak
  simp only [sends]

theorem State.startBreak_of_listening (listens : (s.link p).line = .listening) :
    s.startBreak p = s.setLink p { s.link p with line := .sendingBreak } := by
  unfold State.startBreak
  simp only [listens]

theorem State.startBreak_endTransaction (s : State) (p : PortId) :
    s.endTransaction.startBreak p = (s.startBreak p).endTransaction := by
  unfold State.startBreak
  rw [State.link_endTransaction]
  simp only []
  split <;> cases p <;> rfl

end LinkBreak

theorem State.watches_iff (s : State) (p : PortId) :
    s.watches p = true ↔ (s.link p).state ≠ .off ∧ (s.link p).line = .listening := by
  simp only [State.watches, Bool.and_eq_true, decide_eq_true_eq]

theorem State.receiveBreakAt_of_watching {s : State} {p : PortId} (on : (s.link p).state ≠ .off)
    (listens : (s.link p).line = .listening) : s.receiveBreakAt p = s.breakReset p :=
  if_pos ((s.watches_iff p).mpr ⟨on, listens⟩)

theorem State.receiveBreakAt_of_deaf {s : State} {p : PortId} (h : (s.link p).state = .off ∨ (s.link p).line ≠ .listening) :
    s.receiveBreakAt p = s := by
  refine if_neg fun watches => ?_
  obtain ⟨on, listens⟩ := (s.watches_iff p).mp watches
  exact h.elim on fun deaf => deaf listens

theorem State.endBreak_of_sending {s : State} {p : PortId} (on : (s.link p).state ≠ .off)
    (sends : (s.link p).line = .sendingBreak) :
    s.endBreak p = ((s.setLink p { s.link p with line := .listening }).breakReset p).writeDeferred p := by
  exact (if_pos sends).trans (congrArg (fun u : State => u.writeDeferred p) (if_neg on))

theorem State.endBreak_of_off {s : State} {p : PortId} (off : (s.link p).state = .off)
    (sends : (s.link p).line = .sendingBreak) :
    s.endBreak p = (s.setLink p { s.link p with line := .listening }).writeDeferred p := by
  exact (if_pos sends).trans (congrArg (fun u : State => u.writeDeferred p) (if_pos off))

theorem portAfterBreak_deferredWrites (x : CorridorPort) (t : Time) : (portAfterBreak x t).deferredWrites = x.deferredWrites := by
  unfold portAfterBreak withRoleWritten
  split
  · rfl
  · split <;> rfl

/-- The writes that waited follow the records of a reset. -/
theorem State.pushOutcomes_writeDeferred (s : State) (p : PortId) (y : CorridorPort) (rs : List OutcomeRecord) :
    ((s.setLink p y).pushOutcomes rs).writeDeferred p = y.deferredWrites.foldl (fun v st => v.writeSettings p st)
      ((s.setLink p { y with deferredWrites := [] }).pushOutcomes rs) := by
  rw [State.setLink_pushOutcomes, State.setLink_writeDeferred, State.setLink_pushOutcomes]

/-- Settles O53: LINK_BREAK by the port it names, and a break received or sent as the reset of its port. -/
theorem breaksResetPorts : Obligations.BreaksResetPorts := by
  intro s p x code
  refine ⟨fun serves => ⟨fun b other => ?_, fun refuses => ?_, fun role healthy => ⟨fun g sends => ?_, fun listens => ?_⟩⟩,
    fun released => ?events⟩
  · exact congrArg Host.Outcome.next (State.take_refused serves _ (·.judgeLinkBreak b) _
      (State.judgeLinkBreak_of_other (linkOfByte_ne_port other)))
  · refine congrArg Host.Outcome.next (State.take_refused serves _ (·.judgeLinkBreak code) _
      ((s.endTransaction.judgeLinkBreak_port p).trans (if_pos ?_)))
    rw [State.link_endTransaction]
    exact (refusesBreak_iff x).mpr refuses
  all_goals try
    have accepted (free : x.line ≠ .sendingBreak) : exec (.linkBreak code) s = .next ((s.startBreak p).replied 0x30 .ok []) := by
      refine congrArg Host.Outcome.next (State.take_answers serves _ ?_)
      refine (s.endTransaction.judgeLinkBreak_port p).trans ((if_neg ?_).trans
        (congrArg (okWith · []) (s.startBreak_endTransaction p)))
      rw [State.link_endTransaction, refusesBreak_iff]
      exact fun h => h.elim role fun h => h.elim healthy free
  · rw [accepted fun broken => LineUse.noConfusion (sends.symm.trans broken), State.startBreak_of_frame sends]
  · rw [accepted fun broken => LineUse.noConfusion (listens.symm.trans broken), State.startBreak_of_listening listens]
  case events =>
    intro unsent unconfirmed marked emptied resetTo written resets
    have unsent_eq : unsent = unsentRecords s.time x.outgoing := (unsentRecords_eq ..).symm
    have marked_eq : marked = s.intake.item.map (markBroken p) := by
      refine congrArg (Option.map · s.intake.item) (funext fun i => ?_)
      cases i <;> rfl
    have resetTo_eq (y : CorridorPort) :
        resetTo y = ((s.withBreakMarked p).setLink p y).pushOutcomes (breakRecords x s.time) := by
      simp only [resetTo, marked_eq, unsent_eq]
      rfl
    have resets_of (runs : CorridorPort → Prop)
        (h : (x.state = .roleFault ∨ x.settings.role ≠ .off) → runs (portAfterBreak { x with line := .listening } s.time)) :
        resets runs := by
      refine ⟨fun fault => ?_, fun healthy role => ?_, fun healthy role => ?_⟩
      · have run := h (.inl fault)
        rwa [portAfterBreak, if_pos fault] at run
      all_goals
        have run := h (.inr (by rw [role]; decide))
        rw [portAfterBreak, if_neg healthy] at run
        unfold withRoleWritten brokenPort at run
        simp only [role] at run
        exact run
    refine ⟨fun on listens => resets_of (fun y => exec (.corridorBreak p) s = .next (resetTo y)) fun role => ?received, fun on sends => resets_of
        (fun y => exec (.breakSendEnd p) s = .next (written (resetTo { y with deferredWrites := [] }))) fun role => ?sent,
      fun off sends => ?off, fun deaf => next_whenReleased released (State.receiveBreakAt_of_deaf deaf),
      fun silent => next_whenReleased released (if_neg silent)⟩
    case received =>
      refine next_whenReleased released ((State.receiveBreakAt_of_watching on listens).trans ?_)
      rw [resetTo_eq, State.breakReset_of_role role, ← listens]
    case sent =>
      refine next_whenReleased released ((State.endBreak_of_sending on sends).trans ?_)
      have here : (s.setLink p { x with line := .listening }).link p = { x with line := .listening } := State.setLink_link_same ..
      have same (y : CorridorPort) : ((s.setLink p { x with line := .listening }).withBreakMarked p).setLink p y =
          (s.withBreakMarked p).setLink p y := by
        cases p <;> rfl
      rw [State.breakReset_of_role (by rwa [here]), here, same, State.setLink_time, State.pushOutcomes_writeDeferred,
        portAfterBreak_deferredWrites, resetTo_eq]
      rfl
    case off =>
      refine next_whenReleased released ((State.endBreak_of_off off sends).trans ?_)
      rw [State.setLink_writeDeferred]


/-! ## The layout of a received frame (R137, R138, R183) -/

theorem kindBits_toNat (b0 : Byte) : (kindBits b0).toNat = b0.toNat % 4 := by
  rw [kindBits, extract_toNat, pow_zero, Nat.div_one]
  rfl

theorem bodyLength_eq (b0 : Byte) : bodyLength (kindBits b0) =
    (if b0.toNat % 4 = 1 then 11 else if b0.toNat % 4 = 2 then 2 else 0) + 2 := by
  unfold bodyLength
  rw [kindBits_toNat]
  rcases b0.toNat % 4 with _ | _ | _ | n <;> rfl

/-- Bytes of the length their kind fixes, checked and read (R137, R138, R181). -/
theorem receiveFrame_eq {b0 sender hi lo : Byte} {payload : List Byte}
    (length : payload.length = if b0.toNat % 4 = 1 then 11 else if b0.toNat % 4 = 2 then 2 else 0) :
    receiveFrame (b0 :: sender :: (payload ++ [hi, lo])) =
      if crc16 (b0 :: sender :: payload) ≠ hi ++ lo then .bad
      else match messageOf (kindBits b0) payload with
        | some msg => .valid { isReply := b0.getLsbD 7, contained := b0.getLsbD 6, sender, msg }
        | none => .unknownKind (b0.getLsbD 6) sender := by
  have whole : bodyLength (kindBits b0) = payload.length + 2 := by rw [bodyLength_eq, length]
  have body : (b0 :: sender :: (payload ++ [hi, lo])).take (payload.length + 2) = b0 :: sender :: payload :=
    List.take_left' (l₁ := b0 :: sender :: payload) rfl
  have check : (b0 :: sender :: (payload ++ [hi, lo])).drop (payload.length + 2) = [hi, lo] :=
    List.drop_left' (l₁ := b0 :: sender :: payload) rfl
  unfold receiveFrame
  simp only [whole, body, check]
  rfl

theorem messageOf_of_kind {b0 : Byte} {payload : List Byte} (known : b0.toNat % 4 ≠ 3)
    (length : payload.length = if b0.toNat % 4 = 1 then 11 else if b0.toNat % 4 = 2 then 2 else 0) :
    ∃ msg, messageOf (kindBits b0) payload = some msg := by
  unfold messageOf
  rw [kindBits_toNat]
  have below := Nat.mod_lt b0.toNat (show 4 > 0 by decide)
  rcases kind : b0.toNat % 4 with _ | _ | _ | n
  · rw [kind] at length
    rw [List.length_eq_zero_iff.mp length]
    exact ⟨_, rfl⟩
  · rw [kind] at length
    obtain ⟨b1, b2, b3, b4, b5, b6, b7, b8, b9, b10, b11, rfl⟩ := exists_eleven length
    exact ⟨_, rfl⟩
  · rw [kind] at length
    obtain ⟨a, b, rfl⟩ := List.length_eq_two.mp length
    exact ⟨_, rfl⟩
  · omega

theorem messageOf_of_unknown {b0 : Byte} (unknown : b0.toNat % 4 = 3) (payload : List Byte) :
    messageOf (kindBits b0) payload = none := by
  unfold messageOf
  rw [kindBits_toNat, unknown]
  rfl

/-! ## A message taken (R144, R146, R148) -/

theorem ackOfCode_ackCode (r : AckResult) : ackOfCode (ackCode r) = some r := by cases r <;> rfl

theorem ackOfCode_of_ge {b : Byte} (h : 5 ≤ b.toNat) : ackOfCode b = none := by
  unfold ackOfCode
  split
  case h_6 => rfl
  all_goals omega

section Message

variable {s : State} {p : PortId} {z : CorridorPort} {f : InFrame}

theorem State.takeMessage_of_none (msg : f.msg = .none) : (s.setLink p z).takeMessage p f = s.setLink p z := by
  unfold State.takeMessage
  rw [msg]

theorem State.takeMessage_of_handoff {m : HandoffMsg} (msg : f.msg = .handoff m) : (s.setLink p z).takeMessage p f =
    if z.received.length < 2 then s.setLink p { z with received := z.received ++ [(m, f.sender)] } else s.setLink p z := by
  unfold State.takeMessage
  rw [msg]
  simp only [State.takeHandoff, State.setLink_link_same, State.setLink_setLink, receiveCapacity]

theorem State.takeMessage_of_unmatched {id code : Byte} (msg : f.msg = .ack id code)
    (h : (∀ i ∈ z.awaiting, i.id ≠ id) ∨ 5 ≤ code.toNat) : (s.setLink p z).takeMessage p f = s.setLink p z := by
  unfold State.takeMessage
  rw [msg]
  simp only [State.takeAck, State.setLink_link_same]
  rcases h with absent | unknown
  · rw [awaitingOf_of_absent absent]
    cases ackOfCode code <;> rfl
  · rw [ackOfCode_of_ge unknown]

theorem State.takeMessage_of_matched {id : Byte} {r : AckResult} {i : AwaitItem} (msg : f.msg = .ack id (ackCode r))
    (mem : i ∈ z.awaiting) (same : i.id = id) (only : ∀ j ∈ z.awaiting, j.id = id → j = i) :
    (s.setLink p z).takeMessage p f =
      (s.setLink p { z with awaiting := z.awaiting.filter fun j => decide (j.id ≠ id) }).pushOutcome
        { time := s.time, vehicle := i.vehicle, route := i.route, approach := i.approach, level := i.level
          body := .handoff (.acked r) } := by
  unfold State.takeMessage
  rw [msg]
  simp only [State.takeAck, State.setLink_link_same, ackOfCode_ackCode, awaitingOf_of_mem mem same only, State.endAwaiting,
    awaitingWithout, State.setLink_setLink, State.setLink_time, same]
  rfl

end Message

/-! ## A valid frame acted on (R138 to R142) -/

section Acting

variable {s : State} {p : PortId} {f : InFrame}

theorem State.actOn_of_fault (fault : (s.link p).state = .roleFault) :
    s.actOn p f = s.setLink p (heardPeer (s.link p) f.contained f.sender) := by
  have still : ¬ (s.link p).state.isActive = true := by rw [fault]; decide
  exact if_pos (by simpa [heardPeer] using still)

variable (active : (s.link p).state = .syncing ∨ (s.link p).state = .up ∨ (s.link p).state = .down)

include active

theorem State.actOn_of_active : s.actOn p f =
    match (s.link p).settings.role, f.isReply with
    | .poller, false => s.enterRoleFault p (heardPeer (s.link p) f.contained f.sender)
    | .poller, true =>
      if (s.link p).windowClose.isSome then s.answered p (heardPeer (s.link p) f.contained f.sender) f
      else s.setLink p (heardPeer (s.link p) f.contained f.sender)
    | .responder, false => s.polled p (heardPeer (s.link p) f.contained f.sender) f
    | .responder, true => s.setLink p (heardPeer (s.link p) f.contained f.sender)
    | .off, _ => s.setLink p (heardPeer (s.link p) f.contained f.sender) := by
  have acts := (isActive_iff _).mpr active
  refine (if_neg (by simp [heardPeer, acts])).trans ?_
  rfl

theorem State.actOn_poll_at_poller (role : (s.link p).settings.role = .poller) (poll : f.isReply = false) :
    s.actOn p f = s.enterRoleFault p (heardPeer (s.link p) f.contained f.sender) := by
  rw [State.actOn_of_active active, role, poll]

theorem State.actOn_reply_at_poller (role : (s.link p).settings.role = .poller) (reply : f.isReply = true) : s.actOn p f =
    if (s.link p).windowClose.isSome then s.answered p (heardPeer (s.link p) f.contained f.sender) f
    else s.setLink p (heardPeer (s.link p) f.contained f.sender) := by
  rw [State.actOn_of_active active, role, reply]

theorem State.actOn_poll_at_responder (role : (s.link p).settings.role = .responder) (poll : f.isReply = false) :
    s.actOn p f = s.polled p (heardPeer (s.link p) f.contained f.sender) f := by
  rw [State.actOn_of_active active, role, poll]

theorem State.actOn_reply_at_responder (role : (s.link p).settings.role = .responder) (reply : f.isReply = true) :
    s.actOn p f = s.setLink p (heardPeer (s.link p) f.contained f.sender) := by
  rw [State.actOn_of_active active, role, reply]

end Acting

theorem State.receive_of_watching {s : State} {p : PortId} (watches : s.watches p = true) (bytes : List Byte) :
    s.receive p bytes = match receiveFrame bytes with
      | .incomplete => s
      | .bad => s.discardFrame p
      | .unknownKind contained sender => (s.setLink p (heardPeer (s.link p) contained sender)).discardFrame p
      | .valid f => s.actOn p f := by
  refine (if_neg ?_).trans rfl
  rw [watches]
  decide

theorem State.receive_of_deaf {s : State} {p : PortId} (deaf : ¬ s.watches p = true) (bytes : List Byte) :
    s.receive p bytes = s := if_pos (by rw [Bool.not_eq_true _ |>.mp deaf]; rfl)

theorem State.receive_of_incomplete {s : State} {p : PortId} {bytes : List Byte} (h : receiveFrame bytes = .incomplete) :
    s.receive p bytes = s := by
  by_cases watches : s.watches p = true
  · rw [State.receive_of_watching watches, h]
  · exact State.receive_of_deaf watches bytes

theorem State.startingUp_eq_false_iff (s : State) : (!s.startingUp) = decide (s.startUpEnd = none) := by
  unfold State.startingUp
  cases s.startUpEnd <;> rfl

/-- Settles O52: the layout of a frame, and what a valid one does by state, role and type. -/
theorem framesAreActedOn : Obligations.FramesAreActedOn := by
  intro s p bytes released x run watches bad active
  have watches_iff : watches ↔ s.watches p = true := (s.watches_iff p).symm
  have bad_eq : bad = s.discardFrame p := congrArg (s.occur · (.link p) none) (crcFault_eq p).symm
  have runs {t : State} (h : s.receive p bytes = t) : run = .next t := next_whenReleased released h
  rw [bad_eq, ← crcFault_eq, ← roleFaultKind_eq]
  refine ⟨fun deaf => ⟨runs (State.receive_of_deaf (mt watches_iff.mpr deaf) bytes),
      next_whenReleased released (if_neg (mt watches_iff.mpr deaf))⟩,
    fun hears => next_whenReleased released (if_pos (watches_iff.mp hears)), fun partial_ => runs (State.receive_of_incomplete partial_),
    fun hears fails => runs ?bad, fun c id hears unknown => runs ?unknown, fun b0 sender hi lo payload => ?layout,
    fun f hears valid => ?acts⟩
  case bad => rw [State.receive_of_watching (watches_iff.mp hears), fails]
  case unknown =>
    rw [State.receive_of_watching (watches_iff.mp hears), unknown]
    rfl
  case layout =>
    intro kind length rfl
    have layout := receiveFrame_eq (sender := sender) (hi := hi) (lo := lo) length
    refine ⟨fun differs => layout.trans (if_pos differs), fun same => ?_⟩
    rw [if_neg (not_not.mpr same)] at layout
    refine ⟨fun unknown => ?_, fun known => ?_⟩
    · rw [layout, messageOf_of_unknown unknown]
    · obtain ⟨msg, reads⟩ := messageOf_of_kind known length
      exact ⟨msg, by rw [layout, reads]⟩
  case acts =>
    have acted : s.receive p bytes = s.actOn p f := by rw [State.receive_of_watching (watches_iff.mp hears), valid]
    intro y takes
    have takes_of {z : CorridorPort} (h : s.actOn p f = (s.setLink p z).takeMessage p f) : takes z := by
      have ran {t : State} (g : (s.setLink p z).takeMessage p f = t) : run = .next t := runs (acted.trans (h.trans g))
      exact ⟨fun msg => ran (State.takeMessage_of_none msg),
        fun m msg room => ran ((State.takeMessage_of_handoff msg).trans (if_pos room)),
        fun m msg full => ran ((State.takeMessage_of_handoff msg).trans (if_neg (Nat.not_lt.mpr full))),
        fun id code msg unmatched => ran (State.takeMessage_of_unmatched msg unmatched),
        fun id r i msg mem same only => ran (State.takeMessage_of_matched msg mem same only)⟩
    refine ⟨fun fault => runs (acted.trans (State.actOn_of_fault fault)),
      fun act role poll => runs (acted.trans (State.actOn_poll_at_poller act role poll)),
      fun act role reply => ⟨fun shut => runs (acted.trans ((State.actOn_reply_at_poller act role reply).trans (if_neg ?_))),
        fun open_ => takes_of ((State.actOn_reply_at_poller act role reply).trans (if_pos ?_))⟩,
      fun act role poll => takes_of ((State.actOn_poll_at_responder act role poll).trans ?_),
      fun act role reply => runs (acted.trans (State.actOn_reply_at_responder act role reply))⟩
    · rw [shut]
      decide
    · exact Option.isSome_iff_ne_none.mpr open_
    · rw [State.polled, State.startingUp_eq_false_iff]
      rfl

end Sys2Proof.Machine

end

section
/-! PROOFS. Records and override (O10, O34, O35). -/

namespace Sys2Proof.Machine

/-! ## Fields as bytes (R180) -/

theorem extract_byte {n : Nat} (x : BitVec n) (start : Nat) :
    x.extractLsb' start 8 = BitVec.ofNat 8 (x.toNat / 2 ^ start) := by
  refine BitVec.eq_of_toNat_eq ?_
  rw [extract_toNat, BitVec.toNat_ofNat]

theorem halfBytes_eq (h : Half) : halfBytes h = [BitVec.ofNat 8 (h.toNat / 256), BitVec.ofNat 8 h.toNat] := by
  rw [halfBytes, extract_byte, extract_byte, pow_zero, Nat.div_one]
  rfl

theorem timeBytes_eq (t : Time) : timeBytes t = [BitVec.ofNat 8 (t.toNat / 16777216), BitVec.ofNat 8 (t.toNat / 65536),
    BitVec.ofNat 8 (t.toNat / 256), BitVec.ofNat 8 t.toNat] := by
  rw [timeBytes, extract_byte, extract_byte, extract_byte, extract_byte, pow_zero, Nat.div_one]
  rfl

theorem mapBytes_eq (m : BitVec 19) : mapBytes m = [BitVec.ofNat 8 (m.toNat / 65536), BitVec.ofNat 8 (m.toNat / 256),
    BitVec.ofNat 8 m.toNat] := by
  have wide : (m.setWidth 24).toNat = m.toNat := BitVec.toNat_setWidth_of_le (by decide)
  rw [mapBytes, extract_byte, extract_byte, extract_byte, pow_zero, Nat.div_one, wide]
  rfl

theorem routeBytes_eq (r : Route) :
    halfBytes (r.setWidth 16) = [BitVec.ofNat 8 (r.toNat / 256), BitVec.ofNat 8 r.toNat] := by
  rw [halfBytes_eq, BitVec.toNat_setWidth_of_le (by decide)]

theorem signedBytes_eq (x : Int) : signedBytes x = [BitVec.ofInt 8 (x / 256), BitVec.ofInt 8 x] := by
  have high : BitVec.ofNat 8 ((BitVec.ofInt 16 x).toNat / 256) = BitVec.ofInt 8 (x / 256) := by
    refine BitVec.eq_of_toNat_eq ?_
    simp only [BitVec.toNat_ofNat, BitVec.toNat_ofInt]
    omega
  have low : BitVec.ofNat 8 (BitVec.ofInt 16 x).toNat = BitVec.ofInt 8 x := by
    refine BitVec.eq_of_toNat_eq ?_
    simp only [BitVec.toNat_ofNat, BitVec.toNat_ofInt]
    omega
  rw [signedBytes, halfBytes_eq, high, low]

/-- A flag byte as a number: bit i weighs 2^i. -/
theorem flagByte_eq (fs : List Bool) :
    flagByte fs = BitVec.ofNat 8 (fs.foldr (fun b n => 2 * n + if b then 1 else 0) 0) := by
  induction fs with
  | nil => rfl
  | cons b fs ih =>
    have doubled : ∀ (x : Byte) (c : Bool), (x <<< 1 ||| if c then 1 else 0) = 2 * x + if c then 1 else 0 := by decide
    rw [List.foldr_cons, BitVec.ofNat_add, BitVec.ofNat_mul, ← ih]
    refine (doubled (flagByte fs) b).trans ?_
    cases b <;> rfl

theorem padTo_eq {α : Type} (n : Nat) (fill : α) (xs : List α) : padTo n fill xs = (xs ++ List.replicate n fill).take n := by
  rw [padTo, List.take_append, List.take_replicate, Nat.min_eq_left (Nat.sub_le ..)]

/-! ## Codes (R185, R186) -/

theorem markCode_eq (m : ActionMark) : markCode m = BitVec.ofNat 8 ([ActionMark.none, .extend, .advance].idxOf m) := by
  cases m <;> rfl

theorem closeCode_eq (r : CloseReason) : closeCode r = BitVec.ofNat 8 ([CloseReason.servedRadio, .servedLoop, .cancelled,
    .stale, .unconfirmedExpired, .evicted, .flushed].idxOf r) := by
  cases r <;> rfl

theorem rejectCode_eq (r : RejectReason) : rejectCode r = BitVec.ofNat 8 ([RejectReason.route, .approach, .full].idxOf r) := by
  cases r <;> rfl

theorem ackCode_eq (r : AckResult) :
    ackCode r = BitVec.ofNat 8 ([AckResult.accepted, .duplicate, .full, .noApproach, .route].idxOf r) := by
  cases r <;> rfl

theorem handoffCodes_notSent (why : NotSent) : handoffCodes (.notSent why) =
    (6, BitVec.ofNat 8 ([NotSent.noExit, .linkNotUp, .peerContained, .queueFull].idxOf why + 1)) := by
  cases why <;> rfl

/-- The notes in the order of their codes, denials first (R186). -/
def notesInOrder : List Note := [.denied .noneNeeded, .denied .far, .denied .noPhase, .denied .nextCycle, .denied .extLimit,
  .denied .advShort, .denied .budget, .denied .capacity, .denied .conflict, .denied .noChannel, .denied .ridersFull,
  .ended .complete, .ended .greenEnded, .ended .missed, .ended .released, .ended .cancelled, .ended .preempted,
  .ended .unsynced, .ended .planChange, .ended .contained, .ended .overridden, .ended .overrideLong]

theorem noteCode_eq (n : Option Note) : noteCode n = n.elim 0 fun n => BitVec.ofNat 8 (notesInOrder.idxOf n + 1) := by
  rcases n with _ | d | r
  · rfl
  · cases d <;> rfl
  · cases r <;> rfl

theorem endCode_eq (r : EndReason) : endCode r = BitVec.ofNat 8 (notesInOrder.idxOf (.ended r) + 1) := by cases r <;> rfl

theorem phaseByte_eq (p : Phase) : phaseByte p = BitVec.ofNat 8 ([Phase.p1, .p2, .p3, .p4, .p5, .p6].idxOf p + 1) := by
  cases p <;> rfl

theorem rateCode_eq (r : LineRate) : rateCode r = BitVec.ofNat 8 ([LineRate.r9600, .r19200, .r38400, .r115200].idxOf r) := by
  cases r <;> rfl

theorem roleCode_eq (r : Role) : roleCode r = BitVec.ofNat 8 ([Role.off, .poller, .responder].idxOf r) := by
  cases r <;> rfl

theorem linkStateCode_eq (x : LinkState) :
    linkStateCode x = BitVec.ofNat 8 ([LinkState.off, .syncing, .up, .down, .roleFault].idxOf x) := by
  cases x <;> rfl

theorem portByte_eq (p : PortId) : portByte p = if p = .linkA then 2 else 3 := by cases p <;> rfl
theorem rxByte_eq (r : RxId) : rxByte r = if r = .rx0 then 0 else 1 := by cases r <;> rfl

theorem entryStateCode_eq (x : EntryState) : entryStateCode x = if x = .tracking then 1 else if x = .pending then 2 else 3 := by
  cases x <;> rfl

theorem faultIndex_eq (k : FaultKind) : (faultIndex k).val = faultKinds.idxOf k := by cases k <;> rfl

theorem kindByte_eq (k : Option FaultKind) : kindByte k = k.elim 31 fun k => BitVec.ofNat 8 (faultKinds.idxOf k) := by
  rcases k with _ | k
  · rfl
  · exact congrArg (BitVec.ofNat 8) (faultIndex_eq k)

/-! ## Sizes (R185, R186) -/

@[simp] theorem halfBytes_length (h : Half) : (halfBytes h).length = 2 := rfl
@[simp] theorem natBytes_length (n : Nat) : (natBytes n).length = 2 := rfl
@[simp] theorem signedBytes_length (n : Int) : (signedBytes n).length = 2 := rfl
@[simp] theorem timeBytes_length (t : Time) : (timeBytes t).length = 4 := rfl
@[simp] theorem timeOr0_length (t : Option Time) : (timeOr0 t).length = 4 := rfl
@[simp] theorem mapBytes_length (m : BitVec 19) : (mapBytes m).length = 3 := rfl

theorem outcomeTail_length (b : OutcomeBody) : (outcomeTail b).length = 5 := by
  rcases b with ⟨_, _, _, _ | _⟩ | _ | _ <;> rfl

theorem planBytes_length (p : Option Plan) : (planBytes p).length = 3 := by cases p <;> rfl

theorem reasonBytes_length (r : Option ContainReason) : (reasonBytes r).length = 2 := by
  rcases r with _ | _ | _ <;> rfl

theorem padTo_length {α : Type} (n : Nat) (fill : α) (xs : List α) : (padTo n fill xs).length = n := by
  rw [padTo_eq, List.length_take, List.length_append, List.length_replicate]
  omega

/-- Places of one size fill a record's list field whatever stands in it. -/
theorem padTo_flatten_length (n size : Nat) {fill : List Byte} {xs : List (List Byte)} (blank : fill.length = size)
    (places : ∀ x ∈ xs, x.length = size) : (padTo n fill xs).flatten.length = n * size := by
  have all : ∀ x ∈ padTo n fill xs, x.length = size := by
    intro x mem
    rw [padTo_eq] at mem
    rcases List.mem_append.mp (List.mem_of_mem_take mem) with mem | mem
    · exact places x mem
    · rw [List.eq_of_mem_replicate mem, blank]
  rw [List.length_flatten, List.map_eq_replicate_iff.mpr all, List.sum_replicate, padTo_length, smul_eq_mul]

theorem entryRecord_length (i : EntryIx) (e : Option Entry) : (entryRecord i e).length = 41 := by
  cases e <;> rfl

theorem channelRecord_length (c : ChannelIx) (x : Channel) (calls : Byte) : (channelRecord c x calls).length = 48 := by
  unfold channelRecord
  cases x.live with
  | none => rfl
  | some l =>
    have pairs : (padTo 5 [0, 0, 0] (l.charges.map pairBytes)).flatten.length = 15 :=
      padTo_flatten_length 5 3 rfl fun x mem => by
        obtain ⟨q, _, rfl⟩ := List.mem_map.mp mem
        rfl
    simp only [liveBytes, List.length_append, List.length_cons, List.length_nil, natBytes_length, timeBytes_length, timeOr0_length,
      padTo_length, pairs]

theorem portRecord_length (p : PortId) (x : CorridorPort) : (portRecord p x).length = 52 := by
  have outgoing : (padTo 4 [0, 0] (x.outgoing.map outgoingPair)).flatten.length = 8 :=
    padTo_flatten_length 4 2 rfl fun y mem => by
      obtain ⟨m, _, rfl⟩ := List.mem_map.mp mem
      cases m <;> rfl
  have awaiting : (padTo 4 [0, 0, 0, 0, 0] (x.awaiting.map awaitingPair)).flatten.length = 20 :=
    padTo_flatten_length 4 5 rfl fun y mem => by
      obtain ⟨m, _, rfl⟩ := List.mem_map.mp mem
      rfl
  simp only [portRecord, List.length_append, List.length_cons, List.length_nil, natBytes_length, outgoing, awaiting]

theorem State.phaseRecord_length (s : State) : s.phaseRecord.length = 61 := by
  simp only [State.phaseRecord, List.length_append, List.length_cons, List.length_nil, natBytes_length, timeOr0_length,
    planBytes_length]
  rfl

theorem State.faultRecordBytes_length (s : State) : s.faultRecordBytes.length = 29 := by
  simp only [State.faultRecordBytes, List.length_append, List.length_cons, List.length_nil, natBytes_length, timeBytes_length,
    timeOr0_length, halfBytes_length, mapBytes_length, reasonBytes_length]

theorem outcomeBytes_length (r : OutcomeRecord) : (outcomeBytes r).length = 18 := by
  simp only [outcomeBytes, List.length_append, List.length_cons, List.length_nil, timeBytes_length, halfBytes_length,
    outcomeTail_length]

/-! ## Fields -/

/-- An outcome record's bytes, its codes and its tail apart (R185). -/
theorem outcomeBytes_eq (r : OutcomeRecord) : outcomeBytes r = (outcomeCodes r.body).1 ::
    ([BitVec.ofNat 8 (r.time.toNat / 16777216), BitVec.ofNat 8 (r.time.toNat / 65536), BitVec.ofNat 8 (r.time.toNat / 256),
      BitVec.ofNat 8 r.time.toNat] ++ [BitVec.ofNat 8 (r.vehicle.toNat / 256), BitVec.ofNat 8 r.vehicle.toNat] ++
      [BitVec.ofNat 8 (r.route.toNat / 256), BitVec.ofNat 8 r.route.toNat] ++
      [BitVec.ofNat 8 r.approach.val, (outcomeCodes r.body).2.1, (outcomeCodes r.body).2.2, BitVec.ofNat 8 r.level] ++
      outcomeTail r.body) := by
  rw [outcomeBytes, routeBytes_eq, timeBytes_eq, halfBytes_eq]
  rfl

theorem setWidth_eq_ofNat {n : Nat} (x : BitVec n) (m : Nat) : x.setWidth m = BitVec.ofNat m x.toNat :=
  (BitVec.ofNat_toNat m x).symm


/-- Settles O10: the sizes, then each record field by field. -/
theorem recordsHaveTheirSizes : Obligations.RecordsHaveTheirSizes := by
  refine ⟨outcomeBytes_length, entryRecord_length, channelRecord_length, State.phaseRecord_length, portRecord_length,
    fun _ _ => rfl, fun _ => rfl, State.faultRecordBytes_length, ?_⟩
  intro byte two signed three four bits flag mark phases notes kinds kindOr31 tracker calls
  have calls_eq (s : State) : s.callBits = calls s := flagByte_eq _
  have tracker_eq (x : Tracker) : trackerCode x = tracker x := by cases x <;> rfl
  refine ⟨fun r => ?outcome, fun i => rfl, fun i e => ?entry, fun c x pc => ?channel, fun s => ?phase, fun p x => ?port,
    fun r x => ?rx, fun s => ?status⟩
  case outcome =>
    have bytes := outcomeBytes_eq r
    refine ⟨fun why act total body => ?_, fun why act total id body => ?_, fun why body => ?_, fun a body => ?_, fun body => ?_,
      fun why body => ?_⟩
    all_goals rw [body] at bytes
    · rw [bytes, outcomeCodes, closeCode_eq, outcomeTail, markCode_eq, natBytes_eq]
      rfl
    · rw [bytes, outcomeCodes, closeCode_eq, outcomeTail, markCode_eq, natBytes_eq]
      rfl
    · rw [bytes, outcomeCodes, rejectCode_eq]
      rfl
    · rw [bytes, outcomeCodes, handoffCodes, ackCode_eq]
      rfl
    · rw [bytes]
      rfl
    · rw [bytes, outcomeCodes, handoffCodes_notSent]
      rfl
  case entry =>
    intro channel origin
    have origin_some : isHandoff e.origin = origin.isSome := by
      simp only [origin]
      cases e.origin <;> rfl
    have origin_id : originId e.origin = origin.getD 0 := by
      simp only [origin]
      cases e.origin <;> rfl
    have channel_eq : channelOf e.state = channel := by
      simp only [channel]
      cases e.state <;> rfl
    have channel_byte : natByte (channel.elim 0 (·.val)) = channel.elim 0 fun c => byte c.val := by
      cases channel <;> rfl
    simp only [entryRecord, entryStateCode_eq, halfBytes_eq, signedBytes_eq, setWidth_eq_ofNat e.seq 8, natBytes_eq,
      timeBytes_eq, flagByte_eq, markCode_eq, noteCode_eq, origin_some, origin_id, channel_eq, channel_byte]
    rfl
  case channel =>
    intro lastEnd
    have ending : (x.lastEnd.elim 0 fun e => endCode e.1) :: timeOr0 (x.lastEnd.map (·.2)) = lastEnd := by
      simp only [lastEnd]
      cases x.lastEnd with
      | none => rfl
      | some z =>
        simp only [Option.elim_some, Option.map_some, timeOr0, Option.getD_some, endCode_eq, timeBytes_eq]
        rfl
    refine ⟨fun idle => ?_, fun l live => ?_⟩
    · simp only [channelRecord, idle, flagByte_eq, ending, ← List.append_assoc]
      rfl
    · intro state action riders pairs
      have state_code : runCode l.run = state.getD 0 0 := by
        simp only [state]
        rcases l.run with _ | _ | _ | _ <;> rfl
      have suspended_eq : isSuspended l = decide (state.getD 1 0 ≠ 0) := by
        rcases run : l.run with _ | _ | _ | _ <;> simp only [state, isSuspended, run] <;> rfl
      have prior_code : priorCode l.run = state.getD 1 0 := by
        simp only [state]
        rcases l.run with _ | _ | _ | _ <;> rfl
      have action_eq : ((if isExtend l then (1 : Byte) else 2), remainingOf l.action, actionTime l.action) = action := by
        cases act : l.action <;> simp only [action, isExtend, act] <;> rfl
      have cause_code : boolByte (decide (l.cause = .forced)) = if l.cause = .decision then 0 else 1 := by
        cases l.cause <;> rfl
      have pairs_eq : l.charges.map pairBytes = pairs := by
        refine List.map_congr_left fun q _ => ?_
        rw [pairBytes, natBytes_eq]
        rfl
      have act_code : (if isExtend l then (1 : Byte) else 2) = action.1 := congrArg (·.1) action_eq
      have act_rest : remainingOf l.action = action.2.1 := congrArg (·.2.1) action_eq
      have act_time : actionTime l.action = action.2.2 := congrArg (·.2.2) action_eq
      simp only [channelRecord, live, ending, liveBytes, state_code, suspended_eq, prior_code, act_code, act_rest, act_time, cause_code,
        pairs_eq, padTo_eq, phaseByte_eq, flagByte_eq, natBytes_eq, timeBytes_eq, byte, two, four, bits,
        List.append_assoc, List.cons_append, List.nil_append]
      rfl
  case phase =>
    intro step drop plan phase staging charge
    have step_eq : stepOf s.tracker = step := by
      simp only [step]
      cases s.tracker <;> rfl
    have drop_eq : (step.bind fun r => dropOf r.period) = drop := by
      refine Option.bind_congr fun r _ => ?_
      cases r.period <;> rfl
    have staging_eq : s.port.command.isStaging = staging := by
      simp only [staging]
      cases s.port.command <;> rfl
    have plan_eq (p : Option Plan) : planBytes p = plan p := by
      cases p with
      | none => rfl
      | some p =>
        simp only [planBytes, natBytes_eq]
        rfl
    have charge_eq (k : SlotIx) : reportedCharge s.plans.active s.account k = charge k := by
      simp only [charge]
      cases s.plans.active <;> rfl
    have cur_eq : natByte (step.elim 0 (·.cur.val)) = step.elim 0 fun r => byte r.cur.val := by cases step <;> rfl
    simp only [State.phaseRecord, step_eq, drop_eq, staging_eq, plan_eq, charge_eq, cur_eq, flagByte_eq, timeOr0, timeBytes_eq,
      natBytes_eq, tracker_eq, phaseByte_eq, allPhases, allSlots, List.map_cons, List.map_nil, List.flatten_cons, List.flatten_nil,
      byte, two, four, bits, List.append_assoc, List.cons_append, List.nil_append]
    rfl
  case port =>
    intro outgoing awaiting
    have outgoing_eq : x.outgoing.map outgoingPair = outgoing := by
      refine List.map_congr_left fun m _ => ?_
      cases m <;> rfl
    have awaiting_eq : x.awaiting.map awaitingPair = awaiting := by
      refine List.map_congr_left fun i _ => ?_
      rw [awaitingPair, timeBytes_eq]
    simp only [portRecord, portByte_eq, roleCode_eq, linkStateCode_eq, rateCode_eq, natBytes_eq, flagByte_eq, outgoing_eq, awaiting_eq,
      padTo_eq, byte, two, bits, List.append_assoc, List.cons_append, List.nil_append]
    rfl
  case rx =>
    rw [rxRecord, rxByte_eq, rateCode_eq]
    rfl
  case status =>
    intro running override contained reason settle source
    have running_eq : runningCode s.port.command = running := by
      simp only [running]
      cases s.port.command <;> rfl
    have override_eq : overrideCode s.ovr.state = override := by
      simp only [override]
      cases s.ovr.state <;> rfl
    have contained_eq : containCode s.containment.state = contained := by
      simp only [contained]
      cases s.containment.state <;> rfl
    have reason_eq : reasonBytes (reasonOf s.containment.state) = reason := by
      simp only [reason]
      rcases s.containment.state with _ | ⟨_ | k, _⟩ | _ | k <;> simp only [reasonOf, reasonBytes, kindByte_eq] <;> rfl
    have settle_eq : settleExpiryOf s.containment.state = settle := by
      simp only [settle]
      cases s.containment.state <;> rfl
    have source_eq : sourceCode s.faults.record.source = source := by
      simp only [source]
      rcases s.faults.record.source with _ | (_ | _) | (_ | _) | a <;> rfl
    have long_eq : boolByte s.port.command.isLong = if s.port.command = .idle then 0 else 1 := by
      cases s.port.command <;> rfl
    have vehicle_eq : (s.faults.record.vehicle.getD 0).toNat = (s.faults.record.vehicle.map (·.toNat)).getD 0 := by
      cases s.faults.record.vehicle <;> rfl
    have out_eq : s.outFlag = decide (s.port.outcomes ≠ []) := by
      unfold State.outFlag
      cases s.port.outcomes <;> rfl
    refine ⟨calls_eq s, ?_, ?_, ?_⟩
    · rw [State.eventBits, flagByte_eq, out_eq]
    · simp only [State.statusRecord, timeBytes_eq, flagByte_eq, setWidth_eq_ofNat s.port.enables 8, kindByte_eq, running_eq,
        override_eq, contained_eq, tracker_eq, long_eq]
      rfl
    · simp only [State.faultRecordBytes, mapBytes_eq, timeBytes_eq, timeOr0, halfBytes_eq, natBytes_eq, flagByte_eq, kindByte_eq,
        faultIndex_eq, contained_eq, reason_eq, settle_eq, source_eq, vehicle_eq]
      rfl


/-! ## Override ACTIVE (R126) -/

theorem suspended_lastEnd (c : Channel) : (suspended c).lastEnd = c.lastEnd := by
  unfold suspended
  split
  · split <;> rfl
  · rfl

section Suspended

variable {c : Channel}

theorem suspended_of_idle (h : c.live = none) : suspended c = c := by
  unfold suspended
  rw [h]

variable {l : LiveChannel} (live : c.live = some l)

include live

theorem suspended_of_armed (h : l.run = .armed) : (suspended c).live = some { l with run := .suspended .armed } := by
  unfold suspended
  simp only [live, h]

theorem suspended_of_running (h : l.run = .running) : (suspended c).live = some { l with run := .suspended .running } := by
  unfold suspended
  simp only [live, h]

theorem suspended_of_suspended {q : PriorState} (h : l.run = .suspended q) : suspended c = c := by
  unfold suspended
  simp only [live, h]

end Suspended

theorem isSuspended_of_suspended {c : Channel} {l : LiveChannel} (h : (suspended c).live = some l) : l.IsSuspended := by
  cases live : c.live with
  | none =>
    rw [suspended_of_idle live, live] at h
    cases h
  | some m =>
    cases run : m.run with
    | armed =>
      rw [suspended_of_armed live run] at h
      cases h
      exact ⟨_, rfl⟩
    | running =>
      rw [suspended_of_running live run] at h
      cases h
      exact ⟨_, rfl⟩
    | suspended q =>
      rw [suspended_of_suspended live run, live] at h
      cases h
      exact ⟨q, run⟩

/-- An activation but for its event: the last deciseconds settled, the pass stopped, the channels suspended and the timer
started (R126). -/
def State.suspendAll (s : State) : State :=
  { s.settleCounts (fun _ => true) with
    engine := { pass := none, again := false }
    channels := tabulate fun c => suspended (s.settleCounts fun _ => true).channels[c]
    ovr := { s.ovr with state := .active, suspendExpiry := some (timePlus s.time s.pins.suspendLimit) } }

theorem State.activate_eq (s : State) : s.activate = s.suspendAll.raise .ovr := by
  unfold State.activate State.suspendAll
  rw [s.settleCounts_frame fun _ => true]
  rfl

theorem State.suspendAll_port (s : State) : s.suspendAll.port = s.port := by
  unfold State.suspendAll
  rw [s.settleCounts_frame fun _ => true]

theorem State.suspendAll_withPort (s : State) (p : ControllerPort) : (s.withPort p).suspendAll = s.suspendAll.withPort p := by
  unfold State.suspendAll
  rw [State.settleCounts_withPort]
  rfl

theorem State.activate_endTransaction (s : State) : s.endTransaction.activate = s.activate.endTransaction := by
  rw [State.activate_eq, State.activate_eq, show s.endTransaction = s.withPort { s.port with transaction := none } from rfl,
    State.suspendAll_withPort, ← State.suspendAll_port]
  rfl

/-- The activation as R126 gives it. -/
theorem State.activate_activates (s : State) : s.Activates s.activate := by
  have port := s.suspendAll_port
  rw [State.activate_eq]
  have channel (c : ChannelIx) : (s.suspendAll.raise .ovr).channels[c] =
      suspended (s.settleCounts fun _ => true).channels[c] := tabulate_get _ c
  have raised : (s.suspendAll.raise .ovr).port = { s.port with events := { s.port.events with ovr := true } } := by
    rw [← port]
    rfl
  refine ⟨rfl, rfl, by rw [raised], fun _ c l live => ?suspends, s.settleCounts fun _ => true, s.settleCounts_settles _, rfl,
    by rw [raised], fun c => ?channel⟩
  case suspends =>
    rw [channel] at live
    exact isSuspended_of_suspended live
  case channel =>
    rw [channel]
    refine ⟨suspended_lastEnd _, fun idle => ?_, fun l live => ⟨suspended_of_armed live, suspended_of_running live, fun q run => ?_⟩⟩
    · rw [suspended_of_idle idle, idle]
    · rw [suspended_of_suspended live run, live]

/-! ## The override state formed anew (R125) -/

theorem OverrideMonitor.asked_iff (o : OverrideMonitor) : o.asked = true ↔ o.recognised = true ∨ o.hold = true := by
  rw [OverrideMonitor.asked, Bool.or_eq_true]

theorem State.formOverride_of_active {s : State} (active : s.ovr.state = .active) : s.formOverride =
    if s.ovr.asked then s else { s with ovr := { s.ovr with state := .resuming 0, suspendExpiry := none } } := by
  unfold State.formOverride
  rw [active]

theorem State.formOverride_of_not_active {s : State} (h : s.ovr.state ≠ .active) :
    s.formOverride = if s.ovr.asked then s.activate else s := by
  unfold State.formOverride
  split
  · rfl
  · rename_i active
    exact absurd active h
  · rfl

theorem State.formOverride_forms (s : State) : s.FormsOverride s.formOverride := by
  have asked_iff : s.ovr.recognised = true ∨ s.ovr.hold = true ↔ s.ovr.asked = true := s.ovr.asked_iff.symm
  refine ⟨fun idle free => ?_, fun active holds => ?_, fun active free => ?_, fun c resuming free => ?_, fun open_ holds => ?_⟩
  · rw [State.formOverride_of_not_active (by rw [idle]; decide), if_neg (mt asked_iff.mpr free)]
  · rw [State.formOverride_of_active active, if_pos (asked_iff.mp holds)]
  · rw [State.formOverride_of_active active, if_neg (mt asked_iff.mpr free)]
  · rw [State.formOverride_of_not_active (by rw [resuming]; nofun), if_neg (mt asked_iff.mpr free)]
  · rw [State.formOverride_of_not_active open_, if_pos (asked_iff.mp holds)]
    exact s.activate_activates

theorem State.formOverride_endTransaction (s : State) : s.endTransaction.formOverride = s.formOverride.endTransaction := by
  by_cases active : s.ovr.state = .active
  · have same : s.endTransaction.ovr.state = .active := active
    rw [State.formOverride_of_active active, State.formOverride_of_active same, State.endTransaction_ovr]
    split <;> rfl
  · have same : s.endTransaction.ovr.state ≠ .active := active
    rw [State.formOverride_of_not_active active, State.formOverride_of_not_active same, State.endTransaction_ovr]
    split
    · exact s.activate_endTransaction
    · rfl

theorem overrideCode_eq (o : OverrideState) : overrideCode o = if o = .inactive then 0 else if o = .active then 1 else 2 := by
  cases o <;> rfl

section Hold

variable {s : State} {b : Byte} {h : Bool} (named : twoValued b false true = some h)

include named

theorem State.judgeHold_of_same (same : s.ovr.hold = h) : s.judgeHold b = okWith s [overrideCode s.ovr.state] := by
  unfold State.judgeHold
  rw [named]
  simp only [same, if_true]

theorem State.judgeHold_of_change (change : s.ovr.hold ≠ h) : s.judgeHold b =
    okWith ({ s with ovr := { s.ovr with hold := h } }.formOverride)
      [overrideCode ({ s with ovr := { s.ovr with hold := h } }.formOverride).ovr.state] := by
  unfold State.judgeHold
  rw [named]
  simp only [change, if_false]

/-- OVERRIDE_HOLD that leaves the hold is answered with the state that stands (R124). -/
theorem State.takeHold_of_same (serves : s.Serves) (same : s.ovr.hold = h) :
    s.take codeOverrideHold (·.judgeHold b) = s.replied 0x33 .ok [overrideCode s.ovr.state] :=
  State.take_answers serves _ (State.judgeHold_of_same (s := s.endTransaction) named same)

/-- OVERRIDE_HOLD that changes the hold forms the override state first (R124, R125). -/
theorem State.takeHold_of_change (serves : s.Serves) (change : s.ovr.hold ≠ h) :
    s.take codeOverrideHold (·.judgeHold b) = ({ s with ovr := { s.ovr with hold := h } }.formOverride).replied 0x33 .ok
      [overrideCode ({ s with ovr := { s.ovr with hold := h } }.formOverride).ovr.state] := by
  refine State.take_answers serves _ ((State.judgeHold_of_change (s := s.endTransaction) named change).trans ?_)
  have formed := State.formOverride_endTransaction { s with ovr := { s.ovr with hold := h } }
  generalize State.formOverride { s with ovr := { s.ovr with hold := h } } = t at formed ⊢
  exact congrArg (fun u : State => okWith u [overrideCode u.ovr.state]) formed

end Hold

/-! ## The suspend limit (R127) -/

/-- Causes that find no pass and no running condition leave the engine as it is. -/
theorem State.endingThose_engine {s : State} (idle : s.engine.pass = none) (barred : ¬ s.RunningCondition)
    (test : LiveChannel → Bool) (reason : ChannelIx → EndReason) : (s.endingThose test reason).engine = s.engine := by
  rw [State.endingThose_eq_foldl]
  refine (List.foldlRecOn (motive := fun u : State => u.engine = s.engine ∧ ¬ u.RunningCondition) allChannels _ ⟨rfl, barred⟩
    fun u ⟨engine, barred⟩ c _ => ?_).1
  by_cases meets : u.channels[c].Meets test
  · obtain ⟨l, live, _⟩ := id meets
    have idle : (u.closeChannel c l (reason c)).engine.pass = none := by
      rw [State.closeChannel_frame, engine, idle]
    have still : ¬ (u.closeChannel c l (reason c)).RunningCondition := by
      rw [State.closeChannel_frame]
      exact barred
    rw [State.endIf_of_meets meets, State.endChannel_of_live live, State.cause_of_barred idle still]
    exact ⟨by rw [State.closeChannel_frame, engine], still⟩
  · rw [State.endIf_of_not_meets meets]
    exact ⟨engine, barred⟩

theorem isSuspended_iff (l : LiveChannel) : isSuspended l = true ↔ l.IsSuspended := by
  unfold isSuspended LiveChannel.IsSuspended
  cases l.run <;> simp

theorem State.expireSuspension_of_due {s : State} {e : Time} (active : s.ovr.state = .active)
    (timer : s.ovr.suspendExpiry = some e) (due : atOrAfter s.time e = true) : s.expireSuspension =
    { s.endingThose isSuspended (fun _ => .overrideLong) with
      ovr := { (s.endingThose isSuspended fun _ => .overrideLong).ovr with suspendExpiry := none } } := by
  have reached : s.reached e = true := due
  unfold State.expireSuspension
  simp only [active, timer, reached, if_true]
  rfl

theorem State.expireSuspension_of_waits {s : State}
    (h : ∀ e, s.ovr.suspendExpiry = some e → s.ovr.state ≠ .active ∨ atOrAfter s.time e = false) : s.expireSuspension = s := by
  unfold State.expireSuspension
  split
  · rename_i t active timer
    refine if_neg fun due => ?_
    rcases h t timer with idle | early
    · exact idle active
    · exact Bool.noConfusion (due.symm.trans early)
  · rfl

/-- Settles O34: the level and the hold form the override state, and the limit ends what is SUSPENDED. -/
theorem overrideEvents : Obligations.OverrideEvents := by
  intro s
  refine ⟨fun released => ⟨fun steady => ?steady, fun u change => ?change⟩, fun serves => ?hold, fun released =>
    ⟨fun e active timer due => ?limit, fun waits => next_whenReleased released (State.expireSuspension_of_waits waits)⟩⟩
  case steady =>
    refine next_whenReleased released ?_
    unfold State.changeOverrideLevel
    rw [steady]
  case change =>
    refine ⟨_, next_whenReleased released ?_, State.formOverride_forms _⟩
    unfold State.changeOverrideLevel
    rw [change]
  case hold =>
    intro code
    have code_eq (o : OverrideState) : code o = overrideCode o := (overrideCode_eq o).symm
    have set : twoValued (1 : Byte) false true = some true := rfl
    have clear : twoValued (0 : Byte) false true = some false := rfl
    refine ⟨fun b other => ?_, fun holds => ?_, fun free => ⟨_, ?_, State.formOverride_forms _⟩, fun free => ?_,
      fun holds => ⟨_, ?_, State.formOverride_forms _⟩⟩
    · refine congrArg Host.Outcome.next (State.take_refused serves _ (·.judgeHold b) _ ?_)
      have none : twoValued b false true = none := eq_none_of_forall_ne fun h named => by
        rcases (twoValued_eq_some_iff ..).mp named with ⟨rfl, _⟩ | ⟨rfl, _⟩
        · exact absurd other (by decide)
        · exact absurd other (by decide)
      unfold State.judgeHold
      rw [none]
    · rw [code_eq]
      exact congrArg Host.Outcome.next (State.takeHold_of_same set serves holds)
    · rw [code_eq]
      exact congrArg Host.Outcome.next (State.takeHold_of_change set serves (by rw [free]; decide))
    · rw [code_eq]
      exact congrArg Host.Outcome.next (State.takeHold_of_same clear serves free)
    · rw [code_eq]
      exact congrArg Host.Outcome.next (State.takeHold_of_change clear serves (by rw [holds]; decide))
  case limit =>
    have barred : ¬ s.RunningCondition := fun ⟨_, inactive, _⟩ => OverrideState.noConfusion (active.symm.trans inactive)
    have expired := State.expireSuspension_of_due active timer due
    have ends := s.endingThose_frame isSuspended fun _ => .overrideLong
    have meets_iff (c : ChannelIx) :
        s.channels[c].Meets isSuspended ↔ ∃ l, s.channels[c].live = some l ∧ l.IsSuspended := by
      simp only [Channel.Meets, isSuspended_iff]
    have same {c : ChannelIx} := s.endingThose_channels_same (c := c) isSuspended fun _ => .overrideLong
    have kept {c : ChannelIx} := s.endingThose_channels_kept (c := c) isSuspended fun _ => .overrideLong
    have rides {i : EntryIx} {c : ChannelIx} {l : LiveChannel} (live : s.channels[c].live = some l) (meets : isSuspended l = true)
      (mem : i ∈ l.riders) := s.endingThose_table_rides isSuspended live meets mem .overrideLong
    have engine (idle : s.engine.pass = none) := State.endingThose_engine idle barred isSuspended fun _ => .overrideLong
    have ovr : (s.endingThose isSuspended fun _ => .overrideLong).ovr = s.ovr := by rw [ends]
    rw [ovr] at expired
    refine ⟨_, next_whenReleased released expired, rfl, ?_, engine, fun c => ⟨fun l live suspends => ⟨?_, fun i e mem he => ?_⟩,
      fun none => kept ?_⟩⟩
    · rw [ends]
    · exact same ((meets_iff c).mpr ⟨l, live, suspends⟩)
    · exact (rides live ((isSuspended_iff l).mpr suspends) mem).trans (congrArg (Option.map (·.endedWith .overrideLong)) he)
    · rw [meets_iff]
      exact fun ⟨l, live, suspends⟩ => none l live suspends


/-! ## The resume check (R128 to R132) -/

theorem State.currentGreen_iff (s : State) (k : SlotIx) :
    s.currentGreen k = true ↔ ∃ r, s.tracker = .inStep r ∧ r.cur = k ∧ r.period = .green := by
  unfold State.currentGreen
  cases s.tracker <;> simp

theorem State.anyGreen_iff (s : State) : s.anyGreen = true ↔ ∃ r, s.tracker = .inStep r ∧ r.period = .green := by
  unfold State.anyGreen
  cases s.tracker <;> simp

theorem State.someExtend_iff (s : State) : s.someExtend = true ↔ ∃ (d : ChannelIx) (m : LiveChannel) (rem : Nat) (rf : Time),
    s.channels[d].live = some m ∧ m.action = .extend rem rf := by
  simp only [State.someExtend, liveChannels_any_iff, isExtend_iff, exists_and_left]

section Visit

variable {s : State} {c : ChannelIx}

theorem State.visitChannel_of_awake (h : ∀ l, s.channels[c].live = some l → ¬ l.IsSuspended) : s.visitChannel c = s := by
  unfold State.visitChannel
  split
  · rename_i l live
    have awake := h l live
    split
    · rename_i q rem rf run _
      exact absurd ⟨q, run⟩ awake
    · rename_i q d run _
      exact absurd ⟨q, run⟩ awake
    · rfl
  · rfl

variable {l : LiveChannel} {q : PriorState} (live : s.channels[c].live = some l) (run : l.run = .suspended q)

include live run

theorem State.visitChannel_of_extend {rem : Nat} {rf : Time} (extends_ : l.action = .extend rem rf) :
    s.visitChannel c = s.resumeExtend c l rem rf := by
  unfold State.visitChannel
  simp only [live, run, extends_]

theorem State.visitChannel_of_advance {d : Time} (advances : l.action = .advance d) :
    s.visitChannel c = s.resumeAdvance c l q d := by
  unfold State.visitChannel
  simp only [live, run, advances]

end Visit

theorem State.resumeExtend_of_green {s : State} {c : ChannelIx} {l : LiveChannel} {p : Plan} (green : s.currentGreen l.slot = true)
    (active : s.plans.active = some p) (rem : Nat) (rf : Time) : s.resumeExtend c l rem rf =
    s.setChannel c { s.channels[c] with live := some { l with
      action := .extend (min rem (((slotAt p l.slot).e : Int) - (s.account.xcur - rem)).toNat) rf
      run := if atOrAfter s.time rf then .running else .armed } } := by
  refine (if_pos green).trans ?_
  have left : s.resumedRemaining l.slot rem = min rem (((slotAt p l.slot).e : Int) - (s.account.xcur - rem)).toNat := by
    unfold State.resumedRemaining
    rw [active]
  rw [left]
  rfl

/-- The state an advance resumes in (R130). -/
theorem State.resumeAdvance_of_early {s : State} {c : ChannelIx} {l : LiveChannel} {q : PriorState} {d : Time}
    (early : atOrAfter s.time d = false) : s.resumeAdvance c l q d = s.setChannel c { s.channels[c] with live := some { l with
      run := if q = .armed ∧ s.anyGreen = true ∧ s.someExtend = true then .armed else .running } } := by
  have waits : s.reached d = false := early
  unfold State.resumeAdvance
  rw [waits]
  cases q with
  | running => rfl
  | armed =>
    simp only [Bool.and_eq_true, true_and]
    rfl

theorem State.resumeVisit_of_resuming {s : State} {c : ChannelIx} (resuming : s.ovr.state = .resuming c) : s.resumeVisit =
    if c = 3 then (s.visitChannel c).finishResume
    else { s.visitChannel c with ovr := { (s.visitChannel c).ovr with state := .resuming (c + 1) } } := by
  unfold State.resumeVisit
  simp only [resuming]

/-- Settles O35: the channel visited, and the step to the next one or the end of the check. -/
theorem resumeCheckVisits : Obligations.ResumeCheckVisits := by
  intro s released
  refine ⟨fun idle => next_whenReleased released ?_, fun c resuming => ?visit⟩
  · unfold State.resumeVisit
    split
    · rename_i c resuming
      exact absurd resuming (idle c)
    · rfl
  case visit =>
    intro onward keep onGreen waits
    have visits {u : State} (h : s.visitChannel c = u) : exec .resumeVisit s = .next (onward u) := by
      have visit := State.resumeVisit_of_resuming resuming
      rw [h] at visit
      exact next_whenReleased released visit
    refine ⟨fun awake => visits (State.visitChannel_of_awake awake), fun l q rem rf live run extends_ => ?extend,
      fun l q d live run advances => ?advance⟩
    case extend =>
      have visit := State.visitChannel_of_extend live run extends_
      have green_iff : onGreen l ↔ s.currentGreen l.slot = true := (s.currentGreen_iff _).symm
      exact ⟨fun dark => visits (visit.trans (if_neg (mt green_iff.mpr dark))),
        fun green p active => visits (visit.trans (State.resumeExtend_of_green (green_iff.mp green) active rem rf))⟩
    case advance =>
      have visit := State.visitChannel_of_advance live run advances
      have waits_iff : waits q ↔ q = .armed ∧ s.anyGreen = true ∧ s.someExtend = true := by
        rw [s.anyGreen_iff, s.someExtend_iff]
      refine ⟨fun late => visits (visit.trans (if_pos late)), fun early held => visits ?_, fun early free => visits ?_⟩
      · rw [visit, State.resumeAdvance_of_early early, if_pos (waits_iff.mp held)]
      · rw [visit, State.resumeAdvance_of_early early, if_neg (mt waits_iff.mpr free)]

end Sys2Proof.Machine

end

section
/-! PROOFS. Places in the table, radio frames, check outs and handoffs (O39 to O42). -/

section
namespace Sys2Proof.Machine

/-! ## The earliest entry of a list (R17, R22) -/

/-- Times within 2^31 of one another are in the order of their distances from a third. -/
theorem isLater_iff_of_near {t x y : Time} (lower : -2 ^ 31 < timeDiff x t - timeDiff y t)
    (upper : timeDiff x t - timeDiff y t < 2 ^ 31) : isLater x y = true ↔ timeDiff y t < timeDiff x t := by
  simp only [isLater, timeDiff, decide_eq_true_eq, BitVec.toInt_eq_toNat_cond, BitVec.toNat_sub] at *
  have hx := x.isLt
  have hy := y.isLt
  have ht := t.isLt
  split at lower <;> split at lower <;> split <;> omega

theorem timeDiff_inj {t x y : Time} (h : timeDiff x t = timeDiff y t) : x = y := by
  have same := BitVec.toInt_inj.mp h
  bv_omega

/-- A time that t is at or after is behind t. -/
theorem timeDiff_of_atOrAfter {t x : Time} (h : atOrAfter t x = true) : -2 ^ 31 < timeDiff x t ∧ timeDiff x t ≤ 0 := by
  simp only [atOrAfter, timeDiff, decide_eq_true_eq, BitVec.toInt_eq_toNat_cond, BitVec.toNat_sub] at *
  have hx := x.isLt
  have ht := t.isLt
  split at h <;> split <;> omega

/-- The entry of a list whose time is earliest; among equals the one that stands first. -/
def earliestBy (key : Entry → Time) : List (EntryIx × Entry) → Option (EntryIx × Entry)
  | [] => none
  | x :: rest =>
    match earliestBy key rest with
    | none => some x
    | some y => if isLater (key x.2) (key y.2) then some y else some x

theorem oldest_eq_earliestBy (xs : List (EntryIx × Entry)) : oldest xs = earliestBy Entry.created xs := by
  induction xs with
  | nil => rfl
  | cons x xs ih =>
    rw [oldest, earliestBy, ih] <;> rfl

theorem earliestWindow_eq_earliestBy (xs : List (EntryIx × Entry)) : earliestWindow xs = earliestBy Entry.windowE xs := by
  induction xs with
  | nil => rfl
  | cons x xs ih =>
    rw [earliestWindow, earliestBy, ih] <;> rfl

/-- What makes one entry the choice before another: an earlier time, or the same and a lower index. -/
def EarlierBy (key : Entry → Time) (x y : EntryIx × Entry) : Prop :=
  isLater (key y.2) (key x.2) = true ∨ key y.2 = key x.2 ∧ x.1 < y.1

section Earliest

variable {key : Entry → Time} {t : Time}

/-- Times that lie within 2^30 of a point 2^30 behind or at a time t are in a fixed order: all of them are less than 2^31
apart. -/
def Near (key : Entry → Time) (t : Time) (xs : List (EntryIx × Entry)) : Prop :=
  ∀ x ∈ xs, ∀ y ∈ xs, timeDiff (key x.2) t - timeDiff (key y.2) t < 2 ^ 31

theorem EarlierBy.iff_of_near {xs : List (EntryIx × Entry)} (near : Near key t xs) {x y : EntryIx × Entry} (hx : x ∈ xs)
    (hy : y ∈ xs) : EarlierBy key x y ↔ timeDiff (key x.2) t < timeDiff (key y.2) t ∨
      timeDiff (key x.2) t = timeDiff (key y.2) t ∧ x.1 < y.1 := by
  have forward := near x hx y hy
  have backward := near y hy x hx
  rw [EarlierBy, isLater_iff_of_near (t := t) (by omega) backward]
  exact or_congr_right (and_congr_left fun _ => ⟨fun h => by rw [h], fun h => timeDiff_inj h.symm⟩)

theorem earliestBy_eq_none_iff (xs : List (EntryIx × Entry)) : earliestBy key xs = none ↔ xs = [] := by
  cases xs with
  | nil => exact iff_of_true rfl rfl
  | cons x xs =>
    refine iff_of_false ?_ (List.cons_ne_nil x xs)
    rw [earliestBy]
    split
    · exact Option.some_ne_none x
    · split <;> exact Option.some_ne_none _

/-- The choice from a list in index order whose times are near one another comes before every other. -/
theorem earliestBy_spec {xs : List (EntryIx × Entry)} (order : xs.Pairwise fun x y => x.1 < y.1) (near : Near key t xs)
    {x : EntryIx × Entry} (h : earliestBy key xs = some x) : x ∈ xs ∧ ∀ y ∈ xs, y ≠ x → EarlierBy key x y := by
  induction xs generalizing x with
  | nil => exact nomatch h
  | cons z xs ih =>
    obtain ⟨first, order⟩ := List.pairwise_cons.mp order
    have rest : Near key t xs := fun u hu v hv => near u (List.mem_cons_of_mem z hu) v (List.mem_cons_of_mem z hv)
    have head := List.mem_cons_self (a := z) (l := xs)
    rw [earliestBy] at h
    cases later : earliestBy key xs with
    | none =>
      rw [later] at h
      cases h
      rw [(earliestBy_eq_none_iff xs).mp later]
      exact ⟨List.mem_cons_self, fun y hy apart => absurd (List.mem_singleton.mp hy) apart⟩
    | some y =>
      obtain ⟨mem, before⟩ := ih order rest later
      have tail := List.mem_cons_of_mem z mem
      have forward := near z head y tail
      have backward := near y tail z head
      have turn := isLater_iff_of_near (t := t) (x := key z.2) (y := key y.2) (by omega) forward
      simp only [later] at h
      split at h
      · rename_i behind
        cases h
        refine ⟨tail, fun w hw apart => ?_⟩
        rcases List.mem_cons.mp hw with rfl | hw
        · exact .inl behind
        · exact before w hw apart
      · rename_i ahead
        cases h
        refine ⟨head, fun w hw apart => ?_⟩
        rcases List.mem_cons.mp hw with rfl | hw
        · exact absurd rfl apart
        · rw [EarlierBy.iff_of_near near head (List.mem_cons_of_mem _ hw), Fin.lt_def]
          have low := Fin.lt_def.mp (first w hw)
          have notLater := mt turn.mpr ahead
          by_cases same : w = y
          · subst same
            omega
          · have next := (EarlierBy.iff_of_near rest mem hw).mp (before w hw same)
            rw [Fin.lt_def] at next
            have lowest := Fin.lt_def.mp (first y mem)
            omega

end Earliest

end Sys2Proof.Machine
end

section
namespace Sys2Proof.Machine

/-! ## A place in the table (R21 to R23) -/

/-- The lowest-numbered FREE entry (R21). -/
theorem State.freeEntry_of_lowest {s : State} {i : EntryIx} (free : s.table[i] = none)
    (lowest : ∀ j, j < i → s.table[j] ≠ none) : s.freeEntry = some i := by
  rw [State.freeEntry, allEntries_eq_finRange, List.find?_eq_some_iff_getElem]
  refine ⟨by rw [free]; rfl, i.val, by simp, by simp, fun j hj => ?_⟩
  have live := lowest ⟨j, by omega⟩ hj
  simpa only [List.getElem_finRange, Fin.cast_mk, Bool.not_eq_true', Option.isNone_eq_false_iff, Option.isSome_iff_ne_none]
    using live

theorem State.freeEntry_of_full {s : State} (full : ∀ i : EntryIx, s.table[i] ≠ none) : s.freeEntry = none :=
  List.find?_eq_none.mpr fun i _ => by
    rw [Option.isNone_iff_eq_none]
    exact full i

/-- An entry that may be evicted for a newcomer of a level (R22). -/
def State.Evictable (s : State) (level : Nat) (i : EntryIx) (e : Entry) : Prop :=
  s.table[i] = some e ∧ e.state = .tracking ∧ e.level < level

theorem State.mem_evictable (s : State) (level : Nat) (x : EntryIx × Entry) :
    x ∈ s.evictable level ↔ s.Evictable level x.1 x.2 := by
  simp only [State.evictable, State.Evictable, List.mem_filter, Bool.and_eq_true, decide_eq_true_eq, ← s.mem_liveEntries]

theorem mem_preferUnconfirmed (xs : List (EntryIx × Entry)) (x : EntryIx × Entry) : x ∈ preferUnconfirmed xs ↔
    x ∈ xs ∧ (x.2.confirmed = false ∨ ∀ y ∈ xs, y.2.confirmed = true) := by
  unfold preferUnconfirmed
  split
  · rename_i none
    have all : ∀ y ∈ xs, y.2.confirmed = true := by
      simpa only [List.filter_eq_nil_iff, Bool.not_eq_true', Bool.not_eq_false] using none
    exact ⟨fun mem => ⟨mem, .inr all⟩, And.left⟩
  · rename_i y ys some
    have first : y ∈ xs.filter fun z => !z.2.confirmed := some ▸ List.mem_cons_self
    rw [← some, List.mem_filter, Bool.not_eq_true']
    rw [List.mem_filter, Bool.not_eq_true'] at first
    refine and_congr_right fun _ => ⟨.inl, fun h => h.resolve_right fun all => ?_⟩
    exact Bool.false_ne_true (first.2.symm.trans (all y first.1))

theorem mem_lowestLevel (xs : List (EntryIx × Entry)) (x : EntryIx × Entry) : x ∈ lowestLevel xs ↔
    x ∈ xs ∧ ∀ y ∈ xs, x.2.level ≤ y.2.level := by
  simp only [lowestLevel, List.mem_filter, List.all_eq_true, decide_eq_true_eq]

theorem preferUnconfirmed_sublist (xs : List (EntryIx × Entry)) : (preferUnconfirmed xs).Sublist xs := by
  unfold preferUnconfirmed
  split
  · exact .refl _
  · rename_i some
    rw [← some]
    exact List.filter_sublist

/-- The entries among which age and index choose the victim (R22, tests 1 and 2). -/
def State.victims (s : State) (level : Nat) : List (EntryIx × Entry) :=
  lowestLevel (preferUnconfirmed (s.evictable level))

theorem State.victims_order (s : State) (level : Nat) : (s.victims level).Pairwise fun x y => x.1 < y.1 :=
  s.liveEntries_apart.sublist (List.filter_sublist.trans ((preferUnconfirmed_sublist _).trans List.filter_sublist))

theorem State.evictable_of_mem_victims {s : State} {level : Nat} {x : EntryIx × Entry} (h : x ∈ s.victims level) :
    s.Evictable level x.1 x.2 := by
  rw [State.victims, mem_lowestLevel, mem_preferUnconfirmed, s.mem_evictable] at h
  exact h.1.1

theorem preferUnconfirmed_eq_nil_iff (xs : List (EntryIx × Entry)) : preferUnconfirmed xs = [] ↔ xs = [] := by
  unfold preferUnconfirmed
  split
  · exact .rfl
  · rename_i y ys some
    refine iff_of_false (List.cons_ne_nil y ys) fun none => ?_
    rw [none] at some
    exact List.cons_ne_nil y ys some.symm

theorem lowestLevel_ne_nil {xs : List (EntryIx × Entry)} (h : xs ≠ []) : lowestLevel xs ≠ [] := by
  obtain ⟨x, mem, lowest⟩ := xs.toFinset.exists_min_image (·.2.level) (List.toFinset_nonempty_iff xs |>.mpr h)
  exact List.ne_nil_of_mem ((mem_lowestLevel xs x).mpr
    ⟨List.mem_toFinset.mp mem, fun y hy => lowest y (List.mem_toFinset.mpr hy)⟩)

theorem State.victim_of_none {s : State} {level : Nat} (none : ∀ i e, ¬ s.Evictable level i e) :
    s.victim level = Option.none := by
  have empty : s.evictable level = [] := List.eq_nil_iff_forall_not_mem.mpr fun x mem =>
    none x.1 x.2 ((s.mem_evictable level x).mp mem)
  rw [State.victim, empty]
  rfl

/-- What makes an entry the victim before another (R22): unconfirmed, then lower in level, then older, then lower in
index. -/
def VictimBefore (i : EntryIx) (e : Entry) (j : EntryIx) (g : Entry) : Prop :=
  (e.confirmed = false ∧ g.confirmed = true) ∨ e.confirmed = g.confirmed ∧
    (e.level < g.level ∨ e.level = g.level ∧
      (isLater g.created e.created = true ∨ g.created = e.created ∧ i < j))

/-- The victim, judged for entries created within half the time base's range (R22). -/
theorem State.victim_of_some {s : State} {level : Nat} (some : ∃ i e, s.Evictable level i e)
    (near : ∀ (i : EntryIx) e, s.table[i] = Option.some e → atOrAfter s.time e.created = true) :
    ∃ i e, s.victim level = Option.some (i, e) ∧ s.Evictable level i e ∧
      ∀ j g, s.Evictable level j g → j ≠ i → VictimBefore i e j g := by
  obtain ⟨k, f, evictable⟩ := some
  have inhabited : s.victims level ≠ [] := lowestLevel_ne_nil (mt (preferUnconfirmed_eq_nil_iff _).mp
    (List.ne_nil_of_mem ((s.mem_evictable level (k, f)).mpr evictable)))
  have close : Near Entry.created s.time (s.victims level) := fun x hx y hy => by
    have := timeDiff_of_atOrAfter (near x.1 x.2 (State.evictable_of_mem_victims hx).1)
    have := timeDiff_of_atOrAfter (near y.1 y.2 (State.evictable_of_mem_victims hy).1)
    omega
  obtain ⟨⟨i, e⟩, found⟩ := Option.ne_none_iff_exists'.mp (mt (earliestBy_eq_none_iff (key := Entry.created) _).mp inhabited)
  obtain ⟨mem, before⟩ := earliestBy_spec (s.victims_order level) close found
  refine ⟨i, e, (oldest_eq_earliestBy _).trans found, State.evictable_of_mem_victims mem, fun j g other apart => ?_⟩
  have others := (s.mem_evictable level (j, g)).mpr other
  obtain ⟨⟨chosen, unconfirmed⟩, lowest⟩ := by
    simpa only [State.victims, mem_lowestLevel, mem_preferUnconfirmed] using mem
  have confirmation : e.confirmed = false ∨ g.confirmed = true := unconfirmed.imp_right fun all => all (j, g) others
  have level_le (same : e.confirmed = g.confirmed) : e.level ≤ g.level :=
    lowest (j, g) ⟨others, unconfirmed.imp_left (same.symm.trans ·)⟩
  have pair_ne : ((j, g) : EntryIx × Entry) ≠ (i, e) := fun h => apart (congrArg Prod.fst h)
  have age (same : e.confirmed = g.confirmed) (level : e.level = g.level) :
      isLater g.created e.created = true ∨ g.created = e.created ∧ i < j :=
    before (j, g) ((mem_lowestLevel _ _).mpr ⟨(mem_preferUnconfirmed _ _).mpr
      ⟨others, unconfirmed.imp_left (same.symm.trans ·)⟩, fun y hy =>
        level ▸ lowest y ((mem_preferUnconfirmed _ _).mp hy)⟩) pair_ne
  by_cases same : e.confirmed = g.confirmed
  · refine .inr ⟨same, (level_le same).lt_or_eq.imp_right fun level => ⟨level, age same level⟩⟩
  · rcases confirmation with unconfirmed | confirmed
    · exact .inl ⟨unconfirmed, Bool.eq_true_of_not_eq_false fun h => same (unconfirmed.trans h.symm)⟩
    · exact .inl ⟨Bool.eq_false_of_not_eq_true fun h => same (h.trans confirmed.symm), confirmed⟩

section Place

variable {s : State} {level : Nat}

theorem State.makePlace_of_free {i : EntryIx} (free : s.table[i] = none) (lowest : ∀ j, j < i → s.table[j] ≠ none) :
    s.makePlace level = some (s, i) := by
  unfold State.makePlace
  rw [State.freeEntry_of_lowest free lowest]

variable (full : ∀ i : EntryIx, s.table[i] ≠ none)

include full

theorem State.makePlace_of_refused (none : ∀ i e, ¬ s.Evictable level i e) : s.makePlace level = Option.none := by
  unfold State.makePlace
  rw [State.freeEntry_of_full full, State.victim_of_none none]

theorem State.makePlace_of_victim {i : EntryIx} {e : Entry} (victim : s.victim level = some (i, e)) :
    s.makePlace level = some (s.closeEntry i e .evicted, i) := by
  unfold State.makePlace
  rw [State.freeEntry_of_full full, victim]

end Place

/-! ## The entry of a vehicle (R20) -/

theorem State.entryOf_of_absent {s : State} {v : Vehicle} (absent : ∀ (i : EntryIx) e, s.table[i] = some e → e.vehicle ≠ v) :
    s.entryOf v = none :=
  List.find?_eq_none.mpr fun x mem => by
    rw [decide_eq_true_iff]
    exact absent x.1 x.2 ((s.mem_liveEntries x.1 x.2).mp mem)

theorem State.entryOf_isSome {s : State} {i : EntryIx} {e : Entry} (live : s.table[i] = some e) :
    ∃ x, s.entryOf e.vehicle = some x :=
  Option.isSome_iff_exists.mp (List.find?_isSome.mpr ⟨(i, e), (s.mem_liveEntries i e).mpr live, decide_eq_true rfl⟩)

theorem State.entryOf_of_live {s : State} (distinct : s.VehiclesDistinct) {i : EntryIx} {e : Entry}
    (live : s.table[i] = some e) : s.entryOf e.vehicle = some (i, e) := by
  obtain ⟨⟨j, f⟩, found⟩ := State.entryOf_isSome live
  have standing := (s.mem_liveEntries j f).mp (List.mem_of_find?_eq_some found)
  have holds := List.find?_some found
  have index := distinct j i f e standing live (of_decide_eq_true holds)
  subst index
  rw [found, Option.some.inj (standing.symm.trans live)]

/-! ## Radio frames that are discarded or dropped (R9, R10) -/

section Radio

variable {s : State} {link : RxId} {r : Report} {cfg : ApproachConfig} {routes : RouteTable} {classes : Vector Int 7}

theorem State.radioFrameApplication_of_radio (item : s.intake.item = some (.radio link r cfg routes classes)) :
    s.radioFrameApplication = s.itemEnds.applyRadio link r cfg routes classes := by
  unfold State.radioFrameApplication
  rw [item]

theorem State.radioFrameApplication_of_other
    (other : ∀ link r cfg routes classes, s.intake.item ≠ some (.radio link r cfg routes classes)) :
    s.radioFrameApplication = s := by
  unfold State.radioFrameApplication
  split
  · rename_i item
    exact absurd item (other _ _ _ _ _)
  · rfl

theorem State.applyRadio_of_disabled (off : cfg.enabled = false) : s.applyRadio link r cfg routes classes = s := by
  rw [State.applyRadio, off]
  rfl

theorem State.applyRadio_of_source (on : cfg.enabled = true) (wrong : cfg.link ≠ link) :
    s.applyRadio link r cfg routes classes = s.occur .rxSource (.rx link) (some r.vehicle) := by
  rw [State.applyRadio, on, Bool.not_true, if_neg Bool.false_ne_true, if_pos wrong]

theorem State.applyRadio_of_judged (on : cfg.enabled = true) (right : cfg.link = link) :
    s.applyRadio link r cfg routes classes = s.judgeReport r cfg routes classes := by
  rw [State.applyRadio, on, Bool.not_true, if_neg Bool.false_ne_true, if_neg (not_not.mpr right)]

theorem closingReason_of_report (kind : r.kind = .checkIn ∨ r.kind = .update) : closingReason r.kind = none := by
  rcases kind with kind | kind <;> rw [kind] <;> rfl

theorem seqAccepted_iff (e : Entry) (seq : BitVec 4) : seqAccepted e seq = true ↔
    e.confirmed = false ∨ (1 ≤ (seq - e.seq).toNat ∧ (seq - e.seq).toNat ≤ 7) := by
  simp only [seqAccepted, Bool.or_eq_true, Bool.not_eq_true', decide_eq_true_eq]

end Radio

end Sys2Proof.Machine
end

section
namespace Sys2Proof.Machine

/-! ## Radio frames and their route (R9, R12) -/

section Frame

variable {s : State} {r : Report} {cfg : ApproachConfig} {routes : RouteTable} {classes : Vector Int 7} {cap level : Nat}
  {w : Time × Time}

theorem State.applyReport_of_refused {why : RejectReason} (route : lookupRoute routes r.route r.approach = .error why) :
    s.applyReport r cfg routes classes = s.pushOutcome (rejectedRecord r s.time why (levelOf classes r.lateness)) := by
  unfold State.applyReport
  simp only [route]

theorem State.applyReport_of_absent (route : lookupRoute routes r.route r.approach = .ok cap)
    (absent : s.entryOf r.vehicle = none) : s.applyReport r cfg routes classes =
      s.createEntry r (min (levelOf classes r.lateness) cap) (radioWindow r cfg s.time) := by
  unfold State.applyReport
  simp only [route, absent]

theorem State.applyReport_of_live {i : EntryIx} {e : Entry} (route : lookupRoute routes r.route r.approach = .ok cap)
    (live : s.entryOf r.vehicle = some (i, e)) : s.applyReport r cfg routes classes =
      s.updateEntry i e r (min (levelOf classes r.lateness) cap) (radioWindow r cfg s.time) := by
  unfold State.applyReport
  simp only [route, live]

theorem State.createEntry_of_place {u : State} {i : EntryIx} (place : s.makePlace level = some (u, i)) :
    s.createEntry r level w = (u.setEntry i (some (createdByFrame r level w s.time))).cause := by
  unfold State.createEntry
  rw [place]

theorem State.createEntry_of_full (place : s.makePlace level = none) :
    s.createEntry r level w = s.pushOutcome (rejectedRecord r s.time .full level) := by
  unfold State.createEntry
  rw [place]

section Report

variable (report : r.kind = .checkIn ∨ r.kind = .update)

include report

theorem State.judgeReport_of_absent (absent : s.entryOf r.vehicle = none) :
    s.judgeReport r cfg routes classes = s.applyReport r cfg routes classes := by
  unfold State.judgeReport
  simp only [absent, closingReason_of_report report]

theorem State.judgeReport_of_live {i : EntryIx} {e : Entry} (live : s.entryOf r.vehicle = some (i, e)) :
    s.judgeReport r cfg routes classes = if seqAccepted e r.seq then s.applyReport r cfg routes classes else s := by
  unfold State.judgeReport
  simp only [live, closingReason_of_report report]

end Report

end Frame

/-- Settles O39: the source, the route, and the place of the newcomer. -/
theorem radioFramesCreateEntries : Obligations.RadioFramesCreateEntries := by
  intro s link r cfg routes classes released item
  have applies {t : State} (h : s.itemEnds.applyRadio link r cfg routes classes = t) :
      exec .radioFrameApplication s = .next t :=
    next_whenReleased released ((State.radioFrameApplication_of_radio item).trans h)
  refine ⟨fun off => applies (State.applyRadio_of_disabled off), fun on wrong => applies (State.applyRadio_of_source on wrong),
    fun on right kind absent => ?_⟩
  have reported {t : State} (h : s.itemEnds.applyReport r cfg routes classes = t) : exec .radioFrameApplication s = .next t :=
    applies ((State.applyRadio_of_judged on right).trans
      ((State.judgeReport_of_absent (s := s.itemEnds) kind (State.entryOf_of_absent absent)).trans h))
  refine ⟨fun j found barred => ?barred, fun missing strict => ?missing, fun cap served => ?served⟩
  case barred =>
    refine reported (State.applyReport_of_refused ?_)
    rw [lookupRoute_of_first found.1 found.2.1 found.2.2, barred]
    rfl
  case missing =>
    refine reported (State.applyReport_of_refused ?_)
    rw [lookupRoute_of_missing missing, strict]
    rfl
  case served =>
    have route : lookupRoute routes r.route r.approach = .ok cap := by
      rcases served with ⟨j, found, open_, rfl⟩ | ⟨missing, mode, rfl⟩
      · rw [lookupRoute_of_first found.1 found.2.1 found.2.2, if_pos open_]
      · rw [lookupRoute_of_missing missing, if_pos mode]
    have created {t : State} (h : s.itemEnds.createEntry r (min (levelOf classes r.lateness) cap)
        (radioWindow r cfg s.time) = t) : exec .radioFrameApplication s = .next t :=
      reported ((State.applyReport_of_absent (s := s.itemEnds) route (State.entryOf_of_absent absent)).trans h)
    refine ⟨fun i free lowest => ?_, fun full => ⟨fun none => ?_, fun some near => ?_⟩⟩
    · exact created (State.createEntry_of_place (State.makePlace_of_free free lowest))
    · exact created (State.createEntry_of_full (State.makePlace_of_refused full none))
    · obtain ⟨i, e, victim, evictable, before⟩ := State.victim_of_some (s := s.itemEnds) some near
      exact ⟨i, e, evictable, created (State.createEntry_of_place (State.makePlace_of_victim (s := s.itemEnds) full victim)), before⟩

/-! ## Frames and loops that close entries (R9, R17, R31) -/

section Closing

variable {s : State} {r : Report} {cfg : ApproachConfig} {routes : RouteTable} {classes : Vector Int 7} {why : CloseReason}
  (closes : closingReason r.kind = some why)

include closes

theorem State.judgeReport_of_dropped (absent : s.entryOf r.vehicle = none) : s.judgeReport r cfg routes classes = s := by
  unfold State.judgeReport
  simp only [absent, closes]

theorem State.judgeReport_of_closes {i : EntryIx} {e : Entry} (live : s.entryOf r.vehicle = some (i, e)) :
    s.judgeReport r cfg routes classes = if seqAccepted e r.seq then s.closeEntry i e why else s := by
  unfold State.judgeReport
  simp only [live, closes]

end Closing

theorem closingReason_eq {k : FrameKind} (kind : k = .checkOut ∨ k = .cancel) :
    closingReason k = some (if k = .checkOut then .servedRadio else .cancelled) := by
  rcases kind with rfl | rfl <;> rfl

/-- The live entries with an approach, in index order (R17). -/
def State.onApproach (s : State) (a : Approach) : List (EntryIx × Entry) :=
  s.liveEntries.filter fun x => decide (x.2.approach = a)

theorem State.mem_onApproach (s : State) (a : Approach) (x : EntryIx × Entry) :
    x ∈ s.onApproach a ↔ s.table[x.1] = some x.2 ∧ x.2.approach = a := by
  rw [State.onApproach, List.mem_filter, decide_eq_true_iff, ← s.mem_liveEntries]

theorem State.loopItem_of_loop {s : State} {a : Approach} (item : s.intake.item = some (.loop a)) : s.loopItem =
    match earliestWindow (s.itemEnds.onApproach a) with
    | some (i, e) => s.itemEnds.closeEntry i e .servedLoop
    | none => s.itemEnds := by
  unfold State.loopItem
  rw [item]
  rfl

theorem State.loopItem_of_other {s : State} (other : ∀ a, s.intake.item ≠ some (.loop a)) : s.loopItem = s := by
  unfold State.loopItem
  split
  · rename_i item
    exact absurd item (other _)
  · rfl

/-- Settles O41: the entry of the vehicle, and the earliest one of the loop's approach. -/
theorem checkOutsCloseEntries : Obligations.CheckOutsCloseEntries := by
  intro s released
  refine ⟨fun link r cfg routes classes item on right kind => ?radio, fun a item => ?loop,
    fun other => next_whenReleased released (State.radioFrameApplication_of_other other),
    fun other => next_whenReleased released (State.loopItem_of_other other)⟩
  case radio =>
    have judged {t : State} (h : s.itemEnds.judgeReport r cfg routes classes = t) : exec .radioFrameApplication s = .next t :=
      next_whenReleased released ((State.radioFrameApplication_of_radio item).trans
        ((State.applyRadio_of_judged on right).trans h))
    refine ⟨fun absent => judged (State.judgeReport_of_dropped (closingReason_eq kind) (State.entryOf_of_absent absent)),
      fun i e distinct live holds => ?_⟩
    have found : s.itemEnds.entryOf r.vehicle = some (i, e) := holds ▸ State.entryOf_of_live (s := s.itemEnds) distinct live
    have closes := State.judgeReport_of_closes (cfg := cfg) (routes := routes) (classes := classes)
      (closingReason_eq kind) found
    exact ⟨fun accepted => judged (closes.trans (if_pos ((seqAccepted_iff e r.seq).mpr accepted))),
      fun ignored => judged (closes.trans (if_neg (mt (seqAccepted_iff e r.seq).mp ignored)))⟩
  case loop =>
    have run := State.loopItem_of_loop item
    refine ⟨fun none => next_whenReleased released (run.trans ?_), fun ⟨k, f, live, there⟩ near => ?_⟩
    · have empty : s.itemEnds.onApproach a = [] := List.eq_nil_iff_forall_not_mem.mpr fun x mem =>
        none x.1 x.2 ((State.mem_onApproach _ a x).mp mem).1 ((State.mem_onApproach _ a x).mp mem).2
      rw [empty]
      rfl
    · have inhabited := List.ne_nil_of_mem ((s.itemEnds.mem_onApproach a (k, f)).mpr ⟨live, there⟩)
      have close : Near Entry.windowE s.time (s.itemEnds.onApproach a) := fun x hx y hy => by
        have := near x.1 x.2 ((State.mem_onApproach _ a x).mp hx).1
        have := near y.1 y.2 ((State.mem_onApproach _ a y).mp hy).1
        omega
      obtain ⟨⟨i, e⟩, found⟩ := Option.ne_none_iff_exists'.mp
        (mt (earliestBy_eq_none_iff (key := Entry.windowE) _).mp inhabited)
      obtain ⟨mem, before⟩ := earliestBy_spec (s.itemEnds.liveEntries_apart.sublist List.filter_sublist) close found
      obtain ⟨standing, here⟩ := (State.mem_onApproach _ a (i, e)).mp mem
      refine ⟨i, e, standing, here, next_whenReleased released (run.trans ?_), fun j g other same apart =>
        before (j, g) ((State.mem_onApproach _ a (j, g)).mpr ⟨other, same⟩) fun h => apart (congrArg Prod.fst h)⟩
      rw [earliestWindow_eq_earliestBy, found]
      rfl

end Sys2Proof.Machine
end

section
namespace Sys2Proof.Machine

/-! ## Updates of live entries (R24 to R26) -/

section Update

variable {s : State} {i : EntryIx} {e : Entry} {r : Report} {level : Nat} {w : Time × Time}

theorem State.reportLevel_of_free (free : ∀ c, e.state ≠ .granted c) : s.reportLevel e = s := by
  unfold State.reportLevel
  split
  · rename_i c granted
    exact absurd granted (free c)
  · rfl

theorem State.reportLevel_of_granted {c : ChannelIx} {l : LiveChannel} (granted : e.state = .granted c)
    (live : s.channels[c].live = some l) : s.reportLevel e =
      s.setChannel c { s.channels[c] with live := some { l with level := s.ridersLevel l.riders } } := by
  unfold State.reportLevel
  simp only [granted, live]

/-- An update on the entry's own approach writes its fields and reports its level (R24). -/
theorem State.updateEntry_of_staying (stays : r.approach = e.approach) : s.updateEntry i e r level w =
    ((s.setEntry i (some (withFrame (beforeFrame e false level) r level w s.time))).reportLevel
      (withFrame (beforeFrame e false level) r level w s.time)).cause := by
  unfold State.updateEntry
  simp only [stays, ne_eq, not_true_eq_false, decide_false, Bool.false_eq_true, if_false]
  rfl

/-- A move settles the entry once it has left its channel, and its causes follow (R26). -/
theorem State.updateEntry_of_moving (moves : r.approach ≠ e.approach) : s.updateEntry i e r level w =
    (((s.shed i e).1.setEntry i (some (withFrame (Machine.settled e) r level w s.time))).causeIf (s.shed i e).2).cause := by
  unfold State.updateEntry
  simp only [moves, ne_eq, not_false_eq_true, decide_true, if_true, beforeFrame, Bool.true_or]
  rw [State.reportLevel_of_free (e := withFrame (Machine.settled e) r level w s.time) (fun _ h => nomatch h)]

theorem beforeFrame_of_kept (kept : e.state ≠ .pending ∨ 1 ≤ level) : beforeFrame e false level = e := by
  refine if_neg ?_
  rw [Bool.false_or, Bool.and_eq_true, decide_eq_true_iff, decide_eq_true_iff]
  rintro ⟨pending, zero⟩
  exact kept.elim (· pending) (by omega)

theorem beforeFrame_of_demoted (pending : e.state = .pending) (zero : level = 0) :
    beforeFrame e false level = Machine.settled e := by
  refine if_pos ?_
  rw [pending, zero]
  rfl

end Update

/-- A refund does not depend on intake's item. -/
theorem State.applyRefund_item (s : State) (item : Option Item) (l : LiveChannel) (n : Nat) :
    ({ s with intake := { s.intake with item } }.applyRefund l n).account = (s.applyRefund l n).account := by
  unfold State.applyRefund
  cases s.plans.active with
  | none => rfl
  | some p => rfl

/-- Settles O40: the sequence test, the route, and the update in place or with a move. -/
theorem radioFramesUpdateEntries : Obligations.RadioFramesUpdateEntries := by
  intro s link r cfg routes classes i e released item on right kind distinct live holds idle run accepted count
  have found : idle.entryOf r.vehicle = some (i, e) := holds ▸ State.entryOf_of_live (s := idle) distinct live
  have judged : s.radioFrameApplication = if seqAccepted e r.seq then idle.applyReport r cfg routes classes else idle :=
    (State.radioFrameApplication_of_radio item).trans ((State.applyRadio_of_judged on right).trans
      (State.judgeReport_of_live (s := idle) kind found))
  have reported {t : State} (h : accepted) (g : idle.applyReport r cfg routes classes = t) : run = .next t :=
    next_whenReleased released (judged.trans ((if_pos ((seqAccepted_iff e r.seq).mpr h)).trans g))
  refine ⟨fun ignored => next_whenReleased released (judged.trans (if_neg (mt (seqAccepted_iff e r.seq).mp ignored))),
    fun why passes refused => reported passes (State.applyReport_of_refused refused), fun cap passes route => ?_⟩
  intro level updated
  have updates {t : State} (h : idle.updateEntry i e r level (radioWindow r cfg s.time) = t) : run = .next t :=
    reported passes ((State.applyReport_of_live (s := idle) route found).trans h)
  refine ⟨fun stays => ⟨fun keeps => ?tracking, fun pending zero => ?demoted, fun c l granted carries => ?granted⟩,
    fun moves => ⟨fun free => ?alone, fun c l granted carries => ⟨fun rest => ?rest, fun last => ?last⟩⟩⟩
  case tracking =>
    refine updates ((State.updateEntry_of_staying stays).trans ?_)
    have kept : e.state ≠ .pending ∨ 1 ≤ level := keeps.imp (fun h g => nomatch h.symm.trans g) And.right
    rw [beforeFrame_of_kept kept, State.reportLevel_of_free]
    · rfl
    · intro c granted
      rcases keeps with h | h
      · exact nomatch h.symm.trans granted
      · exact nomatch h.1.symm.trans granted
  case demoted =>
    refine updates ((State.updateEntry_of_staying stays).trans ?_)
    rw [beforeFrame_of_demoted pending zero, State.reportLevel_of_free (e := withFrame (Machine.settled e) r level _ _) (fun _ h => nomatch h)]
    rfl
  case granted =>
    refine ⟨_, updates ((State.updateEntry_of_staying stays).trans ?_), State.ridersLevel_isHighest _ l.riders⟩
    rw [beforeFrame_of_kept (.inl (by rw [granted]; nofun))]
    exact congrArg State.cause (State.reportLevel_of_granted (c := c) (l := l) granted carries)
  case alone =>
    refine updates ((State.updateEntry_of_moving moves).trans ?_)
    rw [State.shed_of_ridesNone (s := idle) (e := e) (fun c h => absurd h (free c))]
    rfl
  case rest =>
    refine ⟨_, s.ridersLevel_isHighest _, updates ((State.updateEntry_of_moving moves).trans ?_)⟩
    rw [State.shed_of_rest (s := idle) granted carries i rest]
    rfl
  case last =>
    have shed := State.shed_of_last (s := idle) granted carries i last
    have table : (idle.closeChannel c { l with riders := [] } .released).table = s.table := vector_ext fun j => by
      rw [State.closeChannel_table]
      exact if_neg List.not_mem_nil
    refine ⟨(idle.closeChannel c { l with riders := [] } .released).setEntry i (some (updated .tracking none)),
      updates ((State.updateEntry_of_moving moves).trans ?_), ?_, ?_, fun j apart => ?_, ?_, fun d apart => ?_, ?_⟩
    · rw [shed]
      rfl
    · rw [State.closeChannel_frame]
      rfl
    · exact put_same ..
    · exact (put_other _ _ apart).trans (by rw [table])
    · exact (congrArg (·[c]) (State.closeChannel_channels ..)).trans (put_same ..)
    · exact (congrArg (·[d]) (State.closeChannel_channels ..)).trans (put_other _ _ apart)
    · refine (State.closeChannel_account idle c _ _).trans ?_
      rw [State.endChannel_of_live carries, State.cause_frame]
      simp only []
      rw [State.closeChannel_account]
      exact State.applyRefund_item s none _ _

/-! ## Received handoffs (R149) -/

theorem State.handoffJudgement_of_handoff {s : State} {p : PortId} {m : HandoffMsg} {sender : Byte} {broken : Bool}
    (item : s.intake.item = some (.handoff p m sender broken)) : s.handoffJudgement =
      (s.itemEnds.judgeHandoff p m sender).1.enqueueAck p m.id (s.itemEnds.judgeHandoff p m sender).2 broken := by
  unfold State.handoffJudgement
  rw [item]

section Ack

variable {s : State} {p : PortId} {id : Byte} {result : AckResult} {broken : Bool}

/-- The ACK follows unless a break has come, the port is OFF or four messages are queued (R149). -/
theorem State.enqueueAck_eq {x : CorridorPort} (port : s.link p = x) : s.enqueueAck p id result broken =
    if broken = true ∨ x.settings.role = .off ∨ 4 ≤ x.outgoing.length then s
    else s.setLink p { x with outgoing := x.outgoing ++ [.ack id result] } := by
  unfold State.enqueueAck
  simp only [port, Bool.or_eq_true, decide_eq_true_eq, or_assoc]
  rfl

end Ack

theorem entrySideOf_eq (p : PortId) : entrySideOf p = if p = .linkA then .fromA else .fromB := by
  cases p <;> rfl

theorem allApproaches_eq_finRange : allApproaches = List.finRange 4 := by decide

section Handoff

variable {s : State} {p : PortId} {m : HandoffMsg} {sender : Byte} {a : Approach} {cap level : Nat}

/-- An approach that takes handoffs from a port (R149, step 1). -/
def State.TakesFrom (s : State) (p : PortId) (a : Approach) : Prop :=
  s.approaches[a].enabled = true ∧ s.approaches[a].entrySide = (if p = .linkA then .fromA else .fromB)

theorem State.takesFrom_iff (s : State) (p : PortId) (a : Approach) : s.TakesFrom p a ↔
    (s.approaches[a].enabled && decide (s.approaches[a].entrySide = entrySideOf p)) = true := by
  rw [Bool.and_eq_true, decide_eq_true_iff, entrySideOf_eq]
  exact Iff.rfl

theorem State.handoffApproach_of_none (none : ∀ a, ¬ s.TakesFrom p a) : s.handoffApproach p = Option.none :=
  List.find?_eq_none.mpr fun a _ => mt (s.takesFrom_iff p a).mpr (none a)

theorem State.handoffApproach_of_first (serves : s.TakesFrom p a) (first : ∀ b, b < a → ¬ s.TakesFrom p b) :
    s.handoffApproach p = some a := by
  rw [State.handoffApproach, allApproaches_eq_finRange, List.find?_eq_some_iff_getElem]
  refine ⟨(s.takesFrom_iff p a).mp serves, a.val, by simp, by simp, fun j hj => ?_⟩
  have earlier := mt (s.takesFrom_iff p _).mpr (first ⟨j, by omega⟩ hj)
  rw [List.getElem_finRange, Bool.not_eq_true']
  exact Bool.eq_false_of_not_eq_true earlier

theorem State.judgeHandoff_of_no_approach (none : s.handoffApproach p = Option.none) :
    s.judgeHandoff p m sender = (s, .noApproach) := by
  unfold State.judgeHandoff
  rw [none]

section Served

variable (approach : s.handoffApproach p = some a)

include approach

theorem State.judgeHandoff_of_refused {why : RejectReason} (route : lookupRoute s.routes m.route a = .error why) :
    s.judgeHandoff p m sender = (s, .route) := by
  unfold State.judgeHandoff
  simp only [approach, route]

theorem State.judgeHandoff_of_duplicate (route : lookupRoute s.routes m.route a = .ok cap) {x : EntryIx × Entry}
    (held : s.entryOf m.vehicle = some x) : s.judgeHandoff p m sender = (s, .duplicate) := by
  unfold State.judgeHandoff
  simp only [approach, route, held]

theorem State.judgeHandoff_of_absent (route : lookupRoute s.routes m.route a = .ok cap)
    (absent : s.entryOf m.vehicle = none) : s.judgeHandoff p m sender =
      s.createHandoff m sender a (min (levelOf s.classes (clampLateness m.lateness)) cap) := by
  unfold State.judgeHandoff
  simp only [approach, route, absent]

end Served

theorem State.createHandoff_of_place {u : State} {i : EntryIx} (place : s.makePlace level = some (u, i)) :
    s.createHandoff m sender a level =
      ((u.setEntry i (some (createdByHandoff m sender a level s.time))).cause, .accepted) := by
  unfold State.createHandoff
  rw [place]

theorem State.createHandoff_of_full (place : s.makePlace level = none) :
    s.createHandoff m sender a level = (s, .full) := by
  unfold State.createHandoff
  rw [place]

/-- A creation leaves the ports alone. -/
theorem State.created_link (u : State) (i : EntryIx) (x : Option Entry) : (State.cause (u.setEntry i x)).link p = u.link p := by
  rw [State.cause_frame]
  cases p <;> rfl

/-- An eviction serves nobody, so it leaves the ports alone (R145). -/
theorem State.evicted_link (s : State) (i : EntryIx) (e : Entry) : (s.closeEntry i e .evicted).link p = s.link p :=
  (State.closeEntry_link ..).trans ((State.closedOut_of_unserved (r := .evicted) Bool.false_ne_true).2 p)

end Handoff

/-- Settles O42: the approach, the route, the vehicle and the place, each with its result and its ACK. -/
theorem handoffsAreJudged : Obligations.HandoffsAreJudged := by
  intro s p m sender broken released item idle acked run serves
  have judged {u : State} {result : AckResult} (h : idle.judgeHandoff p m sender = (u, result))
      (port : u.link p = s.link p) : run = .next (acked u result) := by
    refine next_whenReleased released ((State.handoffJudgement_of_handoff item).trans ?_)
    rw [show s.itemEnds.judgeHandoff p m sender = (u, result) from h]
    exact State.enqueueAck_eq port
  have same : idle.link p = s.link p := by cases p <;> rfl
  refine ⟨fun none => judged (State.judgeHandoff_of_no_approach (State.handoffApproach_of_none (s := idle) none)) same,
    fun a here first => ?_⟩
  have approach : idle.handoffApproach p = some a := State.handoffApproach_of_first (s := idle) here first
  refine ⟨fun why route => judged (State.judgeHandoff_of_refused (s := idle) approach route) same, fun cap route =>
    ⟨fun ⟨i, e, live, holds⟩ => ?duplicate, fun absent => ?absent⟩⟩
  case duplicate =>
    obtain ⟨x, found⟩ := State.entryOf_isSome (s := idle) live
    rw [holds] at found
    exact judged (State.judgeHandoff_of_duplicate (s := idle) approach route found) same
  case absent =>
    intro late level w created
    have creates {u : State} {result : AckResult} (h : idle.createHandoff m sender a level = (u, result))
        (port : u.link p = s.link p) : run = .next (acked u result) :=
      judged ((State.judgeHandoff_of_absent (s := idle) approach route (State.entryOf_of_absent absent)).trans h) port
    refine ⟨fun i free lowest => ?_, fun full => ⟨fun none => ?_, fun some near => ?_⟩⟩
    · exact creates (State.createHandoff_of_place (State.makePlace_of_free (s := idle) free lowest))
        ((State.created_link ..).trans same)
    · exact creates (State.createHandoff_of_full (State.makePlace_of_refused (s := idle) full none)) same
    · obtain ⟨i, e, victim, evictable, before⟩ := State.victim_of_some (s := idle) some near
      exact ⟨i, e, evictable, creates (State.createHandoff_of_place (State.makePlace_of_victim (s := idle) full victim))
        ((State.created_link ..).trans ((State.evicted_link ..).trans same)), before⟩

end Sys2Proof.Machine
end

end

section
/-! PROOFS. The phase tracker: last deciseconds, adoption, boundaries, departures, onsets and drops (O45 to O47). -/

section
namespace Sys2Proof.Machine

/-! ## The last deciseconds that an event meets (R107, R126) -/

section Settle

variable {s : State} {c : ChannelIx} {test : LiveChannel → Bool}

/-- A visit that writes its own channel alone: over a run of channels each is visited once, as the run began it. -/
theorem foldl_channel {f : State → ChannelIx → State} (other : ∀ s c d, d ≠ c → (f s c).channels[d] = s.channels[d])
    (time : ∀ s c, (f s c).time = s.time) {cs : List ChannelIx} (apart : cs.Nodup) (s : State) {d : ChannelIx} (mem : d ∈ cs) :
    ∃ u : State, u.channels[d] = s.channels[d] ∧ u.time = s.time ∧ (cs.foldl f s).channels[d] = (f u d).channels[d] := by
  have absent (cs : List ChannelIx) (h : d ∉ cs) (u : State) : (cs.foldl f u).channels[d] = u.channels[d] := by
    induction cs generalizing u with
    | nil => rfl
    | cons c cs ih =>
      obtain ⟨ne, rest⟩ := not_or.mp (mt List.mem_cons.mpr h)
      rw [List.foldl_cons, ih rest, other u c d ne]
  induction cs generalizing s with
  | nil => cases mem
  | cons c cs ih =>
    obtain ⟨first, apart⟩ := List.nodup_cons.mp apart
    by_cases same : d = c
    · subst same
      exact ⟨s, rfl, rfl, absent cs first (f s d)⟩
    · obtain ⟨u, kept, clock, run⟩ := ih apart (f s c) ((List.mem_cons.mp mem).resolve_left same)
      exact ⟨u, kept.trans (other s c d same), clock.trans (time s c), run⟩

theorem State.endChannel_channels_other (s : State) (c : ChannelIx) (r : EndReason) {d : ChannelIx} (apart : d ≠ c) :
    (s.endChannel c r).channels[d] = s.channels[d] := by
  cases live : s.channels[c].live with
  | none => rw [State.endChannel_of_idle live]
  | some l =>
    rw [State.endChannel_channels, live]
    exact put_other _ _ apart

theorem State.endChannel_channels_same (live : s.channels[c].live ≠ none) (r : EndReason) :
    (s.endChannel c r).channels[c] = { live := none, lastEnd := some (r, s.time) } := by
  obtain ⟨l, live⟩ := Option.ne_none_iff_exists'.mp live
  rw [State.endChannel_channels, live]
  exact put_same ..

/-- The channel is in the last decisecond of an extension that meets a test. -/
def Channel.Due (x : Channel) (test : LiveChannel → Bool) : Prop := x.Meets fun l => countedOut l && test l

theorem State.settleCount_of_not_due (h : ¬ s.channels[c].Due test) (base : Nat) : State.settleCount base test s c = s := by
  unfold State.settleCount
  cases live : s.channels[c].live with
  | none => rfl
  | some l => exact if_neg fun due => h ⟨l, live, due⟩

theorem State.settleCount_of_due {l : LiveChannel} (live : s.channels[c].live = some l)
    (due : (countedOut l && test l) = true) (base : Nat) : State.settleCount base test s c =
      if Config.countFirst (base + c.val) then s.endChannel c .complete
      else s.setChannel c { s.channels[c] with live := some (uncounted l) } := by
  unfold State.settleCount
  simp only [live, due, if_true]

theorem State.settleCount_channels_other (base : Nat) (s : State) {d : ChannelIx} (apart : d ≠ c) :
    (State.settleCount base test s c).channels[d] = s.channels[d] := by
  by_cases h : s.channels[c].Due test
  · obtain ⟨l, live, due⟩ := h
    rw [State.settleCount_of_due live due]
    split
    · exact s.endChannel_channels_other c _ apart
    · exact put_other _ _ apart
  · rw [State.settleCount_of_not_due h]

theorem State.settleCount_time (base : Nat) (s : State) (c : ChannelIx) : (State.settleCount base test s c).time = s.time := by
  rw [State.settleCount_frame base test s c]

/-- What a settlement makes of a channel: one not in its last decisecond stays as it is; one in it ends COMPLETE or goes on
uncounted (R107; assumption 10). -/
theorem State.settleCounts_channels (s : State) (test : LiveChannel → Bool) (c : ChannelIx) :
    ((s.settleCounts test).channels[c] = s.channels[c] ∧ ¬ s.channels[c].Due test) ∨
      ∃ l, s.channels[c].live = some l ∧ (countedOut l && test l) = true ∧
        ((s.settleCounts test).channels[c] = { live := none, lastEnd := some (.complete, s.time) } ∨
          (s.settleCounts test).channels[c] = { s.channels[c] with live := some (uncounted l) }) := by
  by_cases any : ((liveChannels s.channels).any fun c => countedOut c.2 && test c.2) = true
  · obtain ⟨u, same, time, run⟩ := foldl_channel (f := State.settleCount s.freeIndex test)
      (fun u c d apart => u.settleCount_channels_other s.freeIndex apart) (fun u c => u.settleCount_time s.freeIndex c)
      allChannels_nodup { s with freeIndex := s.freeIndex + 4 } (mem_allChannels c)
    have settled : (s.settleCounts test).channels[c] = (State.settleCount s.freeIndex test u c).channels[c] := by
      rw [State.settleCounts, if_pos any, run]
    by_cases h : s.channels[c].Due test
    · obtain ⟨l, live, due⟩ := h
      have live' : u.channels[c].live = some l := (congrArg Channel.live same).trans live
      refine .inr ⟨l, live, due, ?_⟩
      rw [settled, State.settleCount_of_due live' due]
      split
      · rw [State.endChannel_channels_same (by rw [live']; exact Option.some_ne_none l), time]
        exact .inl rfl
      · refine .inr ((put_same ..).trans ?_)
        rw [same]
    · have h' : ¬ u.channels[c].Due test := by rwa [same]
      refine .inl ⟨?_, h⟩
      rw [settled, State.settleCount_of_not_due h', same]
  · refine .inl ⟨by rw [State.settleCounts, if_neg any], fun ⟨l, live, due⟩ => any ?_⟩
    exact (liveChannels_any_iff s.channels fun x => countedOut x.2 && test x.2).mpr ⟨c, l, live, due⟩

end Settle

end Sys2Proof.Machine
end

section
namespace Sys2Proof.Machine

/-! ## What the tracker's events make of the channels -/

theorem uncounted_slot (l : LiveChannel) : (uncounted l).slot = l.slot := by
  unfold uncounted
  split <;> rfl

theorem isExtend_uncounted (l : LiveChannel) : isExtend (uncounted l) = isExtend l := by
  unfold uncounted isExtend
  cases l.action <;> rfl

section Ends

variable {s : State} {c : ChannelIx} {l : LiveChannel} {test test' : LiveChannel → Bool}
  {reason : ChannelIx → EndReason}

/-- A channel that is ended after the settlement of the last deciseconds, in a state with the settled channels, ends for
the event's reason, or COMPLETE where its last decisecond was being counted. -/
theorem State.endsWith_of_settled {w : State} (channels : w.channels = (s.settleCounts test).channels) (time : w.time = s.time)
    (live : s.channels[c].live = some l) (covers : test l = true) (meets : test' l = true)
    (uncounts : test' (uncounted l) = true) :
    s.EndsWith (w.endingThose test' reason) c l (reason c) := by
  have same : w.channels[c] = (s.settleCounts test).channels[c] := by rw [channels]
  have ends {m : LiveChannel} (live : w.channels[c].live = some m) (meets : test' m = true) :
      (w.endingThose test' reason).channels[c] = { live := none, lastEnd := some (reason c, s.time) } := by
    rw [State.endingThose_channels_same w test' reason ⟨m, live, meets⟩, time]
  rcases s.settleCounts_channels test c with ⟨kept, notDue⟩ | ⟨m, live', due, completes | goes⟩
  · have counts : ¬ countedOut l = true := fun counts => notDue ⟨l, live, Bool.and_eq_true_iff.mpr ⟨counts, covers⟩⟩
    rw [State.EndsWith, if_neg counts]
    exact ends ((congrArg Channel.live (same.trans kept)).trans live) meets
  all_goals
    cases live.symm.trans live'
    rw [State.EndsWith, if_pos (Bool.and_eq_true_iff.mp due).1]
  · refine .inr ?_
    rw [State.endingThose_channels_kept, same, completes]
    rintro ⟨m, live, _⟩
    rw [same, completes] at live
    exact nomatch live
  · exact .inl (ends ((congrArg Channel.live (same.trans goes)).trans rfl) uncounts)

/-- A channel that is IDLE stays as it is. -/
theorem State.settled_idle {w : State} (channels : w.channels = (s.settleCounts test).channels)
    (idle : s.channels[c].live = none) (test' : LiveChannel → Bool) :
    (w.endingThose test' reason).channels[c] = s.channels[c] := by
  have same : w.channels[c] = (s.settleCounts test).channels[c] := by rw [channels]
  rcases s.settleCounts_channels test c with ⟨kept, _⟩ | ⟨m, live, _⟩
  · rw [State.endingThose_channels_kept, same, kept]
    rintro ⟨m, live, _⟩
    rw [same, kept, idle] at live
    exact nomatch live
  · exact nomatch idle.symm.trans live

end Ends

/-! ## Entries that a pass would list -/

/-- Some entry is a candidate besides the riders (R82). -/
def State.HasCandidate (s : State) : Prop :=
  ∃ (i : EntryIx) (e : Entry), s.table[i] = some e ∧ (∀ c, e.state ≠ .granted c) ∧ 1 ≤ e.level ∧
    s.approaches[e.approach].enabled = true

theorem State.HasCandidate.endChannel {s : State} (h : s.HasCandidate) (c : ChannelIx) (r : EndReason) :
    (s.endChannel c r).HasCandidate := by
  obtain ⟨i, e, live, free, level, enabled⟩ := h
  have approaches : (s.endChannel c r).approaches = s.approaches := by rw [s.endChannel_frame c r]
  cases ch : s.channels[c].live with
  | none =>
    rw [State.endChannel_of_idle ch]
    exact ⟨i, e, live, free, level, enabled⟩
  | some l =>
    by_cases rides : i ∈ l.riders
    · refine ⟨i, e.endedWith r, ?_, nofun, level, by rw [approaches]; exact enabled⟩
      rw [s.endChannel_table ch, if_pos rides, live]
      rfl
    · refine ⟨i, e, ?_, free, level, by rw [approaches]; exact enabled⟩
      rw [s.endChannel_table ch, if_neg rides, live]

theorem State.HasCandidate.endingThose {s : State} (h : s.HasCandidate) (test : LiveChannel → Bool)
    (reason : ChannelIx → EndReason) : (s.endingThose test reason).HasCandidate := by
  rw [State.endingThose_eq_foldl]
  refine List.foldlRecOn allChannels _ h fun u hu c _ => ?_
  by_cases meets : u.channels[c].Meets test
  · rw [State.endIf_of_meets meets]
    exact hu.endChannel c _
  · rwa [State.endIf_of_not_meets meets]

theorem State.HasCandidate.settleCounts {s : State} (h : s.HasCandidate) (test : LiveChannel → Bool) :
    (s.settleCounts test).HasCandidate := by
  unfold State.settleCounts
  split
  · refine List.foldlRecOn (motive := State.HasCandidate) allChannels _ h fun u hu c _ => ?_
    by_cases due : u.channels[c].Due test
    · obtain ⟨l, live, due⟩ := due
      rw [State.settleCount_of_due live due]
      split
      · exact hu.endChannel c _
      · exact hu
    · rwa [State.settleCount_of_not_due due]
  · exact h

/-- A cause with the running condition and a candidate finds or starts a pass (R80). -/
theorem State.cause_passing {s : State} (h : s.HasCandidate) (runs : s.RunningCondition) : s.cause.engine.pass ≠ none := by
  rcases s.cause_cases with ⟨passing, eq⟩ | ⟨_, _, eq⟩ | ⟨_, barred, _⟩
  · rw [eq]
    exact passing
  · obtain ⟨i, e, live, free, level, enabled⟩ := h
    have waits : e.state = .tracking ∨ e.state = .pending := by
      cases state : e.state with
      | tracking => exact .inl rfl
      | pending => exact .inr rfl
      | granted c => exact absurd state (free c)
    have listed := (s.mem_candidates i e.vehicle).mpr ⟨e, live, rfl, (s.isCandidate_iff i e).mpr (.inl ⟨waits, level, enabled⟩)⟩
    rw [eq, State.startPass_eq, if_neg (List.ne_nil_of_mem listed)]
    exact Option.some_ne_none _
  · exact absurd runs barred

/-! ## A boundary or an adoption observed in SETTLING (R163) -/

theorem State.observeBoundary_of_settling {s : State} {r : ContainReason} {x : Time}
    (settling : s.containment.state = .settling r x) : s.observeBoundary = { s with
      containment := { s.containment with state := .held r }
      port := { s.port with events := { s.port.events with cnt := true } } } := by
  unfold State.observeBoundary
  simp only [settling]
  rfl

theorem State.observeBoundary_of_other {s : State} (other : ∀ r x, s.containment.state ≠ .settling r x) :
    s.observeBoundary = s := by
  unfold State.observeBoundary
  split
  · rename_i settling
    exact absurd settling (other _ _)
  · rfl

/-- What observing a boundary changes is containment and CNT. -/
theorem State.observeBoundary_cases (s : State) :
    (∃ r x, s.containment.state = .settling r x) ∨ ∀ r x, s.containment.state ≠ .settling r x := by
  by_cases h : ∃ r x, s.containment.state = .settling r x
  · exact .inl h
  · exact .inr fun r x settling => h ⟨r, x, settling⟩

/-! ## Adoption (R56) -/

/-- The state whose channels an adoption ends: the last deciseconds settled, the plan and the tracker written. -/
def State.replanned (s : State) (p : Plan) (t0 : Time) : State :=
  { s.settleCounts (fun _ => true) with
    plans := { active := some p, staged := none }
    tracker := .inStep { cur := 0, period := .green, onset := t0, lastBoundary := t0 } }

/-- The state of an adoption whose channels have ended, in its new cycle. -/
def State.adopted (s : State) (p : Plan) (t0 : Time) : State :=
  let w := (s.replanned p t0).endingThose (fun _ => true) (fun _ => .planChange)
  { w with account := accountAdoption w.account w.policy }

theorem State.adopt_eq (s : State) (p : Plan) (t0 : Time) :
    s.adopt p t0 = (s.adopted p t0).cause.observeBoundary.raise .plan := by
  have ends : (s.replanned p t0).endAll .planChange = (s.replanned p t0).endingThose (fun _ => true) (fun _ => .planChange) :=
    rfl
  unfold State.adopted
  rw [← ends]
  unfold State.adopt State.replanned
  generalize s.settleCounts (fun _ => true) = v
  rfl

end Sys2Proof.Machine
end

section
namespace Sys2Proof.Machine

/-! ## Ends that refund nothing (R114) -/

section Unrefunded

variable {r : EndReason} (whole : r = .complete ∨ r = .planChange)

include whole

theorem State.endChannel_account_of_whole (s : State) (c : ChannelIx) : (s.endChannel c r).account = s.account := by
  cases live : s.channels[c].live with
  | none => rw [State.endChannel_of_idle live]
  | some l =>
    rw [State.endChannel_of_live live, State.cause_frame]
    refine (s.closeChannel_account c l r).trans ?_
    rw [refundAmount_eq_zero (.inr whole), State.applyRefund_zero]

theorem State.endingThose_account_of_whole (s : State) (test : LiveChannel → Bool) :
    (s.endingThose test fun _ => r).account = s.account := by
  rw [State.endingThose_eq_foldl]
  refine List.foldlRecOn (motive := fun u : State => u.account = s.account) allChannels _ rfl fun u hu c _ => ?_
  by_cases meets : u.channels[c].Meets test
  · rw [State.endIf_of_meets meets, State.endChannel_account_of_whole whole, hu]
  · rwa [State.endIf_of_not_meets meets]

end Unrefunded

theorem State.settleCounts_account (s : State) (test : LiveChannel → Bool) : (s.settleCounts test).account = s.account := by
  unfold State.settleCounts
  split
  · refine List.foldlRecOn (motive := fun u : State => u.account = s.account) allChannels _ rfl fun u hu c _ => ?_
    by_cases due : u.channels[c].Due test
    · obtain ⟨l, live, due⟩ := due
      rw [State.settleCount_of_due live due]
      split
      · rw [State.endChannel_account_of_whole (.inl rfl), hu]
      · exact hu
    · rwa [State.settleCount_of_not_due due]
  · rfl

/-! ## Adoption (R56) -/

section Adoption

variable (s : State) (p : Plan) (t0 : Time)

theorem State.replanned_frame : s.replanned p t0 = { s with
    account := (s.replanned p t0).account, table := (s.replanned p t0).table, channels := (s.replanned p t0).channels
    engine := (s.replanned p t0).engine, freeIndex := (s.replanned p t0).freeIndex
    plans := { active := some p, staged := none }
    tracker := .inStep { cur := 0, period := .green, onset := t0, lastBoundary := t0 } } := by
  have settled := s.settleCounts_frame fun _ => true
  unfold State.replanned
  generalize s.settleCounts (fun _ => true) = v at *
  rw [settled]

theorem State.replanned_account : (s.replanned p t0).account = s.account := s.settleCounts_account _

theorem State.adopted_account : (s.adopted p t0).account = accountAdoption s.account s.policy := by
  have frame := (s.replanned p t0).endingThose_frame (fun _ => true) (fun _ => .planChange)
  have kept := (s.replanned p t0).endingThose_account_of_whole (.inr rfl) fun _ => true
  have policy : ((s.replanned p t0).endingThose (fun _ => true) fun _ => .planChange).policy = s.policy := by
    rw [frame, s.replanned_frame]
  unfold State.adopted
  simp only []
  rw [kept, policy, s.replanned_account]

theorem State.adopted_frame : s.adopted p t0 = { s.replanned p t0 with
    account := (s.adopted p t0).account, table := (s.adopted p t0).table, channels := (s.adopted p t0).channels
    engine := (s.adopted p t0).engine } := by
  have frame := (s.replanned p t0).endingThose_frame (fun _ => true) (fun _ => .planChange)
  unfold State.adopted
  simp only []
  generalize (s.replanned p t0).endingThose (fun _ => true) (fun _ => .planChange) = w at *
  rw [frame]

theorem State.adopted_eq : s.adopted p t0 = { (s.replanned p t0).endingThose (fun _ => true) (fun _ => .planChange) with
    account := accountAdoption s.account s.policy } := by
  rw [← s.adopted_account p t0]
  unfold State.adopted
  generalize (s.replanned p t0).endingThose (fun _ => true) (fun _ => .planChange) = w
  rfl

theorem State.adopted_channels : (s.adopted p t0).channels =
    ((s.replanned p t0).endingThose (fun _ => true) fun _ => .planChange).channels := by
  unfold State.adopted
  generalize (s.replanned p t0).endingThose (fun _ => true) (fun _ => .planChange) = w
  rfl

theorem State.replanned_time : (s.replanned p t0).time = s.time := by rw [s.replanned_frame]

theorem State.replanned_channels : (s.replanned p t0).channels = (s.settleCounts fun _ => true).channels := by
  unfold State.replanned
  generalize s.settleCounts (fun _ => true) = v
  rfl

theorem State.HasCandidate.adopted {s : State} (h : s.HasCandidate) (p : Plan) (t0 : Time) : (s.adopted p t0).HasCandidate := by
  have settled := h.settleCounts fun _ => true
  have replanned : (s.replanned p t0).HasCandidate := by
    unfold State.replanned
    generalize s.settleCounts (fun _ => true) = v at *
    exact settled
  have ended := replanned.endingThose (fun _ => true) fun _ => .planChange
  rw [s.adopted_eq]
  generalize (s.replanned p t0).endingThose (fun _ => true) (fun _ => .planChange) = w at *
  exact ended

/-- What the observation of a boundary and the event make of a state (R163, R177). -/
theorem State.observed_cases (u : State) : ∃ (k : Containment) (b : Bool),
    u.observeBoundary = { u with containment := k, port := { u.port with events := { u.port.events with cnt := b } } } ∧
    (∀ r x, u.containment.state = .settling r x → k = { u.containment with state := .held r } ∧ b = true) ∧
    ((∀ r x, u.containment.state ≠ .settling r x) → k = u.containment ∧ b = u.port.events.cnt) := by
  rcases u.observeBoundary_cases with ⟨r, x, settling⟩ | other
  · refine ⟨_, _, State.observeBoundary_of_settling settling, fun r' x' settling' => ?_, fun other => absurd settling (other r x)⟩
    cases settling.symm.trans settling'
    exact ⟨rfl, rfl⟩
  · exact ⟨_, _, State.observeBoundary_of_other other, fun r x settling => absurd settling (other r x), fun _ => ⟨rfl, rfl⟩⟩

/-- The effects of an adoption in their order (R56). -/
theorem State.adopt_adopts : s.Adopts (s.adopt p t0) p t0 := by
  have adopted := s.adopted_frame p t0
  rw [s.replanned_frame] at adopted
  have account := s.adopted_account p t0
  have caused := (s.adopted p t0).cause_frame
  obtain ⟨k, b, observed, held, kept⟩ := (s.adopted p t0).cause.observed_cases
  have result : s.adopt p t0 = { (s.adopted p t0).cause with
      containment := k, port := { s.port with events := { s.port.events with plan := true, cnt := b } } } := by
    rw [s.adopt_eq, observed, caused, adopted]
    rfl
  have containment : (s.adopted p t0).cause.containment = s.containment := by rw [caused, adopted]
  have port : (s.adopted p t0).cause.port = s.port := by rw [caused, adopted]
  rw [containment] at held kept
  rw [port] at kept
  have plans : (s.adopt p t0).plans = { active := some p, staged := none } := by rw [result, caused, adopted]
  have tracker : (s.adopt p t0).tracker = .inStep { cur := 0, period := .green, onset := t0, lastBoundary := t0 } := by
    rw [result, caused, adopted]
  have channels : (s.adopt p t0).channels =
      ((s.replanned p t0).endingThose (fun _ => true) fun _ => .planChange).channels := by
    rw [result, caused, s.adopted_channels]
  have account : (s.adopt p t0).account = accountAdoption s.account s.policy := by
    rw [result, caused, account]
  rw [State.Adopts]
  refine ⟨plans, tracker, ?ends, ?idle, ?account, ?pass, ?kept, ?held, ?event, ?faults, ?last⟩
  case ends =>
    intro c l live
    rw [State.EndsWith, channels]
    exact State.endsWith_of_settled (reason := fun _ => .planChange) (s.replanned_channels p t0) (s.replanned_time p t0) live
      rfl rfl rfl
  case idle =>
    intro c idle
    rw [channels]
    exact State.settled_idle (s.replanned_channels p t0) idle _
  case account =>
    rw [account]
    exact ⟨rfl, rfl, rfl, rfl, fun k => replicate_get 0 k⟩
  case pass =>
    intro normal inactive candidate
    have runs : (s.adopted p t0).RunningCondition := by
      refine ⟨?_, ?_, { cur := 0, period := .green, onset := t0, lastBoundary := t0 }, ?_⟩
      · rw [adopted, normal]
      · rw [adopted, inactive]
      · rw [adopted]
    have engine : (s.adopt p t0).engine = (s.adopted p t0).cause.engine := by rw [result]
    rw [engine]
    exact State.cause_passing (State.HasCandidate.adopted candidate p t0) runs
  case kept =>
    intro other
    rw [result]
    exact (kept other).1
  case held =>
    intro r x settling
    rw [result]
    exact held r x settling
  case event => rw [result]
  case faults => rw [result, caused, adopted]
  case last =>
    have containment : (s.adopt p t0).containment = k := by rw [result]
    have port : (s.adopt p t0).port = { s.port with events := { s.port.events with plan := true, cnt := b } } := by
      rw [result]
    refine ⟨s.settleCounts fun _ => true, s.settleCounts_settles fun _ => true, ?_⟩
    rw [plans, tracker, account, containment, port]
    intro w
    refine ⟨?_, rfl, fun other => (kept other).2⟩
    rw [result, s.adopted_eq]
    rfl

end Adoption

end Sys2Proof.Machine
end

section
namespace Sys2Proof.Machine

/-! ## Boundaries and moves (R52, R54) -/

/-- An advance to a slot (R110). -/
def advancesTo (k : SlotIx) (l : LiveChannel) : Bool := !isExtend l && decide (l.slot = k)

theorem advancesTo_iff (k : SlotIx) (l : LiveChannel) : advancesTo k l = true ↔ l.slot = k ∧ isExtend l = false := by
  rw [advancesTo, Bool.and_eq_true, Bool.not_eq_true', decide_eq_true_iff, and_comm]

theorem Channel.not_meets_advancesTo {x : Channel} {k : SlotIx} (h : ∀ l, x.live = some l → l.slot ≠ k ∨ isExtend l = true) :
    ¬ x.Meets (advancesTo k) := by
  rintro ⟨l, live, meets⟩
  obtain ⟨slot, advance⟩ := (advancesTo_iff k l).mp meets
  rcases h l live with apart | extends_
  · exact apart slot
  · exact Bool.false_ne_true (advance.symm.trans extends_)

theorem State.onsetOfSlot_eq (s : State) (k : SlotIx) : s.onsetOfSlot k = s.endingThose (advancesTo k) fun _ => .complete := rfl

/-- The state at slot k's onset once the tracker, the account and the cause are written. -/
theorem State.onsetOfSlot_channels (s : State) (k : SlotIx) :
    (∀ (c : ChannelIx) l, s.channels[c].live = some l → l.slot = k → isExtend l = false →
      (s.cause.onsetOfSlot k).channels[c] = { live := none, lastEnd := some (.complete, s.time) }) ∧
    (∀ c : ChannelIx, (∀ l, s.channels[c].live = some l → l.slot ≠ k ∨ isExtend l = true) →
      (s.cause.onsetOfSlot k).channels[c] = s.channels[c]) := by
  have channels : s.cause.channels = s.channels := by rw [s.cause_frame]
  have time : s.cause.time = s.time := by rw [s.cause_frame]
  refine ⟨fun c l live slot advance => ?_, fun c h => ?_⟩
  · rw [State.onsetOfSlot_eq, State.endingThose_channels_same, time]
    rw [channels]
    exact ⟨l, live, (advancesTo_iff k l).mpr ⟨slot, advance⟩⟩
  · rw [State.onsetOfSlot_eq, State.endingThose_channels_kept, channels]
    rw [channels]
    exact Channel.not_meets_advancesTo h

/-- An onset of a slot ends advances to it, which refund nothing. -/
theorem State.onsetOfSlot_frame (s : State) (k : SlotIx) : s.cause.onsetOfSlot k = { s with
    table := (s.cause.onsetOfSlot k).table, channels := (s.cause.onsetOfSlot k).channels
    engine := (s.cause.onsetOfSlot k).engine } := by
  have ends := s.cause.endingThose_frame (advancesTo k) fun _ => .complete
  have account := s.cause.endingThose_account_of_whole (.inl rfl) (advancesTo k)
  rw [← State.onsetOfSlot_eq] at ends account
  unfold State.EndsOnly at ends
  generalize s.cause.onsetOfSlot k = t at *
  rw [ends, account, s.cause_frame]

/-- The tracker and the account of a new cycle (R54, R99). -/
def State.cycled (s : State) (t0 : Time) : State :=
  { s with tracker := .inStep { cur := 0, period := .green, onset := t0, lastBoundary := t0 }
           account := accountBoundary s.account s.policy }

/-- The state after a boundary, but for its length check. -/
def State.newCycle (s : State) (t0 : Time) : State := ((s.cycled t0).cause.onsetOfSlot 0).observeBoundary

theorem State.newCycle_boundary (s : State) (t0 : Time) : s.Boundary (s.newCycle t0) t0 := by
  have frame := (s.cycled t0).onsetOfSlot_frame 0
  obtain ⟨ended, kept⟩ := (s.cycled t0).onsetOfSlot_channels 0
  obtain ⟨k, b, observed, settling, other⟩ := ((s.cycled t0).cause.onsetOfSlot 0).observed_cases
  have containment : ((s.cycled t0).cause.onsetOfSlot 0).containment = s.containment := by rw [frame]; rfl
  have port : ((s.cycled t0).cause.onsetOfSlot 0).port = s.port := by rw [frame]; rfl
  rw [containment] at settling other
  rw [port] at other observed
  have result : s.newCycle t0 = { (s.cycled t0).cause.onsetOfSlot 0 with
      containment := k, port := { s.port with events := { s.port.events with cnt := b } } } := observed
  have channels : (s.newCycle t0).channels = ((s.cycled t0).cause.onsetOfSlot 0).channels := by rw [result]
  have tracker : (s.newCycle t0).tracker = .inStep { cur := 0, period := .green, onset := t0, lastBoundary := t0 } := by
    rw [result, frame]
    rfl
  have account : (s.newCycle t0).account = accountBoundary s.account s.policy := by
    rw [result, frame]
    rfl
  rw [State.Boundary]
  refine ⟨?frame, tracker, ?account, ?ended, ?kept, ?other, ?settling, ?shape⟩
  case frame =>
    rw [tracker, account, result, frame]
    rfl
  case account =>
    rw [account]
    exact ⟨rfl, rfl, rfl, fun k => ⟨replicate_get 0 k, tabulate_get _ k⟩⟩
  case ended =>
    rw [channels]
    exact ended
  case kept =>
    rw [channels]
    exact kept
  case other =>
    intro apart
    obtain ⟨rfl, rfl⟩ := other apart
    rw [result]
    exact ⟨rfl, rfl⟩
  case settling =>
    intro r x h
    obtain ⟨rfl, rfl⟩ := settling r x h
    rw [result]
    exact ⟨rfl, rfl⟩
  case shape =>
    have kept : (s.newCycle t0).containment = k := by rw [result]
    have events : (s.newCycle t0).port = { s.port with events := { s.port.events with cnt := b } } := by rw [result]
    rw [tracker, account, kept, events]
    exact result

theorem State.boundary_eq (s : State) (p : Plan) (t0 : Time) (last : Option Time) : s.boundary p t0 last =
    match last with
    | some l => if cycleLengthFault p l t0 then (s.newCycle t0).occur .cycleLength .none none else s.newCycle t0
    | none => s.newCycle t0 := rfl

/-- The state after a move to a later slot (R52, R99). -/
theorem State.moveTo_eq (s : State) (r : StepRecord) (k : SlotIx) (t0 : Time) : s.moveTo r k t0 =
    (State.cause { s with tracker := .inStep { r with cur := k, period := .green, onset := t0 }
                          account := { s.account with xcur := 0 } }).onsetOfSlot k := rfl

/-! ## Departures from IN_STEP (R53) -/

theorem kindBit_status (m : BitVec 19) (k : FaultKind) : kindBit (m ||| kindMap k) k = true := by
  rw [kindBit_or, kindBit_kindMap, decide_eq_true rfl, Bool.or_true]

theorem State.occur_status (s : State) (k : FaultKind) (src : FaultSource) (v : Option Vehicle) :
    kindBit (s.occur k src v).faults.status k = true := by
  rw [State.occur_eq]
  split
  · exact kindBit_status ..
  · split
    · rw [State.trigger_frame]
      exact kindBit_status ..
    · exact kindBit_status ..

theorem State.trigger_cases (s : State) (reason : ContainReason) : s.trigger reason = s ∨
    s.trigger reason = ((s.settled reason).endingThose (fun _ => true) fun _ => .contained).raise .cnt := by
  by_cases h : s.containment.enable = true ∧ s.containment.state = .normal
  · exact .inr (State.trigger_of_open h.1 h.2 reason)
  · exact .inl (if_neg h)

/-- An occurrence that finds no live channel leaves the channels alone. -/
theorem State.occur_channels_of_idle {s : State} (idle : ∀ c : ChannelIx, s.channels[c].live = none) (k : FaultKind)
    (src : FaultSource) (v : Option Vehicle) : (s.occur k src v).channels = s.channels := by
  rw [State.occur_eq]
  split
  · rfl
  · split
    · rcases (s.recorded k src v).trigger_cases (.fault k) with h | h
      · rw [h]
        rfl
      · refine vector_ext fun c => ?_
        rw [h, State.raise_channels, State.endingThose_channels_kept]
        · rfl
        · rintro ⟨l, live, _⟩
          exact nomatch (idle c).symm.trans live
    · rfl

/-- An occurrence starts no pass. -/
theorem State.occur_pass {s : State} (none : s.engine.pass = none) (k : FaultKind) (src : FaultSource) (v : Option Vehicle) :
    (s.occur k src v).engine.pass = Option.none := by
  rw [State.occur_eq]
  split
  · exact none
  · split
    · rcases (s.recorded k src v).trigger_cases (.fault k) with h | h
      · rw [h]
        exact none
      · rw [h, State.raise_engine, (((s.recorded k src v).settled_dormant (.fault k)).endingThose _ _).1]
    · exact none

section Departure

variable (s : State) (k : FaultKind)

/-- Why a channel ends as the tracker leaves IN_STEP (R53, R161; assumption 5). -/
def State.departureReason (c : ChannelIx) : EndReason :=
  if s.wouldTrigger k && Config.containedFirst ((s.settleCounts fun _ => true).freeIndex + c.val) then .contained
  else .unsynced

theorem State.departureReason_cases (c : ChannelIx) :
    s.departureReason k c = .unsynced ∨ s.wouldTrigger k = true ∧ s.departureReason k c = .contained := by
  unfold State.departureReason
  split
  · rename_i both
    exact .inr ⟨(Bool.and_eq_true_iff.mp both).1, rfl⟩
  · exact .inl rfl

/-- The state whose channels a departure ends: the tracker UNSYNCED, no pass, the last deciseconds settled. -/
def State.departing : State :=
  { s.settleCounts (fun _ => true) with
    tracker := .unsynced
    engine := { pass := none, again := false }
    freeIndex := (s.settleCounts fun _ => true).freeIndex + 4 }

theorem State.leaveInStep_eq : s.leaveInStep k =
    (s.departing.endingThose (fun _ => true) (s.departureReason k)).occur k .none none := by
  have ends (reason : ChannelIx → EndReason) : s.departing.endWhere (fun _ _ => true) reason =
      s.departing.endingThose (fun _ => true) reason := rfl
  rw [← ends]
  unfold State.leaveInStep State.departing State.departureReason
  generalize s.settleCounts (fun _ => true) = v
  rfl

theorem State.departing_frame : s.departing = { s with
    account := s.departing.account, table := s.departing.table, channels := s.departing.channels
    freeIndex := s.departing.freeIndex, tracker := .unsynced, engine := { pass := none, again := false } } := by
  have settled := s.settleCounts_frame fun _ => true
  unfold State.departing
  generalize s.settleCounts (fun _ => true) = v at *
  rw [settled]

theorem State.departing_channels : s.departing.channels = (s.settleCounts fun _ => true).channels := by
  unfold State.departing
  generalize s.settleCounts (fun _ => true) = v
  rfl

theorem State.departing_dormant : s.departing.Dormant := by
  rw [s.departing_frame]
  exact ⟨rfl, fun ⟨_, _, _, inStep⟩ => Tracker.noConfusion inStep⟩

theorem State.leaveInStep_leaves : s.LeavesInStep (s.leaveInStep k) k := by
  have ends := s.departing.endingThose_frame (fun _ => true) (s.departureReason k)
  have engine := (s.departing_dormant.endingThose (fun _ => true) (s.departureReason k)).1
  have time : s.departing.time = s.time := by rw [s.departing_frame]
  have ended {c : ChannelIx} {l : LiveChannel} (live : s.channels[c].live = some l) :
      s.EndsWith (s.departing.endingThose (fun _ => true) (s.departureReason k)) c l (s.departureReason k c) :=
    State.endsWith_of_settled s.departing_channels time live rfl rfl rfl
  have kept {c : ChannelIx} (idle : s.channels[c].live = none) :
      (s.departing.endingThose (fun _ => true) (s.departureReason k)).channels[c] = s.channels[c] :=
    State.settled_idle s.departing_channels idle _
  rw [s.leaveInStep_eq]
  have shape : ∃ (v : State) (reason : ChannelIx → EndReason), s.CountsSettled v (fun _ => true) ∧
      (∀ c, reason c = .unsynced ∨ s.wouldTrigger k = true ∧ reason c = .contained) ∧
      (s.departing.endingThose (fun _ => true) (s.departureReason k)).occur k .none none =
        (State.endingThose { v with
          tracker := .unsynced
          engine := { pass := none, again := false }
          freeIndex := v.freeIndex + 4 } (fun _ => true) reason).occur k .none none :=
    ⟨s.settleCounts fun _ => true, s.departureReason k, s.settleCounts_settles fun _ => true, s.departureReason_cases k, rfl⟩
  have start := s.departing_frame
  unfold State.EndsOnly at ends
  generalize s.departing.endingThose (fun _ => true) (s.departureReason k) = u at *
  have idle (c : ChannelIx) : u.channels[c].live = none := by
    cases live : s.channels[c].live with
    | none => rw [kept live, live]
    | some l =>
      have end_ := ended live
      rw [State.EndsWith] at end_
      split at end_
      · rcases end_ with h | h <;> rw [h]
      · rw [end_]
  have channels := State.occur_channels_of_idle idle k .none none
  refine ⟨?tracker, ?plans, State.occur_pass (congrArg Engine.pass engine) k .none none, u.occur_status k _ _,
    fun c => by rw [channels]; exact idle c, fun c l live => ?ends, fun c idle => by rw [channels]; exact kept idle, shape⟩
  case tracker => rw [u.occur_frame, ends, start]
  case plans => rw [u.occur_frame, ends, start]
  case ends =>
    rw [State.EndsWith, State.EndsWith, channels]
    have end_ := ended live
    rcases s.departureReason_cases k c with reason | ⟨triggers, reason⟩
    · rw [reason] at end_
      exact .inl end_
    · rw [reason] at end_
      exact .inr ⟨triggers, end_⟩

end Departure

end Sys2Proof.Machine
end

section
namespace Sys2Proof.Machine

/-! ## Recognised changes of the phase green inputs (R46, R47) -/

section Change

variable {s : State} {ph : Phase} {level : Bool} {judge : State → Time → State}

theorem State.takeChange_of_none (none : s.inputs[phaseIndex ph].changeAt = none) : s.takeChange ph level judge = s := by
  unfold State.takeChange
  simp only [none]

theorem State.takeChange_of_same (same : s.inputs[phaseIndex ph].recognised = level) : s.takeChange ph level judge = s := by
  unfold State.takeChange
  simp only [same, if_true]
  split <;> rfl

theorem State.takeChange_of_due {t0 : Time} (due : s.inputs[phaseIndex ph].changeAt = some t0)
    (other : s.inputs[phaseIndex ph].recognised ≠ level) : s.takeChange ph level judge = judge (s.recognise ph level) t0 := by
  unfold State.takeChange
  simp only [due, other, if_false]

theorem phaseIndex_injective : Function.Injective phaseIndex := by
  intro p q h
  have listed : ∀ p, allPhases[(phaseIndex p).val]? = some p := fun p => by cases p <;> rfl
  exact Option.some.inj ((listed p).symm.trans (h ▸ listed q))

theorem State.recognise_inputs_same : (s.recognise ph level).inputs[phaseIndex ph] =
    { s.inputs[phaseIndex ph] with recognised := level, changeAt := none } := put_same ..

theorem State.recognise_inputs_other {q : Phase} (apart : q ≠ ph) :
    (s.recognise ph level).inputs[phaseIndex q] = s.inputs[phaseIndex q] :=
  put_other _ _ fun same => apart (phaseIndex_injective same)

/-- A conflict is with an input that stood ACTIVE before the onset (R47). -/
theorem State.otherActive_recognise : (s.recognise ph level).otherActive ph = true ↔
    ∃ q, q ≠ ph ∧ s.inputs[phaseIndex q].recognised = true := by
  simp only [State.otherActive, List.any_eq_true, Bool.and_eq_true, decide_eq_true_eq]
  constructor
  · rintro ⟨q, _, apart, active⟩
    exact ⟨q, apart, State.recognise_inputs_other apart ▸ active⟩
  · rintro ⟨q, apart, active⟩
    exact ⟨q, by cases q <;> decide, apart, (State.recognise_inputs_other apart).symm ▸ active⟩

end Change

/-! ## Onsets judged (R49 to R56) -/

section Onset

variable {s : State} {ph : Phase} {t0 : Time}

/-- The phase of a plan's slot 0 (R55). -/
def Plan.Coordinates (p : Plan) (ph : Phase) : Prop := (p.slots.head?).map (·.phase) = some ph

theorem State.stagedFor_of_coordinates {p : Plan} (staged : s.plans.staged = some p) (h : p.Coordinates ph) :
    s.stagedFor ph = some p := by
  unfold State.stagedFor
  simp only [staged]
  exact if_pos h

theorem State.stagedFor_of_none (h : ∀ p, s.plans.staged = some p → ¬ p.Coordinates ph) : s.stagedFor ph = none := by
  unfold State.stagedFor
  cases staged : s.plans.staged with
  | none => rfl
  | some p => exact if_neg (h p staged)

theorem State.judgeOnset_of_conflict (another : s.otherActive ph = true) : s.judgeOnset ph t0 = s.conflict :=
  if_pos another

theorem State.conflict_of_inStep {r : StepRecord} (inStep : s.tracker = .inStep r) :
    s.conflict = s.leaveInStep .phaseConflict := by
  unfold State.conflict State.inStep
  simp only [inStep, if_true]

theorem State.conflict_of_other (other : ∀ r, s.tracker ≠ .inStep r) :
    s.conflict = s.occur .phaseConflict .none none := by
  unfold State.conflict State.inStep
  cases tracker : s.tracker with
  | inStep r => exact absurd tracker (other r)
  | noPlan => rfl
  | unsynced => rfl

section Alone

variable (alone : ¬ s.otherActive ph = true)

include alone

theorem State.judgeOnset_of_noPlan (tracker : s.tracker = .noPlan) : s.judgeOnset ph t0 = s.onsetNoPlan ph t0 := by
  rw [State.judgeOnset, if_neg alone, tracker]

theorem State.judgeOnset_of_unsynced (tracker : s.tracker = .unsynced) : s.judgeOnset ph t0 = s.onsetUnsynced ph t0 := by
  rw [State.judgeOnset, if_neg alone, tracker]

theorem State.judgeOnset_of_inStep {r : StepRecord} (tracker : s.tracker = .inStep r) :
    s.judgeOnset ph t0 = s.onsetInStep r ph t0 := by
  rw [State.judgeOnset, if_neg alone, tracker]

end Alone

theorem State.onsetUnsynced_of_idle (nothing : ∀ q, s.plans.staged = some q → ¬ q.Coordinates ph) {p : Plan}
    (active : s.plans.active = some p) (elsewhere : ¬ p.Coordinates ph) : s.onsetUnsynced ph t0 = s := by
  unfold State.onsetUnsynced
  simp only [State.stagedFor_of_none nothing, active]
  exact if_neg elsewhere

theorem State.onsetUnsynced_of_boundary (nothing : ∀ q, s.plans.staged = some q → ¬ q.Coordinates ph) {p : Plan}
    (active : s.plans.active = some p) (here : p.Coordinates ph) : s.onsetUnsynced ph t0 = s.newCycle t0 := by
  unfold State.onsetUnsynced
  simp only [State.stagedFor_of_none nothing, active]
  exact if_pos here

theorem State.onsetUnsynced_of_staged {q : Plan} (staged : s.plans.staged = some q) (here : q.Coordinates ph) :
    s.onsetUnsynced ph t0 = s.adopt q t0 := by
  unfold State.onsetUnsynced
  simp only [State.stagedFor_of_coordinates staged here]

theorem legalOnset_iff (p : Plan) (cur : SlotIx) (ph : Phase) : legalOnset p cur ph = true ↔
    ∃ k, slotOf p ph = some k ∧ (k = 0 ∨ cur < k) := by
  unfold legalOnset
  cases slotOf p ph <;> simp

section InStep

variable {r : StepRecord} {p : Plan} (active : s.plans.active = some p)

include active

theorem State.onsetInStep_of_adoptable {q : Plan} (staged : s.plans.staged = some q) (here : q.Coordinates ph)
    (legal : ∃ k, slotOf p ph = some k ∧ (k = 0 ∨ r.cur < k)) : s.onsetInStep r ph t0 = s.adopt q t0 := by
  unfold State.onsetInStep
  simp only [active, State.stagedFor_of_coordinates staged here, (legalOnset_iff p r.cur ph).mpr legal, if_true]

theorem State.onsetInStep_of_follow (nothing : ∀ q, ¬ (s.plans.staged = some q ∧ q.Coordinates ph ∧
    ∃ k, slotOf p ph = some k ∧ (k = 0 ∨ r.cur < k))) : s.onsetInStep r ph t0 = s.onsetFollow r p ph t0 := by
  unfold State.onsetInStep
  simp only [active]
  by_cases h : ∃ q, s.plans.staged = some q ∧ q.Coordinates ph
  · obtain ⟨q, staged, here⟩ := h
    have illegal := mt (legalOnset_iff p r.cur ph).mp fun legal => nothing q ⟨staged, here, legal⟩
    simp only [State.stagedFor_of_coordinates staged here, if_neg illegal]
  · rw [State.stagedFor_of_none fun q staged here => h ⟨q, staged, here⟩]

end InStep

section Follow

variable {r : StepRecord} {p : Plan}

theorem State.onsetFollow_of_slot {k : SlotIx} (slot : slotOf p ph = some k) : s.onsetFollow r p ph t0 =
    if k = 0 then s.boundary p t0 (some r.lastBoundary)
    else if r.cur < k then s.moveTo r k t0
    else s.leaveInStep .sequenceBreak := by
  unfold State.onsetFollow
  rw [slot]

theorem State.onsetFollow_of_break (h : slotOf p ph = none ∨ ∃ k, slotOf p ph = some k ∧ k ≠ 0 ∧ k ≤ r.cur) :
    s.onsetFollow r p ph t0 = s.leaveInStep .sequenceBreak := by
  rcases h with none | ⟨k, slot, later, behind⟩
  · unfold State.onsetFollow
    rw [none]
  · rw [State.onsetFollow_of_slot slot, if_neg later, if_neg (not_lt.mpr behind)]

theorem State.boundary_of_within (last : Time) (h : (timeDiff t0 last - p.cycle).natAbs ≤ 100) :
    s.boundary p t0 (some last) = s.newCycle t0 := by
  rw [State.boundary_eq]
  exact if_neg fun fault => absurd (of_decide_eq_true fault) (by omega)

theorem State.boundary_of_over (last : Time) (h : 100 < (timeDiff t0 last - p.cycle).natAbs) :
    s.boundary p t0 (some last) = (s.newCycle t0).occur .cycleLength .none none := by
  rw [State.boundary_eq]
  exact if_pos (decide_eq_true h)

end Follow

end Onset

/-- An onset that takes place is judged on the state with the input recognised. -/
theorem exec_greenOnset_of_due {s u : State} {ph : Phase} {t0 : Time} (released : s.held = false)
    (due : s.inputs[phaseIndex ph].changeAt = some t0) (off : s.inputs[phaseIndex ph].recognised = false)
    (h : (s.recognise ph true).judgeOnset ph t0 = u) : exec (.greenOnset ph) s = .next u :=
  next_whenReleased released ((State.takeChange_of_due due (by rw [off]; exact Bool.false_ne_true)).trans h)

/-- Settles O45: adoption or PLAN_MISSING. -/
theorem onsetWithoutPlan : Obligations.OnsetWithoutPlan := by
  intro s ph t0 released noPlan due off others
  have alone : ¬ (s.recognise ph true).otherActive ph = true := fun another => by
    obtain ⟨q, apart, active⟩ := State.otherActive_recognise.mp another
    exact Bool.false_ne_true ((others q apart).symm.trans active)
  have judged {u : State} (h : (s.recognise ph true).onsetNoPlan ph t0 = u) : exec (.greenOnset ph) s = .next u :=
    exec_greenOnset_of_due released due off ((State.judgeOnset_of_noPlan alone noPlan).trans h)
  refine ⟨s.recognise ph true, rfl, State.recognise_inputs_same, fun q apart => State.recognise_inputs_other apart,
    fun p staged here => ⟨_, judged ?_, State.adopt_adopts _ p t0⟩, fun nothing => ⟨judged ?_, ?_⟩⟩
  · unfold State.onsetNoPlan
    rw [State.stagedFor_of_coordinates (s := s.recognise ph true) staged here]
  · unfold State.onsetNoPlan
    rw [State.stagedFor_of_none (s := s.recognise ph true) nothing]
  · rw [State.occur_frame]
    exact noPlan

/-- Settles O46: conflicts, the onsets of each tracker state, and the ring of the active plan. -/
theorem onsetsFollowTheRing : Obligations.OnsetsFollowTheRing := by
  intro s ph released
  refine ⟨fun idle => next_whenReleased released (idle.elim State.takeChange_of_none State.takeChange_of_same),
    fun t0 due off => ⟨s.recognise ph true, rfl, State.recognise_inputs_same, fun q apart => State.recognise_inputs_other apart,
      ?_⟩⟩
  have another_iff := State.otherActive_recognise (s := s) (ph := ph) (level := true)
  have judged {u : State} (h : (s.recognise ph true).judgeOnset ph t0 = u) : exec (.greenOnset ph) s = .next u :=
    exec_greenOnset_of_due released due off h
  refine ⟨fun another other => ?_, fun r another inStep => ⟨_, judged ?_, State.leaveInStep_leaves _ _⟩,
    fun alone unsynced => ⟨fun q staged here => ⟨_, judged ?_, State.adopt_adopts _ q t0⟩, fun nothing p active =>
      ⟨fun here => ⟨_, judged ?_, State.newCycle_boundary _ t0⟩, fun elsewhere => judged ?_⟩⟩,
    fun r p alone inStep active => ⟨fun q adoptable => ⟨_, judged ?_, State.adopt_adopts _ q t0⟩, fun nothing => ?_⟩⟩
  · exact judged ((State.judgeOnset_of_conflict (another_iff.mpr another)).trans (State.conflict_of_other other))
  · exact (State.judgeOnset_of_conflict (another_iff.mpr another)).trans (State.conflict_of_inStep (r := r) inStep)
  · exact (State.judgeOnset_of_unsynced (mt another_iff.mp alone) unsynced).trans
      (State.onsetUnsynced_of_staged (s := s.recognise ph true) staged here)
  · exact (State.judgeOnset_of_unsynced (mt another_iff.mp alone) unsynced).trans
      (State.onsetUnsynced_of_boundary (s := s.recognise ph true) nothing active here)
  · exact (State.judgeOnset_of_unsynced (mt another_iff.mp alone) unsynced).trans
      (State.onsetUnsynced_of_idle (s := s.recognise ph true) nothing active elsewhere)
  · obtain ⟨staged, here, legal⟩ := adoptable
    exact (State.judgeOnset_of_inStep (mt another_iff.mp alone) inStep).trans
      (State.onsetInStep_of_adoptable (s := s.recognise ph true) active staged here legal)
  · have follows {u : State} (h : (s.recognise ph true).onsetFollow r p ph t0 = u) : exec (.greenOnset ph) s = .next u :=
      judged ((State.judgeOnset_of_inStep (mt another_iff.mp alone) inStep).trans
        ((State.onsetInStep_of_follow (s := s.recognise ph true) active nothing).trans h))
    refine ⟨fun first => ⟨_, State.newCycle_boundary _ t0, fun within => follows ?_, fun beyond => follows ?_⟩,
      fun k slot later ahead => ⟨_, follows ((State.onsetFollow_of_slot slot).trans
        ((if_neg later).trans (if_pos ahead))), ?_⟩, fun breaks => ⟨_, follows (State.onsetFollow_of_break breaks),
        State.leaveInStep_leaves _ _⟩⟩
    · rw [State.onsetFollow_of_slot first, if_pos rfl, State.boundary_of_within _ within]
    · rw [State.onsetFollow_of_slot first, if_pos rfl, State.boundary_of_over _ beyond]
    · rw [State.moveTo_eq]
      have moved := State.onsetOfSlot_channels { s.recognise ph true with
        tracker := .inStep { r with cur := k, period := .green, onset := t0 }
        account := { s.account with xcur := 0 } } k
      exact ⟨rfl, State.onsetOfSlot_frame _ k, moved.1, moved.2⟩

end Sys2Proof.Machine
end

section
namespace Sys2Proof.Machine

/-! ## Drops (R51, R108, R109) -/

/-- An extension of a slot (R108). -/
def extendsOn (k : SlotIx) (l : LiveChannel) : Bool := isExtend l && decide (l.slot = k)

theorem extendsOn_iff (k : SlotIx) (l : LiveChannel) : extendsOn k l = true ↔ isExtend l = true ∧ l.slot = k := by
  rw [extendsOn, Bool.and_eq_true, decide_eq_true_iff]

/-- A channel as the drop of the current slot leaves it: an ARMED advance starts (R109). -/
def started (x : Channel) : Channel :=
  match x.live with
  | some l => if !isExtend l ∧ l.run = .armed then { x with live := some { l with run := .running } } else x
  | none => x

section Started

variable {x : Channel} {l : LiveChannel}

theorem started_of_idle (idle : x.live = none) : started x = x := by
  unfold started
  rw [idle]

theorem started_of_armed (live : x.live = some l) (advance : isExtend l = false) (armed : l.run = .armed) :
    started x = { x with live := some { l with run := .running } } := by
  unfold started
  simp only [live, advance, armed, Bool.not_false, and_self, if_true]

theorem started_of_other (live : x.live = some l) (h : isExtend l = true ∨ l.run ≠ .armed) : started x = x := by
  unfold started
  simp only [live]
  refine if_neg fun ⟨advance, armed⟩ => ?_
  rw [Bool.not_eq_true'] at advance
  exact h.elim (fun extends_ => Bool.false_ne_true (advance.symm.trans extends_)) (· armed)

end Started

section Drop

variable (s : State) (k : SlotIx)

/-- The state of a drop whose extension has ended (R108). -/
def State.greenEnded : State :=
  (s.settleCounts fun l => decide (l.slot = k)).endingThose (extendsOn k) fun _ => .greenEnded

theorem State.dropOfSlot_eq : s.dropOfSlot k =
    { s.greenEnded k with channels := tabulate fun c => started (s.greenEnded k).channels[c] } := by
  have starts (w : State) : ({ w with channels := tabulate fun c =>
      match w.channels[c].live with
      | some l =>
        if !isExtend l ∧ l.run = .armed then { w.channels[c] with live := some { l with run := .running } }
        else w.channels[c]
      | none => w.channels[c] } : State) = { w with channels := tabulate fun c => started w.channels[c] } := rfl
  have ends (v : State) : v.endWhere (fun _ l => isExtend l && decide (l.slot = k)) (fun _ => .greenEnded) =
      v.endingThose (extendsOn k) fun _ => .greenEnded := rfl
  unfold State.dropOfSlot State.greenEnded
  simp only [ends]
  exact starts _

theorem State.dropOfSlot_channels (c : ChannelIx) : (s.dropOfSlot k).channels[c] = started (s.greenEnded k).channels[c] := by
  rw [s.dropOfSlot_eq k]
  exact tabulate_get _ c

theorem State.greenEnded_frame : s.greenEnded k = { s with
    account := (s.greenEnded k).account, table := (s.greenEnded k).table, channels := (s.greenEnded k).channels
    engine := (s.greenEnded k).engine, freeIndex := (s.greenEnded k).freeIndex } := by
  have settled := s.settleCounts_frame fun l => decide (l.slot = k)
  have ends := (s.settleCounts fun l => decide (l.slot = k)).endingThose_frame (extendsOn k) fun _ => .greenEnded
  unfold State.EndsOnly at ends
  unfold State.greenEnded
  generalize (s.settleCounts fun l => decide (l.slot = k)).endingThose (extendsOn k) (fun _ => .greenEnded) = w at *
  rw [ends, settled]

theorem State.greenEnded_time : (s.settleCounts fun l => decide (l.slot = k)).time = s.time := by
  rw [s.settleCounts_frame fun l => decide (l.slot = k)]

variable {s k} {c : ChannelIx} {l : LiveChannel}

theorem State.greenEnded_of_extends (live : s.channels[c].live = some l) (extends_ : isExtend l = true) (slot : l.slot = k) :
    s.EndsWith (s.greenEnded k) c l .greenEnded :=
  State.endsWith_of_settled (reason := fun _ => .greenEnded) rfl (s.greenEnded_time k) live (decide_eq_true slot)
    ((extendsOn_iff k l).mpr ⟨extends_, slot⟩)
    ((extendsOn_iff k _).mpr ⟨(isExtend_uncounted l).trans extends_, (uncounted_slot l).trans slot⟩)

theorem State.greenEnded_of_idle (idle : s.channels[c].live = none) : (s.greenEnded k).channels[c] = s.channels[c] :=
  State.settled_idle rfl idle _

/-- A channel that is no extension of the slot is left alone. -/
theorem State.greenEnded_of_other (live : s.channels[c].live = some l) (other : isExtend l = false ∨ l.slot ≠ k) :
    (s.greenEnded k).channels[c] = s.channels[c] := by
  have kept : (s.settleCounts fun l => decide (l.slot = k)).channels[c] = s.channels[c] := by
    rcases s.settleCounts_channels (fun l => decide (l.slot = k)) c with ⟨kept, _⟩ | ⟨m, live', due, _⟩
    · exact kept
    · cases live.symm.trans live'
      obtain ⟨counts, slot⟩ := Bool.and_eq_true_iff.mp due
      obtain ⟨_, rf, action⟩ := (countedOut_iff l).mp counts
      have extends_ := (isExtend_iff l).mpr ⟨0, rf, action⟩
      exact absurd (of_decide_eq_true slot) (other.resolve_left fun advance =>
        Bool.false_ne_true (advance.symm.trans extends_))
  refine (State.endingThose_channels_kept _ _ _ ?_).trans kept
  rintro ⟨m, live', meets⟩
  rw [kept] at live'
  cases live.symm.trans live'
  obtain ⟨extends_, slot⟩ := (extendsOn_iff k l).mp meets
  exact other.elim (fun advance => Bool.false_ne_true (advance.symm.trans extends_)) (· slot)

end Drop

theorem State.judgeDrop_of_current {s : State} {ph : Phase} {t0 : Time} {r : StepRecord} {p : Plan}
    (inStep : s.tracker = .inStep r) (active : s.plans.active = some p) (green : r.period = .green)
    (phase : (slotAt p r.cur).phase = ph) : s.judgeDrop ph t0 =
      (State.cause { s with tracker := .inStep { r with period := .clearance t0 } }).dropOfSlot r.cur := by
  have drops : dropsCurrent p r ph = true := by
    rw [dropsCurrent, green, phase]
    simp only [decide_true, Bool.and_self]
  unfold State.judgeDrop
  simp only [inStep, active, drops, if_true]

theorem State.judgeDrop_of_other {s : State} {ph : Phase} {t0 : Time}
    (h : ∀ r p, ¬ (s.tracker = .inStep r ∧ s.plans.active = some p ∧ r.period = .green ∧ (slotAt p r.cur).phase = ph)) :
    s.judgeDrop ph t0 = s := by
  unfold State.judgeDrop
  split
  · rename_i r p inStep active
    refine if_neg fun drops => ?_
    rw [dropsCurrent, Bool.and_eq_true, decide_eq_true_iff, decide_eq_true_iff] at drops
    exact h r p ⟨inStep, active, drops⟩
  · rfl

/-- Settles O47: a drop of the current slot's phase channel by channel, and every other drop. -/
theorem dropsBeginClearance : Obligations.DropsBeginClearance := by
  intro s ph released
  refine ⟨fun idle => next_whenReleased released (idle.elim State.takeChange_of_none State.takeChange_of_same),
    fun t0 due on => ?_⟩
  have dropped {u : State} (h : (s.recognise ph false).judgeDrop ph t0 = u) : exec (.greenDrop ph) s = .next u :=
    next_whenReleased released ((State.takeChange_of_due due (by rw [on]; exact Bool.noConfusion)).trans h)
  by_cases current : ∃ r p, s.tracker = .inStep r ∧ s.plans.active = some p ∧ r.period = .green ∧ (slotAt p r.cur).phase = ph
  · obtain ⟨r, p, inStep, active, green, phase⟩ := current
    let v : State := State.cause { s.recognise ph false with tracker := .inStep { r with period := .clearance t0 } }
    have start : v = { s.recognise ph false with
        tracker := .inStep { r with period := .clearance t0 }, engine := v.engine } := State.cause_frame _
    have channels : v.channels = s.channels := by rw [start]; rfl
    have time : v.time = s.time := by rw [start]; rfl
    have frame := v.greenEnded_frame r.cur
    have eq := v.dropOfSlot_eq r.cur
    have inputs : (v.dropOfSlot r.cur).inputs = (s.recognise ph false).inputs := by rw [eq, frame, start]
    have only {r' : StepRecord} {p' : Plan} (h : s.tracker = .inStep r' ∧ s.plans.active = some p' ∧ r'.period = .green ∧
        (slotAt p' r'.cur).phase = ph) : r' = r := Tracker.inStep.inj (h.1.symm.trans inStep)
    refine ⟨v.dropOfSlot r.cur, dropped (State.judgeDrop_of_current (s := s.recognise ph false) inStep active green phase),
      by rw [inputs]; exact State.recognise_inputs_same, fun q apart => by rw [inputs]; exact State.recognise_inputs_other apart,
      fun h => absurd ⟨inStep, active, green, phase⟩ (h r p), fun r' p' h => ?whole, fun r' p' h => ?shape⟩
    case whole =>
      obtain rfl := only h
      have ended {c : ChannelIx} (idle : (v.greenEnded r'.cur).channels[c].live = none) :
          (v.dropOfSlot r'.cur).channels[c] = (v.greenEnded r'.cur).channels[c] :=
        (v.dropOfSlot_channels r'.cur c).trans (started_of_idle idle)
      refine ⟨?_, fun c => ⟨fun idle => ?_, fun l live => ?_⟩⟩
      · rw [eq, frame, start]
        rfl
      · rw [← channels] at idle
        have kept := State.greenEnded_of_idle (k := r'.cur) idle
        rw [ended (by rw [kept, idle]), kept, channels]
      · rw [← channels] at live
        have kept (other : isExtend l = false ∨ l.slot ≠ r'.cur) : (v.dropOfSlot r'.cur).channels[c] = started s.channels[c] := by
          rw [v.dropOfSlot_channels, State.greenEnded_of_other live other, channels]
        rw [channels] at live
        refine ⟨fun extends_ slot => ?_, fun extends_ slot => ?_, fun advance armed => ?_, fun advance other => ?_⟩
        · rw [← channels] at live
          have ends := State.greenEnded_of_extends live extends_ slot
          rw [State.EndsWith, time] at ends
          have idle : (v.greenEnded r'.cur).channels[c].live = none := by
            split at ends
            · rcases ends with h | h <;> rw [h]
            · rw [ends]
          rw [State.EndsWith, ended idle]
          exact ends
        · rw [kept (.inr slot), started_of_other live (.inl extends_)]
        · rw [kept (.inl advance), started_of_armed live advance armed]
        · rw [kept (.inl advance), started_of_other live (.inr other)]
    case shape =>
      obtain rfl := only h
      refine ⟨v.settleCounts fun l => decide (l.slot = r'.cur), ?_, ?_⟩
      · rw [inputs]
        exact v.settleCounts_settles _
      · refine ⟨eq.trans (by rw [eq]; rfl), fun c => ⟨fun idle => ?_, fun l live => ⟨fun advance armed => ?_, fun other => ?_⟩⟩⟩
        · exact (v.dropOfSlot_channels r'.cur c).trans (started_of_idle idle)
        · exact (v.dropOfSlot_channels r'.cur c).trans (started_of_armed live advance armed)
        · exact (v.dropOfSlot_channels r'.cur c).trans (started_of_other live other)
  · have others : ∀ r p, ¬ (s.tracker = .inStep r ∧ s.plans.active = some p ∧ r.period = .green ∧ (slotAt p r.cur).phase = ph) :=
      fun r p h => current ⟨r, p, h⟩
    exact ⟨s.recognise ph false, dropped (State.judgeDrop_of_other (s := s.recognise ph false) others),
      State.recognise_inputs_same, fun q apart => State.recognise_inputs_other apart, fun _ => rfl,
      fun r p h => absurd h (others r p), fun r p h => absurd h (others r p)⟩

end Sys2Proof.Machine
end

end

section
/-! PROOFS. Turns of a pass: judgements, denials and grants (O48). -/

section
namespace Sys2Proof.Machine

/-! ## Turns of a pass (R80, R83) -/

theorem State.endPass_eq_afterTurn (s : State) : s.endPass = s.afterTurn [] := by
  unfold State.endPass State.afterTurn
  cases again : s.engine.again with
  | false => rfl
  | true =>
    rcases State.cause_cases { s with engine := { pass := none, again := false } } with ⟨passing, _⟩ | ⟨_, runs, h⟩ | ⟨_, barred, h⟩
    · exact absurd rfl passing
    · have may : s.mayRun = true := s.mayRun_iff.mpr runs
      rw [if_pos rfl, h, may]
      rfl
    · have may : s.mayRun = false := Bool.eq_false_of_not_eq_true (mt s.mayRun_iff.mp barred)
      rw [if_pos rfl, h, may]
      rfl

/-- The state of a turn: its candidate is off the list. -/
def State.atTurn (s : State) (rest : List (EntryIx × Vehicle)) : State :=
  { s with engine := { s.engine with pass := some rest } }

section Turn

variable {s : State}

theorem State.takeTurn_of_idle (idle : s.engine.pass = none) : s.takeTurn = s := by
  unfold State.takeTurn
  simp only [idle]

/-- A pass without its running condition is stopped (R81). -/
theorem State.takeTurn_of_barred (passing : s.engine.pass ≠ none) (barred : ¬ s.RunningCondition) :
    s.takeTurn = { s with engine := { pass := none, again := false } } := by
  have may : s.mayRun = false := Bool.eq_false_of_not_eq_true (mt s.mayRun_iff.mp barred)
  obtain ⟨list, pass⟩ := Option.ne_none_iff_exists'.mp passing
  unfold State.takeTurn
  cases figures : s.figures with
  | none =>
    simp only [pass]
    rfl
  | some f =>
    cases list with
    | nil =>
      simp only [pass, State.endPass, may, Bool.and_false, Bool.false_eq_true, if_false]
      rfl
    | cons x rest =>
      simp only [pass, may, Bool.not_false, if_true]
      rfl

theorem State.takeTurn_of_listed {i : EntryIx} {v : Vehicle} {rest : List (EntryIx × Vehicle)} {f : Figures}
    (pass : s.engine.pass = some ((i, v) :: rest)) (runs : s.RunningCondition) (figures : s.figures = some f) :
    s.takeTurn = ((s.atTurn rest).turn f i v).afterTurn rest := by
  unfold State.takeTurn
  simp only [pass, figures, s.mayRun_iff.mpr runs, Bool.not_true, Bool.false_eq_true, if_false]
  cases rest with
  | nil =>
    rw [← State.endPass_eq_afterTurn]
    rfl
  | cons => rfl

variable {f : Figures} {i : EntryIx} {v : Vehicle} {e : Entry}

theorem State.turn_of_free (free : s.table[i] = none) : s.turn f i v = s := by
  unfold State.turn
  simp only [free]

theorem State.turn_of_skipped (live : s.table[i] = some e) (h : e.vehicle ≠ v ∨ e.level = 0) : s.turn f i v = s := by
  unfold State.turn
  simp only [live]
  exact if_pos h

section Judged

variable (live : s.table[i] = some e) (holds : e.vehicle = v) (level : 1 ≤ e.level)

include live holds level

theorem State.turn_of_candidate (free : ∀ c, e.state ≠ .granted c) : s.turn f i v = s.fullTurn f i e := by
  unfold State.turn
  simp only [live]
  refine (if_neg (not_or.mpr ⟨not_not.mpr holds, by omega⟩)).trans ?_
  cases state : e.state with
  | granted c => exact absurd state (free c)
  | tracking => rfl
  | pending => rfl

theorem State.turn_of_rider {c : ChannelIx} {l : LiveChannel} (granted : e.state = .granted c)
    (carries : s.channels[c].live = some l) (extends_ : isExtend l = true) (rides : i ∈ l.riders) :
    s.turn f i v = s.topUpTurn f i e c l := by
  unfold State.turn State.ridesExtend
  simp only [live, granted, carries, extends_, rides, decide_true, Bool.and_true, if_true]
  exact if_neg (not_or.mpr ⟨not_not.mpr holds, by omega⟩)

end Judged

theorem State.turn_of_advance (live : s.table[i] = some e) {c : ChannelIx} {l : LiveChannel} {d : Time}
    (granted : e.state = .granted c) (carries : s.channels[c].live = some l) (advances : l.action = .advance d) :
    s.turn f i v = s := by
  have advance : isExtend l = false := (isExtend_eq_false_iff l).mpr ⟨d, advances⟩
  unfold State.turn State.ridesExtend
  simp only [live, granted, carries, advance, Bool.false_and, Bool.false_eq_true, if_false, ite_self]

end Turn

/-! ## The figures of a turn -/

theorem State.figures_eq {s : State} {f : Figures} (h : s.figures = some f) : f.t = s.time ∧ f.policy = s.policy ∧
    s.plans.active = some f.plan ∧ s.tracker = .inStep f.step := by
  unfold State.figures at h
  split at h
  · rename_i active tracker
    cases h
    exact ⟨rfl, rfl, active, tracker⟩
  · cases h

namespace Figures

variable {f : Figures} {j : SlotIx}

/-- Some live channel meets a condition. -/
def Has (f : Figures) (P : LiveChannel → Prop) : Prop :=
  ∃ (c : ChannelIx) (l : LiveChannel), f.channels[c].live = some l ∧ P l

theorem channelOn_eq_none_iff (f : Figures) (x : Bool) (k : SlotIx) :
    f.channelOn x k = none ↔ ¬ f.Has fun l => isExtend l = x ∧ l.slot = k := by
  rw [← Option.not_isSome_iff_eq_none, Figures.channelOn, List.find?_isSome]
  refine not_congr ?_
  simp only [liveChannels, List.mem_filterMap, Option.map_eq_some_iff, Bool.and_eq_true, decide_eq_true_eq, beq_iff_eq]
  constructor
  · rintro ⟨_, ⟨c, _, l, live, rfl⟩, slot, kind⟩
    exact ⟨c, l, live, kind, slot⟩
  · rintro ⟨c, l, live, kind, slot⟩
    exact ⟨(c, l), ⟨c, mem_allChannels c, l, live, rfl⟩, slot, kind⟩

/-- The one channel on a slot (R85, R86). -/
theorem channelOn_of_alone {c : ChannelIx} {l : LiveChannel} {x : Bool} {k : SlotIx} (live : f.channels[c].live = some l)
    (kind : isExtend l = x) (slot : l.slot = k) (alone : ∀ (b : ChannelIx) m, b ≠ c → f.channels[b].live = some m → m.slot ≠ k) :
    f.channelOn x k = some (c, l) := by
  have found : f.channelOn x k ≠ none := mt (channelOn_eq_none_iff f x k).mp (not_not.mpr ⟨c, l, live, kind, slot⟩)
  obtain ⟨⟨b, m⟩, on⟩ := Option.ne_none_iff_exists'.mp found
  have mem := List.mem_of_find?_eq_some on
  have meets := List.find?_some on
  simp only [liveChannels, List.mem_filterMap, Option.map_eq_some_iff, Prod.mk.injEq, Bool.and_eq_true, decide_eq_true_eq] at mem meets
  obtain ⟨b', _, m', live', rfl, rfl⟩ := mem
  have same : b' = c := by
    by_contra apart
    exact alone b' m' apart live' meets.1
  subst same
  rw [on, Option.some.inj (live.symm.trans live')]

theorem any_namesSlot_iff (f : Figures) (k : SlotIx) :
    ((liveChannels f.channels).any fun c => namesSlot c.2.charges k) = true ↔ f.Has fun l => k ∈ l.charges.map (·.1) := by
  simp only [liveChannels_any_iff, namesSlot_iff, Has]

theorem any_advanceNamesSlot_iff (f : Figures) (k : SlotIx) :
    ((liveChannels f.channels).any fun c => !isExtend c.2 && namesSlot c.2.charges k) = true ↔
      f.Has fun l => isExtend l = false ∧ k ∈ l.charges.map (·.1) := by
  simp only [liveChannels_any_iff, namesSlot_iff, Has, Bool.and_eq_true, Bool.not_eq_true']

/-! ## The four checks of an extension (R85) -/

section Checks

variable {n : Nat}

theorem extensionDenial_of_limit (h : (slotAt f.plan f.step.cur).e < f.account.xcur + n) :
    f.extensionDenial n = some .extLimit := if_pos h

variable (fits : f.account.xcur + n ≤ (slotAt f.plan f.step.cur).e)

include fits

theorem extensionDenial_of_conflict (h : f.Has fun l => isExtend l = false ∧ f.step.cur ∈ l.charges.map (·.1)) :
    f.extensionDenial n = some .conflict := by
  rw [Figures.extensionDenial, if_neg (not_lt.mpr fits), if_pos ((any_advanceNamesSlot_iff f _).mpr h)]

variable (free : ¬ f.Has fun l => isExtend l = false ∧ f.step.cur ∈ l.charges.map (·.1))

include free

theorem extensionDenial_of_capacity (h : f.sExt < n) : f.extensionDenial n = some .capacity := by
  rw [Figures.extensionDenial, if_neg (not_lt.mpr fits), if_neg (mt (any_advanceNamesSlot_iff f _).mp free), if_pos h]

theorem extensionDenial_of_budget (room : n ≤ f.sExt) (h : f.account.budgetLeft < n) : f.extensionDenial n = some .budget := by
  rw [Figures.extensionDenial, if_neg (not_lt.mpr fits), if_neg (mt (any_advanceNamesSlot_iff f _).mp free),
    if_neg (not_lt.mpr room), if_pos h]

theorem extensionDenial_of_passes (room : n ≤ f.sExt) (h : n ≤ f.account.budgetLeft) : f.extensionDenial n = none := by
  rw [Figures.extensionDenial, if_neg (not_lt.mpr fits), if_neg (mt (any_advanceNamesSlot_iff f _).mp free),
    if_neg (not_lt.mpr room), if_neg (not_lt.mpr h)]

end Checks

theorem extensionDenial_eq_none_iff (f : Figures) (n : Nat) : f.extensionDenial n = none ↔
    f.account.xcur + n ≤ (slotAt f.plan f.step.cur).e ∧
    ¬ f.Has (fun l => isExtend l = false ∧ f.step.cur ∈ l.charges.map (·.1)) ∧ n ≤ f.sExt ∧ n ≤ f.account.budgetLeft := by
  refine ⟨fun none => ?_, fun ⟨fits, free, room, budget⟩ => extensionDenial_of_passes fits free room budget⟩
  have fits := not_lt.mp fun h => nomatch none.symm.trans (extensionDenial_of_limit h)
  have free : ¬ f.Has _ := fun h => nomatch none.symm.trans (extensionDenial_of_conflict fits h)
  have room := not_lt.mp fun h => nomatch none.symm.trans (extensionDenial_of_capacity fits free h)
  exact ⟨fits, free, room, not_lt.mp fun h => nomatch none.symm.trans (extensionDenial_of_budget fits free room h)⟩

end Figures

end Sys2Proof.Machine
end

section
namespace Sys2Proof.Machine

/-! ## Judgements (R84 to R86) -/

namespace Figures

variable {f : Figures} {e : Entry} {ph : Phase} {j : SlotIx} {aE aL : Time}

theorem judge_of_no_slot (none : slotOf f.plan ph = Option.none) : f.judge e ph = .deny .noPhase .none := by
  unfold Figures.judge
  simp only [none]

theorem judge_of_far (slot : slotOf f.plan ph = some j) (far : (f.policy.horizon : Int) < timeDiff (laterOf e.windowE f.t) f.t) :
    f.judge e ph = .deny .far .none := by
  unfold Figures.judge
  simp only [slot]
  exact if_pos far

theorem judge_of_near (slot : slotOf f.plan ph = some j) (near : timeDiff (laterOf e.windowE f.t) f.t ≤ f.policy.horizon) :
    f.judge e ph = f.judgeCase (effectiveWindow e f.t) j := by
  unfold Figures.judge
  simp only [slot]
  exact if_neg (not_lt.mpr near)

/-- The slot is current in GREEN: the case of an extension (R84). -/
def IsCurrent (f : Figures) (j : SlotIx) : Prop := j = f.step.cur ∧ f.step.period = .green

/-- The slot is later, or slot 0 of the next cycle: the case of an advance (R84). -/
def IsAhead (f : Figures) (j : SlotIx) : Prop := f.step.cur < j ∨ j = 0 ∧ f.step.cur ≠ 0

theorem caseOf_of_current (h : f.IsCurrent j) : f.caseOf j = .extension :=
  (f.caseOf_eq_extension_iff j).mpr ⟨h.1.symm, h.2⟩

theorem caseOf_of_ahead (h : f.IsAhead j) : f.caseOf j = .advance := (f.caseOf_eq_advance_iff j).mpr h

theorem judgeCase_of_current (h : f.IsCurrent j) : f.judgeCase (aE, aL) j = f.judgeExtend aL := by
  unfold Figures.judgeCase
  simp only [caseOf_of_current h]

theorem judgeCase_of_ahead (h : f.IsAhead j) : f.judgeCase (aE, aL) j = f.judgeAdvance aE j := by
  unfold Figures.judgeCase
  simp only [caseOf_of_ahead h]

theorem judgeCase_of_neither (current : ¬ f.IsCurrent j) (ahead : ¬ f.IsAhead j) :
    f.judgeCase (aE, aL) j = .deny .nextCycle .none := by
  have neither : f.caseOf j = .nextCycle := by
    cases h : f.caseOf j with
    | extension =>
      obtain ⟨same, green⟩ := (f.caseOf_eq_extension_iff j).mp h
      exact absurd ⟨same.symm, green⟩ current
    | advance => exact absurd ((f.caseOf_eq_advance_iff j).mp h) ahead
    | nextCycle => rfl
  unfold Figures.judgeCase
  simp only [neither]

/-! ### A new extension (R85) -/

section Extend

variable (alone : f.channelOn true f.step.cur = none)

include alone

theorem judgeExtend_of_unneeded (h : atOrAfter f.plannedEnd aL = true) : f.judgeExtend aL = .deny .noneNeeded .none := by
  unfold Figures.judgeExtend
  simp only [alone]
  exact if_pos h

variable (needed : atOrAfter f.plannedEnd aL = false)

include needed

theorem judgeExtend_of_denied {d : Denial} (h : f.extensionDenial (timeDiff aL f.referenceEnd).toNat = some d) :
    f.judgeExtend aL = .deny d .extend := by
  unfold Figures.judgeExtend
  simp only [alone, needed, Bool.false_eq_true, if_false, h]

theorem judgeExtend_of_passes (h : f.extensionDenial (timeDiff aL f.referenceEnd).toNat = none) :
    f.judgeExtend aL = .feasible (.extend (timeDiff aL f.referenceEnd).toNat) := by
  unfold Figures.judgeExtend
  simp only [alone, needed, Bool.false_eq_true, if_false, h]

end Extend

/-- An extension is proposed exactly where no extension runs on the slot, it is needed, and the four checks pass (R85). -/
theorem judgeExtend_eq_feasible_iff (p : Proposal) : f.judgeExtend aL = .feasible p ↔
    f.channelOn true f.step.cur = none ∧ atOrAfter f.plannedEnd aL = false ∧
    f.extensionDenial (timeDiff aL f.referenceEnd).toNat = none ∧ p = .extend (timeDiff aL f.referenceEnd).toNat := by
  constructor
  · intro h
    cases on : f.channelOn true f.step.cur with
    | some x =>
      unfold Figures.judgeExtend Figures.judgeExtendJoin at h
      simp only [on] at h
      split at h
      · exact nomatch h
      · split at h
        · exact nomatch h
        · split at h
          · exact nomatch h
          · split at h <;> exact nomatch h
    | none =>
      cases needed : atOrAfter f.plannedEnd aL with
      | true => exact nomatch (judgeExtend_of_unneeded on needed).symm.trans h
      | false =>
        cases denial : f.extensionDenial (timeDiff aL f.referenceEnd).toNat with
        | some d => exact nomatch (judgeExtend_of_denied on needed denial).symm.trans h
        | none => exact ⟨rfl, rfl, rfl, Verdict.feasible.inj (h.symm.trans (judgeExtend_of_passes on needed denial))⟩
  · rintro ⟨alone, needed, passes, rfl⟩
    exact judgeExtend_of_passes alone needed passes

/-! ### A new advance (R86) -/

section Advance

variable (alone : f.channelOn false j = none)

include alone

theorem judgeAdvance_of_conflict (h : f.Has fun l => j ∈ l.charges.map (·.1)) : f.judgeAdvance aE j = .deny .conflict .advance := by
  unfold Figures.judgeAdvance
  simp only [alone, (any_namesSlot_iff f j).mpr h, if_true]

variable (free : ¬ f.Has fun l => j ∈ l.charges.map (·.1))

include free

theorem judgeAdvance_of_unneeded (h : atOrAfter aE (f.timeToGreen j) = true) : f.judgeAdvance aE j = .deny .noneNeeded .none := by
  unfold Figures.judgeAdvance
  simp only [alone, if_neg (mt (any_namesSlot_iff f j).mp free), h, if_true]

variable (needed : atOrAfter aE (f.timeToGreen j) = false)

include needed

theorem judgeAdvance_of_short
    (h : f.advanceAmount j (timeDiff (f.timeToGreen j) aE).toNat = 0 ∨
      f.advanceAmount j (timeDiff (f.timeToGreen j) aE).toNat < f.policy.aMin) :
    f.judgeAdvance aE j = .deny .advShort .advance := by
  unfold Figures.judgeAdvance
  simp only [alone, if_neg (mt (any_namesSlot_iff f j).mp free), needed, Bool.false_eq_true, if_false]
  exact if_pos h

theorem judgeAdvance_of_enough (some : 1 ≤ f.advanceAmount j (timeDiff (f.timeToGreen j) aE).toNat)
    (enough : f.policy.aMin ≤ f.advanceAmount j (timeDiff (f.timeToGreen j) aE).toNat) :
    f.judgeAdvance aE j = .feasible (.advance j (f.advanceAmount j (timeDiff (f.timeToGreen j) aE).toNat)) := by
  unfold Figures.judgeAdvance
  simp only [alone, if_neg (mt (any_namesSlot_iff f j).mp free), needed, Bool.false_eq_true, if_false]
  exact if_neg (not_or.mpr ⟨by omega, not_lt.mpr enough⟩)

end Advance

/-- An advance is proposed exactly where no advance targets the slot, no channel charges it, it is needed, and the amount
is at least Amin (R86). -/
theorem judgeAdvance_eq_feasible_iff (p : Proposal) : f.judgeAdvance aE j = .feasible p ↔
    f.channelOn false j = none ∧ ¬ f.Has (fun l => j ∈ l.charges.map (·.1)) ∧ atOrAfter aE (f.timeToGreen j) = false ∧
    1 ≤ f.advanceAmount j (timeDiff (f.timeToGreen j) aE).toNat ∧
    f.policy.aMin ≤ f.advanceAmount j (timeDiff (f.timeToGreen j) aE).toNat ∧
    p = .advance j (f.advanceAmount j (timeDiff (f.timeToGreen j) aE).toNat) := by
  constructor
  · intro h
    cases on : f.channelOn false j with
    | some x =>
      unfold Figures.judgeAdvance at h
      simp only [on] at h
      split at h
      · exact nomatch h
      · split at h <;> exact nomatch h
    | none =>
      by_cases charged : f.Has fun l => j ∈ l.charges.map (·.1)
      · exact nomatch (judgeAdvance_of_conflict on charged).symm.trans h
      · cases needed : atOrAfter aE (f.timeToGreen j) with
        | true => exact nomatch (judgeAdvance_of_unneeded on charged needed).symm.trans h
        | false =>
          by_cases short : f.advanceAmount j (timeDiff (f.timeToGreen j) aE).toNat = 0 ∨
              f.advanceAmount j (timeDiff (f.timeToGreen j) aE).toNat < f.policy.aMin
          · exact nomatch (judgeAdvance_of_short on charged needed short).symm.trans h
          · have some : 1 ≤ f.advanceAmount j (timeDiff (f.timeToGreen j) aE).toNat := by omega
            have enough : f.policy.aMin ≤ f.advanceAmount j (timeDiff (f.timeToGreen j) aE).toNat := by omega
            exact ⟨rfl, charged, rfl, some, enough,
              Verdict.feasible.inj (h.symm.trans (judgeAdvance_of_enough on charged needed some enough))⟩
  · rintro ⟨alone, free, needed, some, enough, rfl⟩
    exact judgeAdvance_of_enough alone free needed some enough

end Figures

/-! ## What a full judgement writes (R87, R90, R93) -/

section FullTurn

variable {s : State} {f : Figures} {i : EntryIx} {e : Entry} {j : SlotIx} {d : Denial} {w : ActionMark}

/-- The entry's phase and its slot in the plan. -/
theorem State.fullTurn_of_no_slot (none : slotOf f.plan s.approaches[e.approach].phase = Option.none) :
    s.fullTurn f i e = s.deny i e .noPhase .none := by
  unfold State.fullTurn
  simp only [Figures.judge_of_no_slot none, none]

section Slot

variable (slot : slotOf f.plan s.approaches[e.approach].phase = some j)

include slot

theorem State.fullTurn_of_deny (judged : f.judge e s.approaches[e.approach].phase = .deny d w)
    (final : f.mayClear j d = false) : s.fullTurn f i e = s.deny i e d w := by
  unfold State.fullTurn
  simp only [judged, slot, final, Bool.false_eq_true, if_false]

theorem State.fullTurn_of_clearable (judged : f.judge e s.approaches[e.approach].phase = .deny d w)
    (clears : f.mayClear j d = true) : s.fullTurn f i e = s.clearTheWay f i e j d w := by
  unfold State.fullTurn
  simp only [judged, slot, clears, if_true]

theorem State.fullTurn_of_feasible {p : Proposal} (judged : f.judge e s.approaches[e.approach].phase = .feasible p) :
    s.fullTurn f i e = s.allot f i e j p := by
  unfold State.fullTurn
  simp only [judged, slot]

theorem State.fullTurn_of_join {c : ChannelIx} {n : Nat} (judged : f.judge e s.approaches[e.approach].phase = .join c n) :
    s.fullTurn f i e = s.join f i e c n := by
  unfold State.fullTurn
  simp only [judged, slot]

end Slot

theorem State.idleChannel_eq_none_iff (s : State) : s.idleChannel = none ↔ ∀ c : ChannelIx, s.channels[c].live ≠ none := by
  rw [State.idleChannel, List.find?_eq_none]
  simp only [Option.isNone_iff_eq_none]
  exact ⟨fun h c => h c (mem_allChannels c), fun h c _ => h c⟩

theorem State.allot_of_idle {c : ChannelIx} {p : Proposal} (idle : s.LowestIdle c) :
    s.allot f i e j p = s.grant f c i e p .decision := by
  unfold State.allot
  simp only [(s.idleChannel_eq_some_iff c).mpr idle]

theorem State.allot_of_barred {p : Proposal} (busy : ∀ c : ChannelIx, s.channels[c].live ≠ none)
    (off : s.policy.preemption = false) : s.allot f i e j p = s.deny i e .noChannel (proposalMark p) := by
  unfold State.allot
  simp only [s.idleChannel_eq_none_iff.mpr busy, off, Bool.not_false, if_true]

theorem Figures.mayClear_of_alone (alone : f.caseOf j = .extension → f.channelOn true f.step.cur = none)
    (h : d = .conflict ∨ d = .capacity) : f.mayClear j d = true := by
  have open_ : (!(decide (f.caseOf j = .extension) && (f.channelOn true f.step.cur).isSome)) = true := by
    by_cases extension : f.caseOf j = .extension
    · rw [alone extension]
      simp
    · simp [extension]
  rcases h with rfl | rfl <;> exact open_

/-- A channel in the way of a candidate for a slot (R92). -/
def Figures.InWay (f : Figures) (j : SlotIx) (l : LiveChannel) : Prop :=
  j ∈ l.charges.map (·.1) ∨ j = f.step.cur ∧ l.slot.val < f.plan.slots.length ∧ f.step.cur < l.slot

theorem Figures.inTheWay_iff (hits : f.IsCurrent j ∨ f.IsAhead j) (l : LiveChannel) :
    f.inTheWay j l = true ↔ f.InWay j l := by
  unfold Figures.inTheWay Figures.InWay
  rcases hits with current | ahead
  · simp only [Figures.caseOf_of_current current]
    simp only [Bool.or_eq_true, namesSlot_iff, List.contains_iff_mem, f.mem_after, current.1,
      true_and]
  · have apart : j ≠ f.step.cur := by
      rintro rfl
      rcases ahead with h | ⟨zero, other⟩
      · exact lt_irrefl _ h
      · exact other zero
    simp only [Figures.caseOf_of_ahead ahead, namesSlot_iff, apart, false_and, or_false]

/-- A denial stands without preemption, and where the channels in the way are not all of lower level or none is in the
way (R92). -/
def State.Stands (s : State) (f : Figures) (e : Entry) (j : SlotIx) : Prop :=
  s.policy.preemption = false ∨
    (∃ (c : ChannelIx) (l : LiveChannel), s.channels[c].live = some l ∧ f.InWay j l ∧ e.level ≤ l.level) ∨
    ∀ (c : ChannelIx) l, s.channels[c].live = some l → ¬ f.InWay j l

theorem State.endingThose_of_none {test : LiveChannel → Bool} {reason : ChannelIx → EndReason}
    (none : ∀ (c : ChannelIx) l, s.channels[c].live = some l → ¬ test l = true) : s.endingThose test reason = s := by
  rw [State.endingThose_eq_foldl]
  refine List.foldlRecOn (motive := fun u : State => u = s) allChannels _ rfl fun u same c _ => ?_
  subst same
  exact State.endIf_of_not_meets (fun ⟨l, live, meets⟩ => none c l live meets) reason

theorem State.any_blocker_iff (hits : f.IsCurrent j ∨ f.IsAhead j) :
    (((liveChannels s.channels).filter fun c => f.inTheWay j c.2).any fun c => decide (e.level ≤ c.2.level)) = true ↔
      ∃ (c : ChannelIx) (l : LiveChannel), s.channels[c].live = some l ∧ f.InWay j l ∧ e.level ≤ l.level := by
  simp only [List.any_filter, liveChannels_any_iff, Bool.and_eq_true, decide_eq_true_eq, Figures.inTheWay_iff hits]

theorem State.clearTheWay_of_stands (hits : f.IsCurrent j ∨ f.IsAhead j) (figures : s.figures = some f)
    (judged : f.judgeCase (effectiveWindow e f.t) j = .deny d w) (stands : s.Stands f e j) :
    s.clearTheWay f i e j d w = s.deny i e d w := by
  unfold State.clearTheWay
  simp only []
  by_cases barred : (!s.policy.preemption || ((liveChannels s.channels).filter fun c => f.inTheWay j c.2).any
      fun c => decide (e.level ≤ c.2.level)) = true
  · exact if_pos barred
  · rw [Bool.or_eq_true, not_or, State.any_blocker_iff hits, Bool.not_eq_true', Bool.not_eq_false] at barred
    have nothing : ∀ (c : ChannelIx) l, s.channels[c].live = some l → ¬ f.inTheWay j l = true := by
      rcases stands with off | higher | none
      · exact absurd (off.symm.trans barred.1) Bool.false_ne_true
      · exact absurd higher barred.2
      · exact fun c l live => mt (Figures.inTheWay_iff hits l).mp (none c l live)
    have same : s.endWhere (fun _ l => f.inTheWay j l) (fun _ => .preempted) = s :=
      (State.endWhere_eq_endingThose s _ _).trans (State.endingThose_of_none nothing)
    have infeasible : s.feasibleNow e j = none := by
      unfold State.feasibleNow
      simp only [figures, judged]
    rw [same]
    simp only [infeasible, ite_self]

end FullTurn

end Sys2Proof.Machine
end

section
namespace Sys2Proof.Machine

/-- An entry as a denial leaves it (R87). -/
def denied (e : Entry) (d : Denial) (st : EntryState) (w : ActionMark) : Entry :=
  { e with state := st, note := some (.denied d), wanted := w }

theorem State.deny_of_lasting {d : Denial} (h : d.isTemporary = false) (s : State) (i : EntryIx) (e : Entry) (w : ActionMark) :
    s.deny i e d w = s.setEntry i (some (denied e d .tracking w)) := by
  unfold State.deny
  rw [h]
  rfl

theorem State.deny_of_temporary {d : Denial} (h : d.isTemporary = true) (s : State) (i : EntryIx) (e : Entry) (w : ActionMark) :
    s.deny i e d w = s.setEntry i (some (denied e d .pending w)) := by
  unfold State.deny
  rw [h]
  rfl

/-- Settles O48: the skips, the denials in the order of the gates and checks, and the two kinds of grant. -/
theorem turnsGrantOrDeny : Obligations.TurnsGrantOrDeny := by
  intro s released
  refine ⟨fun idle => next_whenReleased released (State.takeTurn_of_idle idle),
    fun passing barred => next_whenReleased released (State.takeTurn_of_barred passing barred),
    fun i v rest f pass runs figures => ?_⟩
  have takes {t : State} (h : (s.atTurn rest).turn f i v = t) : exec .candidateTurn s = .next (t.afterTurn rest) :=
    next_whenReleased released ((State.takeTurn_of_listed pass runs figures).trans (congrArg (·.afterTurn rest) h))
  refine ⟨fun free => takes (State.turn_of_free (s := s.atTurn rest) free), fun e live => ⟨fun skips =>
    takes (State.turn_of_skipped (s := s.atTurn rest) live skips), fun c l d granted carries advances =>
    takes (State.turn_of_advance (s := s.atTurn rest) live granted carries advances), fun holds level free => ?_⟩⟩
  have judges {t : State} (h : (s.atTurn rest).fullTurn f i e = t) : exec .candidateTurn s = .next (t.afterTurn rest) :=
    takes ((State.turn_of_candidate (s := s.atTurn rest) live holds level free).trans h)
  intro denied aE aL ph
  refine ⟨fun none => judges (State.fullTurn_of_no_slot (s := s.atTurn rest) none), fun j slot => ?_⟩
  intro untouched inWay stands
  obtain ⟨time, policy, _, _⟩ := State.figures_eq figures
  obtain ⟨account, channels⟩ := State.figures_reads figures
  have deny {d : Denial} {w : ActionMark} (judged : f.judge e ph = .deny d w) (final : f.mayClear j d = false)
      (lasting : d.isTemporary = false) : denied d .tracking w :=
    judges ((State.fullTurn_of_deny (s := s.atTurn rest) slot judged final).trans (State.deny_of_lasting lasting ..))
  refine ⟨fun far => ?far, fun near => ?near⟩
  case far =>
    exact deny (Figures.judge_of_far slot (by rw [policy, time]; exact far)) rfl rfl
  case near =>
    have judge := Figures.judge_of_near (e := e) slot (by rw [policy, time]; exact near)
    have alone (open_ : untouched) (x : Bool) : f.channelOn x j = none :=
      (f.channelOn_eq_none_iff x j).mpr fun ⟨c, l, on, _, same⟩ => open_ c l (channels ▸ on) same
    have stand {d : Denial} {w : ActionMark} (hits : f.IsCurrent j ∨ f.IsAhead j)
        (judged : f.judgeCase (effectiveWindow e f.t) j = .deny d w) (kind : d = .conflict ∨ d = .capacity)
        (lone : f.channelOn true j = none) (stands : stands) :
        denied d .pending w := by
      have clears := Figures.mayClear_of_alone (d := d) (j := j) (fun case => ((f.caseOf_eq_extension_iff j).mp case).1 ▸ lone) kind
      exact judges ((State.fullTurn_of_clearable (s := s.atTurn rest) slot (judge.trans judged) clears).trans
        ((State.clearTheWay_of_stands (s := s.atTurn rest) hits figures judged stands).trans
          (State.deny_of_temporary (by rcases kind with rfl | rfl <;> rfl) ..)))
    have allots {p : Proposal} (judged : f.judgeCase (effectiveWindow e f.t) j = .feasible p) :
        (∀ c, s.LowestIdle c → exec .candidateTurn s =
          .next (((s.atTurn rest).grant f c i e p .decision).afterTurn rest)) ∧
        ((∀ c : ChannelIx, s.channels[c].live ≠ none) → s.policy.preemption = false →
          denied .noChannel .pending (proposalMark p)) := by
      have allot := State.fullTurn_of_feasible (s := s.atTurn rest) (i := i) slot (judge.trans judged)
      exact ⟨fun c idle => judges (allot.trans (State.allot_of_idle (s := s.atTurn rest) idle)),
        fun busy off => judges (allot.trans ((State.allot_of_barred (s := s.atTurn rest) busy off).trans
          (State.deny_of_temporary rfl ..)))⟩
    refine ⟨fun next => ?next, fun here green open_ => ?extension, fun ahead open_ => ?advance⟩
    case next =>
      refine deny (judge.trans (Figures.judgeCase_of_neither ?_ ?_)) rfl rfl
      · rintro ⟨same, green⟩
        rcases next with ⟨_, clear⟩ | ⟨behind, _⟩
        · exact clear green
        · exact absurd (same ▸ behind) (lt_irrefl _)
      · rintro (later | ⟨zero, other⟩)
        · rcases next with ⟨same, _⟩ | ⟨behind, _⟩
          · exact absurd (same ▸ later) (lt_irrefl _)
          · exact lt_asymm later behind
        · rcases next with ⟨same, _⟩ | ⟨_, nonzero⟩
          · exact other (same ▸ zero)
          · exact nonzero zero
    case extension =>
      subst here
      have current : f.IsCurrent f.step.cur := ⟨rfl, green⟩
      have lone := alone open_ true
      have extension := Figures.judgeCase_of_current (aE := aE) (aL := aL) current
      have window : effectiveWindow e f.t = (aE, aL) := by
        rw [time]
        rfl
      rw [← window] at extension
      refine ⟨fun unneeded => deny (judge.trans (extension.trans (Figures.judgeExtend_of_unneeded lone unneeded))) rfl rfl,
        fun needed => ?_⟩
      intro n charged
      have has : charged ↔ f.Has fun l => isExtend l = false ∧ f.step.cur ∈ l.charges.map (·.1) := by
        rw [Figures.Has, channels]
      have denies {d : Denial} (h : f.extensionDenial n = some d) :
          f.judgeCase (effectiveWindow e f.t) f.step.cur = .deny d .extend :=
        extension.trans (Figures.judgeExtend_of_denied lone needed h)
      refine ⟨fun over_ => deny (judge.trans (denies (Figures.extensionDenial_of_limit (by rw [account]; exact over_)))) rfl rfl,
        fun fits unpaid => ?_, fun fits paid stands => ?_⟩
      all_goals rw [← account] at fits
      · refine ⟨fun short stands => ?_, fun room short => ?_, fun room budget => ?_⟩
        · exact stand (.inl current) (denies (Figures.extensionDenial_of_capacity fits (mt has.mpr unpaid) short)) (.inr rfl)
            lone stands
        · rw [← account] at short
          exact judges ((State.fullTurn_of_deny (s := s.atTurn rest) slot (judge.trans (denies
            (Figures.extensionDenial_of_budget fits (mt has.mpr unpaid) room short))) rfl).trans (State.deny_of_temporary rfl ..))
        · rw [← account] at budget
          obtain ⟨grants, barred⟩ := allots (extension.trans (Figures.judgeExtend_of_passes lone needed
            (Figures.extensionDenial_of_passes fits (mt has.mpr unpaid) room budget)))
          exact ⟨fun c idle => ⟨_, _, grants c idle, f.extendRecord_extends n i e.level .decision,
            (s.atTurn rest).grant_granted account c i e (.extend n) .decision⟩, barred⟩
      · exact stand (.inl current) (denies (Figures.extensionDenial_of_conflict fits (has.mp paid))) (.inl rfl) lone stands
    case advance =>
      have lone := alone open_ false
      have advance := Figures.judgeCase_of_ahead (aE := aE) (aL := aL) ahead
      have window : effectiveWindow e f.t = (aE, aL) := by
        rw [time]
        rfl
      rw [← window] at advance
      intro charged
      have has : charged ↔ f.Has fun l => j ∈ l.charges.map (·.1) := by
        rw [Figures.Has, channels]
      refine ⟨fun paid stands => ?_, fun unpaid => ⟨fun unneeded => ?_, fun needed => ?_⟩⟩
      · exact stand (.inr ahead) (advance.trans (Figures.judgeAdvance_of_conflict lone (has.mp paid))) (.inl rfl)
          (alone open_ true) stands
      · exact deny (judge.trans (advance.trans (Figures.judgeAdvance_of_unneeded lone (mt has.mpr unpaid) unneeded))) rfl rfl
      · intro n
        have amount : n = f.advanceAmount j (timeDiff (f.timeToGreen j) aE).toNat := by rw [Figures.advanceAmount, account]
        rw [← policy, amount]
        refine ⟨fun short => ?_, fun some enough => ?_⟩
        · exact deny (judge.trans (advance.trans (Figures.judgeAdvance_of_short lone (mt has.mpr unpaid) needed short))) rfl rfl
        · obtain ⟨grants, barred⟩ := allots (advance.trans
            (Figures.judgeAdvance_of_enough lone (mt has.mpr unpaid) needed some enough))
          rw [policy]
          exact ⟨fun c idle => ⟨_, _, grants c idle, f.advanceRecord_advances j _ i e.level .decision,
            (s.atTurn rest).grant_granted account c i e (.advance j _) .decision⟩, barred⟩

end Sys2Proof.Machine
end

end

section
/-! PROOFS. Joins, top-ups and preemption (O49). -/

section
namespace Sys2Proof.Machine

/-! ## Joins (R88, R89) -/

namespace Figures

variable {f : Figures} {j : SlotIx} {aE aL : Time} {c : ChannelIx} {l : LiveChannel}

section AdvanceJoin

variable (on : f.channelOn false j = some (c, l))

include on

theorem judgeAdvance_of_crowded (full : 4 ≤ l.riders.length) : f.judgeAdvance aE j = .deny .ridersFull .advance := by
  unfold Figures.judgeAdvance
  simp only [on]
  exact if_pos full

variable (room : l.riders.length < 4)

include room

theorem judgeAdvance_of_early (h : atOrAfter aE (timePlus (f.timeToGreen j) l.amount) = true) :
    f.judgeAdvance aE j = .deny .noneNeeded .none := by
  unfold Figures.judgeAdvance
  simp only [on]
  exact (if_neg (not_le.mpr room)).trans (if_pos h)

theorem judgeAdvance_of_joins (h : atOrAfter aE (timePlus (f.timeToGreen j) l.amount) = false) :
    f.judgeAdvance aE j = .join c 0 := by
  unfold Figures.judgeAdvance
  simp only [on]
  exact (if_neg (not_le.mpr room)).trans (if_neg (by rw [h]; exact Bool.false_ne_true))

end AdvanceJoin

section ExtendJoin

variable (on : f.channelOn true f.step.cur = some (c, l))

include on

theorem judgeExtend_of_crowded (full : 4 ≤ l.riders.length) : f.judgeExtend aL = .deny .ridersFull .extend := by
  unfold Figures.judgeExtend Figures.judgeExtendJoin
  simp only [on]
  exact if_pos full

variable (room : l.riders.length < 4)

include room

theorem judgeExtend_of_early (h : atOrAfter (timePlus f.plannedEnd (-(l.amount : Int))) aL = true) :
    f.judgeExtend aL = .deny .noneNeeded .none := by
  unfold Figures.judgeExtend Figures.judgeExtendJoin
  simp only [on]
  exact (if_neg (not_le.mpr room)).trans (if_pos h)

variable (needed : atOrAfter (timePlus f.plannedEnd (-(l.amount : Int))) aL = false)

include needed

theorem judgeExtend_of_covered (h : atOrAfter f.plannedEnd aL = true) : f.judgeExtend aL = .join c 0 := by
  unfold Figures.judgeExtend Figures.judgeExtendJoin
  simp only [on, needed, h, Bool.false_eq_true, if_false, if_true]
  exact if_neg (not_le.mpr room)

variable (beyond : atOrAfter f.plannedEnd aL = false)

include beyond

theorem judgeExtend_of_refused {d : Denial} (h : f.extensionDenial (timeDiff aL f.referenceEnd).toNat = some d) :
    f.judgeExtend aL = .deny d .extend := by
  unfold Figures.judgeExtend Figures.judgeExtendJoin
  simp only [on, needed, beyond, h, Bool.false_eq_true, if_false]
  exact if_neg (not_le.mpr room)

theorem judgeExtend_of_topped (h : f.extensionDenial (timeDiff aL f.referenceEnd).toNat = none) :
    f.judgeExtend aL = .join c (timeDiff aL f.referenceEnd).toNat := by
  unfold Figures.judgeExtend Figures.judgeExtendJoin
  simp only [on, needed, beyond, h, Bool.false_eq_true, if_false]
  exact if_neg (not_le.mpr room)

end ExtendJoin

/-- The denials of an extension's or a top-up's checks mark EXTEND (R85, R89). -/
theorem judgeExtend_mark {d : Denial} {w : ActionMark} (kind : d ≠ .noneNeeded) (h : f.judgeExtend aL = .deny d w) :
    w = .extend := by
  unfold Figures.judgeExtend Figures.judgeExtendJoin at h
  split at h
  · split at h
    · exact (Verdict.deny.inj h).2.symm
    · split at h
      · exact absurd (Verdict.deny.inj h).1.symm kind
      · split at h
        · exact nomatch h
        · simp only [] at h
          split at h
          · exact (Verdict.deny.inj h).2.symm
          · exact nomatch h
  · split at h
    · exact absurd (Verdict.deny.inj h).1.symm kind
    · simp only [] at h
      split at h
      · exact (Verdict.deny.inj h).2.symm
      · exact nomatch h

/-- The denials of an advance's checks mark ADVANCE (R86). -/
theorem judgeAdvance_mark {d : Denial} {w : ActionMark} (kind : d ≠ .noneNeeded) (h : f.judgeAdvance aE j = .deny d w) :
    w = .advance := by
  unfold Figures.judgeAdvance at h
  split at h
  · split at h
    · exact (Verdict.deny.inj h).2.symm
    · split at h
      · exact absurd (Verdict.deny.inj h).1.symm kind
      · exact nomatch h
  · split at h
    · exact (Verdict.deny.inj h).2.symm
    · split at h
      · exact absurd (Verdict.deny.inj h).1.symm kind
      · simp only [] at h
        split at h
        · exact (Verdict.deny.inj h).2.symm
        · exact nomatch h

theorem IsAhead.ne (h : f.IsAhead j) : j ≠ f.step.cur := by
  rintro rfl
  exact h.elim (lt_irrefl _) fun ⟨zero, other⟩ => other zero

/-- The case of a CONFLICT or CAPACITY denial is an extension or an advance, and its mark says which. -/
theorem judgeCase_of_clearable {d : Denial} {w : ActionMark} (kind : d = .conflict ∨ d = .capacity)
    (h : f.judgeCase (aE, aL) j = .deny d w) :
    (f.IsCurrent j ∨ f.IsAhead j) ∧ w = if j = f.step.cur then .extend else .advance := by
  have needed : d ≠ .noneNeeded := by rcases kind with rfl | rfl <;> nofun
  by_cases current : f.IsCurrent j
  · rw [judgeCase_of_current current] at h
    exact ⟨.inl current, (judgeExtend_mark needed h).trans (if_pos current.1).symm⟩
  · by_cases ahead : f.IsAhead j
    · rw [judgeCase_of_ahead ahead] at h
      exact ⟨.inr ahead, (judgeAdvance_mark needed h).trans (if_neg ahead.ne).symm⟩
    · rw [judgeCase_of_neither current ahead] at h
      obtain ⟨rfl, _⟩ := Verdict.deny.inj h
      exact absurd kind (by decide)

/-- A proposal for a slot is of that slot's case (R84). -/
theorem judgeCase_of_feasible {p : Proposal} (h : f.judgeCase (aE, aL) j = .feasible p) :
    (f.IsCurrent j ∧ f.judgeExtend aL = .feasible p) ∨ (f.IsAhead j ∧ f.judgeAdvance aE j = .feasible p) := by
  by_cases current : f.IsCurrent j
  · exact .inl ⟨current, judgeCase_of_current current ▸ h⟩
  · by_cases ahead : f.IsAhead j
    · exact .inr ⟨ahead, judgeCase_of_ahead ahead ▸ h⟩
    · exact nomatch (judgeCase_of_neither current ahead).symm.trans h

/-- The mark of a proposal's case (R87). -/
theorem proposalMark_of_feasible {p : Proposal} (h : f.judgeCase (aE, aL) j = .feasible p) :
    proposalMark p = if j = f.step.cur then .extend else .advance := by
  rcases judgeCase_of_feasible h with ⟨current, h⟩ | ⟨ahead, h⟩
  · obtain ⟨_, _, _, rfl⟩ := (judgeExtend_eq_feasible_iff p).mp h
    exact (if_pos current.1).symm
  · obtain ⟨_, _, _, _, _, rfl⟩ := (judgeAdvance_eq_feasible_iff p).mp h
    exact (if_neg ahead.ne).symm

theorem judgeCase_eq_extend_iff (n : Nat) : f.judgeCase (aE, aL) j = .feasible (.extend n) ↔
    j = f.step.cur ∧ f.step.period = .green ∧ ¬ f.Has (fun l => isExtend l = true ∧ l.slot = j) ∧
    atOrAfter f.plannedEnd aL = false ∧ n = (timeDiff aL f.referenceEnd).toNat ∧
    f.account.xcur + n ≤ (slotAt f.plan j).e ∧ ¬ f.Has (fun l => isExtend l = false ∧ j ∈ l.charges.map (·.1)) ∧
    n ≤ f.sExt ∧ n ≤ f.account.budgetLeft := by
  constructor
  · intro h
    rcases judgeCase_of_feasible h with ⟨⟨rfl, green⟩, g⟩ | ⟨_, g⟩
    · obtain ⟨alone, needed, passes, amount⟩ := (judgeExtend_eq_feasible_iff _).mp g
      obtain rfl := Proposal.extend.inj amount
      obtain ⟨fits, free, room, budget⟩ := (f.extensionDenial_eq_none_iff _).mp passes
      exact ⟨rfl, green, (f.channelOn_eq_none_iff true _).mp alone, needed, rfl, fits, free, room, budget⟩
    · obtain ⟨_, _, _, _, _, other⟩ := (judgeAdvance_eq_feasible_iff _).mp g
      exact nomatch other
  · rintro ⟨rfl, green, alone, needed, rfl, fits, free, room, budget⟩
    rw [judgeCase_of_current ⟨rfl, green⟩, judgeExtend_eq_feasible_iff]
    exact ⟨(f.channelOn_eq_none_iff true _).mpr alone, needed, extensionDenial_of_passes fits free room budget, rfl⟩

theorem judgeCase_eq_advance_iff (k : SlotIx) (n : Nat) : f.judgeCase (aE, aL) j = .feasible (.advance k n) ↔
    k = j ∧ f.IsAhead j ∧ ¬ f.Has (fun l => isExtend l = false ∧ l.slot = j) ∧ ¬ f.Has (fun l => j ∈ l.charges.map (·.1)) ∧
    atOrAfter aE (f.timeToGreen j) = false ∧ n = f.advanceAmount j (timeDiff (f.timeToGreen j) aE).toNat ∧ 1 ≤ n ∧
    f.policy.aMin ≤ n := by
  constructor
  · intro h
    rcases judgeCase_of_feasible h with ⟨_, h⟩ | ⟨ahead, h⟩
    · obtain ⟨_, _, _, other⟩ := (judgeExtend_eq_feasible_iff _).mp h
      exact nomatch other
    · obtain ⟨alone, free, needed, some, enough, amount⟩ := (judgeAdvance_eq_feasible_iff _).mp h
      obtain ⟨rfl, rfl⟩ := Proposal.advance.inj amount
      exact ⟨rfl, ahead, (f.channelOn_eq_none_iff false k).mp alone, free, needed, rfl, some, enough⟩
  · rintro ⟨rfl, ahead, alone, free, needed, rfl, some, enough⟩
    rw [judgeCase_of_ahead ahead, judgeAdvance_eq_feasible_iff]
    exact ⟨(f.channelOn_eq_none_iff false k).mpr alone, free, needed, some, enough, rfl⟩

end Figures

section Join

variable {s : State} {f : Figures} {i : EntryIx} {e : Entry} {c : ChannelIx} {l : LiveChannel}

/-- A rider added to a live channel (R88). -/
theorem State.addRider_of_live (live : s.channels[c].live = some l) : s.addRider c i e =
    (s.setEntry i (some (riding e c (markOf l) l.amount))).setChannel c { s.channels[c] with
      live := some { l with
        riders := l.riders ++ [i]
        level := (s.setEntry i (some (riding e c (markOf l) l.amount))).ridersLevel (l.riders ++ [i]) } } := by
  unfold State.addRider
  simp only [live]
  rfl

theorem State.join_of_plain (live : s.channels[c].live = some l) : s.join f i e c 0 = s.addRider c i e := by
  unfold State.join
  simp only [live]
  rfl

theorem State.join_of_topUp (live : s.channels[c].live = some l) {n : Nat} (some : n ≠ 0) :
    s.join f i e c n = (s.topUp f c l n).addRider c i e := by
  unfold State.join
  simp only [live]
  rw [if_neg some]

end Join

/-! ## Top-ups (R89, R106) -/

section TopUp

variable (s : State) (f : Figures) (c : ChannelIx) (l : LiveChannel) (n : Nat)

theorem State.raiseGranted_frame (i : EntryIx) : State.raiseGranted n s i = { s with table := (State.raiseGranted n s i).table } := by
  unfold State.raiseGranted
  split <;> rfl

theorem State.raiseGranted_table (i k : EntryIx) : (State.raiseGranted n s i).table[k] =
    if k = i then (s.table[i]).map (fun e => { e with grantedTotal := min 65535 (e.grantedTotal + n) }) else s.table[k] := by
  unfold State.raiseGranted
  by_cases same : k = i
  · subst same
    rw [if_pos rfl]
    cases live : s.table[k] with
    | none => exact live
    | some e => exact put_same ..
  · rw [if_neg same]
    cases live : s.table[i] with
    | none => rfl
    | some e => exact put_other _ _ same

theorem State.raisings_frame (riders : List EntryIx) :
    riders.foldl (State.raiseGranted n) s = { s with table := (riders.foldl (State.raiseGranted n) s).table } := by
  induction riders generalizing s with
  | nil => rfl
  | cons i is ih => rw [List.foldl_cons, ih, s.raiseGranted_frame n i]

/-- Each rider of a list has its granted total raised once (R89). -/
theorem State.raisings_table {riders : List EntryIx} (apart : riders.Nodup) (k : EntryIx) :
    (riders.foldl (State.raiseGranted n) s).table[k] =
      if k ∈ riders then (s.table[k]).map (fun e => { e with grantedTotal := min 65535 (e.grantedTotal + n) }) else s.table[k] := by
  induction riders generalizing s with
  | nil => exact (if_neg List.not_mem_nil).symm
  | cons i is ih =>
    obtain ⟨first, apart⟩ := List.nodup_cons.mp apart
    rw [List.foldl_cons, ih _ apart, s.raiseGranted_table n i k]
    by_cases same : k = i
    · subst same
      rw [if_neg first, if_pos rfl, if_pos List.mem_cons_self]
    · rw [if_neg same]
      refine if_congr ?_ rfl rfl
      rw [List.mem_cons, or_iff_right same]

/-- The state whose riders' totals a top-up raises: its account is charged (R94). -/
def State.toppedAccount : State :=
  { s with account := { chargeAll f.plan f.account (f.allocation f.extensionSlots n) with
      xcur := (chargeAll f.plan f.account (f.allocation f.extensionSlots n)).xcur + n } }

/-- The record of a channel topped up, but for its level. -/
def Figures.topped : LiveChannel := toppedUp l n (f.allocation f.extensionSlots n)

theorem State.topUp_eq : s.topUp f c l n =
    (l.riders.foldl (State.raiseGranted n) (s.toppedAccount f n)).setChannel c { s.channels[c] with
      live := some { f.topped l n with
        level := (l.riders.foldl (State.raiseGranted n) (s.toppedAccount f n)).ridersLevel l.riders } } := by
  have frame := (s.toppedAccount f n).raisings_frame n l.riders
  have channels : (l.riders.foldl (State.raiseGranted n) (s.toppedAccount f n)).channels = s.channels := by
    rw [frame]
    rfl
  rw [← channels]
  rfl

theorem State.topUp_frame (same : f.account = s.account) : s.topUp f c l n = { s with
    account := { chargeAll f.plan s.account (f.allocation f.extensionSlots n) with xcur := s.account.xcur + n }
    channels := (s.topUp f c l n).channels, table := (s.topUp f c l n).table } := by
  have frame := (s.toppedAccount f n).raisings_frame n l.riders
  have account : (s.toppedAccount f n).account =
      { chargeAll f.plan s.account (f.allocation f.extensionSlots n) with xcur := s.account.xcur + n } := by
    rw [State.toppedAccount, chargeAll_xcur, same]
  rw [← account, s.topUp_eq, frame]
  rfl

theorem State.topUp_channels_other {b : ChannelIx} (apart : b ≠ c) : (s.topUp f c l n).channels[b] = s.channels[b] := by
  have frame := (s.toppedAccount f n).raisings_frame n l.riders
  rw [s.topUp_eq]
  refine (put_other _ _ apart).trans ?_
  rw [frame]
  rfl

theorem State.topUp_channels_same : (s.topUp f c l n).channels[c] = { s.channels[c] with
    live := some { f.topped l n with
      level := (l.riders.foldl (State.raiseGranted n) (s.toppedAccount f n)).ridersLevel l.riders } } := by
  rw [s.topUp_eq]
  exact put_same ..

theorem State.topUp_table : (s.topUp f c l n).table = (l.riders.foldl (State.raiseGranted n) (s.toppedAccount f n)).table := by
  rw [s.topUp_eq]
  rfl

end TopUp

end Sys2Proof.Machine
end

section
namespace Sys2Proof.Machine

/-! ## What joins and top-ups write -/

/-- The highest level of a list is one of the table's levels alone. -/
theorem State.isHighest_congr {s t : State} (same : ∀ k : EntryIx, (t.table[k]).map (·.level) = (s.table[k]).map (·.level))
    {riders : List EntryIx} {h : Nat} (highest : t.IsHighest riders h) : s.IsHighest riders h := by
  have carried {k : EntryIx} {e : Entry} {s t : State} (same : (t.table[k]).map (·.level) = (s.table[k]).map (·.level))
      (live : s.table[k] = some e) : ∃ g, t.table[k] = some g ∧ g.level = e.level := by
    rw [live] at same
    exact Option.map_eq_some_iff.mp same
  obtain ⟨bound, reached⟩ := highest
  refine ⟨fun k mem e live => ?_, reached.imp_right fun ⟨k, mem, g, live, level⟩ => ?_⟩
  · obtain ⟨g, live', level⟩ := carried (same k) live
    exact level ▸ bound k mem g live'
  · obtain ⟨e, live', level'⟩ := carried (same k).symm live
    exact ⟨k, mem, e, live', level'.trans level⟩

section Write

variable {u : State} {f : Figures} {c : ChannelIx} {l : LiveChannel} {n rem : Nat} {rf : Time}

/-- The record of an extension topped up (R89). -/
theorem Figures.topped_eq (extends_ : l.action = .extend rem rf) : f.topped l n = { l with
    amount := l.amount + n, action := .extend (rem + n) rf
    charges := mergePairs l.charges (f.allocation f.extensionSlots n) } := by
  unfold Figures.topped toppedUp
  simp only [extends_]

variable (same : f.account = u.account) (extends_ : l.action = .extend rem rf) (apart : l.riders.Nodup)

include same extends_ apart

/-- What a top-up writes (R89, R106). -/
theorem State.topUp_writes :
    u.topUp f c l n = { u with
      account := { chargeAll f.plan u.account (f.allocation f.extensionSlots n) with xcur := u.account.xcur + n }
      channels := (u.topUp f c l n).channels, table := (u.topUp f c l n).table } ∧
    (∃ h, (u.topUp f c l n).channels[c] = { u.channels[c] with live := some { l with
        amount := l.amount + n, action := .extend (rem + n) rf
        charges := mergePairs l.charges (f.allocation f.extensionSlots n), level := h } } ∧ u.IsHighest l.riders h) ∧
    (∀ b, b ≠ c → (u.topUp f c l n).channels[b] = u.channels[b]) ∧
    (∀ (k : EntryIx) g, k ∈ l.riders → u.table[k] = some g →
      (u.topUp f c l n).table[k] = some { g with grantedTotal := min 65535 (g.grantedTotal + n) }) ∧
    ∀ k, k ∉ l.riders → (u.topUp f c l n).table[k] = u.table[k] := by
  have table (k : EntryIx) : (u.topUp f c l n).table[k] =
      if k ∈ l.riders then (u.table[k]).map (fun e => { e with grantedTotal := min 65535 (e.grantedTotal + n) })
      else u.table[k] := by
    rw [u.topUp_table]
    exact (u.toppedAccount f n).raisings_table n apart k
  refine ⟨u.topUp_frame f c l n same, ⟨_, (u.topUp_channels_same f c l n).trans ?_, State.isHighest_congr (fun k => ?_)
    ((l.riders.foldl (State.raiseGranted n) (u.toppedAccount f n)).ridersLevel_isHighest _)⟩, fun b other => u.topUp_channels_other f c l n other,
    fun k g mem live => by rw [table, if_pos mem, live]; rfl, fun k absent => by rw [table, if_neg absent]⟩
  · rw [Figures.topped_eq extends_]
  · rw [← u.topUp_table f c l n, table]
    split
    · cases u.table[k] <;> rfl
    · rfl

/-- What a join with its top-up writes (R88, R89). -/
theorem State.topUp_joins {i : EntryIx} {e : Entry} (fresh : i ∉ l.riders) {t : State}
    (joins : t = (u.topUp f c l n).addRider c i e) :
    t = { u with
      account := { chargeAll f.plan u.account (f.allocation f.extensionSlots n) with xcur := u.account.xcur + n }
      channels := t.channels, table := t.table } ∧
    (∃ h, t.channels[c] = { u.channels[c] with live := some { l with
        amount := l.amount + n, action := .extend (rem + n) rf
        charges := mergePairs l.charges (f.allocation f.extensionSlots n), riders := l.riders ++ [i], level := h } } ∧
      t.IsHighest (l.riders ++ [i]) h) ∧
    (∀ b, b ≠ c → t.channels[b] = u.channels[b]) ∧ t.table[i] = some (riding e c .extend (l.amount + n)) ∧
    (∀ (k : EntryIx) g, k ∈ l.riders → u.table[k] = some g →
      t.table[k] = some { g with grantedTotal := min 65535 (g.grantedTotal + n) }) ∧
    ∀ k, k ∉ l.riders → k ≠ i → t.table[k] = u.table[k] := by
  obtain ⟨frame, ⟨h, record, _⟩, others, raised, kept⟩ := State.topUp_writes (c := c) (n := n) same extends_ apart
  have live := congrArg Channel.live record
  rw [State.addRider_of_live live] at joins
  have mark : markOf { l with
      amount := l.amount + n, action := .extend (rem + n) rf
      charges := mergePairs l.charges (f.allocation f.extensionSlots n), level := h } = .extend := rfl
  rw [mark] at joins
  generalize u.topUp f c l n = v at *
  subst joins
  refine ⟨?_, ⟨_, (put_same ..).trans ?_, State.ridersLevel_isHighest _ _⟩, fun b other => (put_other _ _ other).trans (others b other),
    put_same .., fun k g mem liveK => (put_other _ _ (show k ≠ i from fun h => fresh (h ▸ mem))).trans (raised k g mem liveK),
    fun k absent other => (put_other _ _ other).trans (kept k absent)⟩
  · rw [frame]
    rfl
  · rw [record]
    rfl

end Write

/-! ## A rider's own turn (R83, R89) -/

section Rider

variable {s : State} {f : Figures} {i : EntryIx} {e : Entry} {c : ChannelIx} {l : LiveChannel}

theorem State.topUpTurn_of_covered (h : atOrAfter f.plannedEnd (laterOf e.windowL f.t) = true) : s.topUpTurn f i e c l = s :=
  if_pos h

variable (needed : atOrAfter f.plannedEnd (laterOf e.windowL f.t) = false)

include needed

theorem State.topUpTurn_of_refused {d : Denial}
    (h : f.extensionDenial (timeDiff (laterOf e.windowL f.t) f.referenceEnd).toNat = some d) :
    s.topUpTurn f i e c l = s.setEntry i (some (denied e d e.state .extend)) := by
  unfold State.topUpTurn effectiveWindow
  simp only [needed, h, Bool.false_eq_true, if_false]
  rfl

theorem State.topUpTurn_of_passes (h : f.extensionDenial (timeDiff (laterOf e.windowL f.t) f.referenceEnd).toNat = none) :
    s.topUpTurn f i e c l = s.topUp f c l (timeDiff (laterOf e.windowL f.t) f.referenceEnd).toNat := by
  unfold State.topUpTurn effectiveWindow
  simp only [needed, h, Bool.false_eq_true, if_false]

end Rider

/-! ## Channels preempted (R91, R92) -/

section Preempt

/-- One live channel is preempted before another: the lower level, then the later grant, then the higher number (R91). -/
def PreemptedBefore (c : ChannelIx) (l : LiveChannel) (b : ChannelIx) (m : LiveChannel) : Prop :=
  l.level < m.level ∨ l.level = m.level ∧ (isLater l.grantTime m.grantTime = true ∨ l.grantTime = m.grantTime ∧ b < c)

theorem isLater_asymm {x y : Time} (h : isLater x y = true) : isLater y x = false := by
  simp only [isLater, timeDiff, decide_eq_true_eq, decide_eq_false_iff_not, BitVec.toInt_eq_toNat_cond, BitVec.toNat_sub] at *
  have hx := x.isLt
  have hy := y.isLt
  split at h <;> split <;> omega

theorem isLater_self (x : Time) : isLater x x = false := by
  rw [isLater, timeDiff, BitVec.sub_self]
  rfl

/-- The victim met first stays the choice. -/
theorem worseVictim_of_first {x y : ChannelIx × LiveChannel} (order : x.1 < y.1) (h : PreemptedBefore x.1 x.2 y.1 y.2) :
    worseVictim x y = x := by
  unfold worseVictim
  rcases h with lower | ⟨same, later | ⟨_, behind⟩⟩
  · exact if_pos lower
  · rw [if_neg (by omega), if_neg (by omega), if_pos later]
  · exact absurd behind (lt_asymm order)

/-- The victim met later becomes the choice. -/
theorem worseVictim_of_second {x y : ChannelIx × LiveChannel} (h : PreemptedBefore y.1 y.2 x.1 x.2) : worseVictim x y = y := by
  unfold worseVictim
  rcases h with lower | ⟨same, later | ⟨same', _⟩⟩
  · rw [if_neg (by omega), if_pos lower]
  · rw [if_neg (by omega), if_neg (by omega), if_neg (by rw [isLater_asymm later]; exact Bool.false_ne_true)]
  · rw [if_neg (by omega), if_neg (by omega), if_neg (by rw [same', isLater_self]; exact Bool.false_ne_true)]

theorem worseVictim_cases (x y : ChannelIx × LiveChannel) : worseVictim x y = x ∨ worseVictim x y = y := by
  unfold worseVictim
  split
  · exact .inl rfl
  · split
    · exact .inr rfl
    · split
      · exact .inl rfl
      · exact .inr rfl

/-- The channel that comes before every other is what the fold keeps. -/
theorem foldl_worseVictim {v : ChannelIx × LiveChannel} {xs : List (ChannelIx × LiveChannel)} {x : ChannelIx × LiveChannel}
    (order : (x :: xs).Pairwise fun y z => y.1 < z.1) (mem : v ∈ x :: xs)
    (before : ∀ y ∈ x :: xs, y.1 ≠ v.1 → PreemptedBefore v.1 v.2 y.1 y.2) : xs.foldl worseVictim x = v := by
  induction xs generalizing x with
  | nil => exact (List.mem_singleton.mp mem).symm
  | cons y ys ih =>
    obtain ⟨first, rest⟩ := List.pairwise_cons.mp order
    obtain ⟨second, rest'⟩ := List.pairwise_cons.mp rest
    have order' (z : ChannelIx × LiveChannel) (h : z = x ∨ z = y) : (z :: ys).Pairwise fun y z => y.1 < z.1 := by
      refine List.pairwise_cons.mpr ⟨fun w hw => ?_, rest'⟩
      rcases h with rfl | rfl
      · exact first w (List.mem_cons_of_mem y hw)
      · exact second w hw
    have before' (z : ChannelIx × LiveChannel) (h : z = x ∨ z = y) :
        ∀ w ∈ z :: ys, w.1 ≠ v.1 → PreemptedBefore v.1 v.2 w.1 w.2 := fun w hw => by
      rcases List.mem_cons.mp hw with rfl | hw
      · refine before w ?_
        rcases h with rfl | rfl
        · exact List.mem_cons_self
        · exact List.mem_cons_of_mem x List.mem_cons_self
      · exact before w (List.mem_cons_of_mem x (List.mem_cons_of_mem y hw))
    have chosen := worseVictim_cases x y
    rw [List.foldl_cons]
    refine ih (order' _ chosen) ?_ (before' _ chosen)
    rcases List.mem_cons.mp mem with rfl | mem
    · have stays := worseVictim_of_first (first y List.mem_cons_self)
        (before y (List.mem_cons_of_mem v List.mem_cons_self) (ne_of_gt (first y List.mem_cons_self)))
      exact List.mem_cons.mpr (.inl stays.symm)
    · rcases List.mem_cons.mp mem with rfl | mem
      · have turns := worseVictim_of_second (before x List.mem_cons_self (ne_of_lt (first v List.mem_cons_self)))
        exact List.mem_cons.mpr (.inl turns.symm)
      · exact List.mem_cons_of_mem _ mem

theorem mem_liveChannels (cs : Vector Channel 4) (x : ChannelIx × LiveChannel) :
    x ∈ liveChannels cs ↔ cs[x.1].live = some x.2 := by
  simp only [liveChannels, List.mem_filterMap, Option.map_eq_some_iff]
  constructor
  · rintro ⟨c, _, l, live, rfl⟩
    exact live
  · exact fun live => ⟨x.1, mem_allChannels x.1, x.2, live, rfl⟩

theorem liveChannels_order (cs : Vector Channel 4) : (liveChannels cs).Pairwise fun x y => x.1 < y.1 := by
  refine List.pairwise_filterMap.mpr ((by decide : allChannels.Pairwise (· < ·)).imp fun h => ?_)
  simp only [Option.map_eq_some_iff]
  rintro _ ⟨l, _, rfl⟩ _ ⟨m, _, rfl⟩
  exact h

variable {s : State} {level : Nat}

theorem State.channelVictim_of_none (none : ∀ (c : ChannelIx) l, s.channels[c].live = some l → level ≤ l.level) :
    s.channelVictim level = Option.none := by
  have empty : ((liveChannels s.channels).filter fun c => decide (c.2.level < level)) = [] := by
    refine List.filter_eq_nil_iff.mpr fun x mem => ?_
    rw [decide_eq_true_iff, not_lt]
    exact none x.1 x.2 ((mem_liveChannels _ x).mp mem)
  unfold State.channelVictim
  rw [empty]

theorem State.channelVictim_of_first {c : ChannelIx} {l : LiveChannel} (live : s.channels[c].live = some l)
    (lower : l.level < level) (before : ∀ (b : ChannelIx) m, b ≠ c → s.channels[b].live = some m → m.level < level →
      PreemptedBefore c l b m) : s.channelVictim level = some (c, l) := by
  have mem_iff (x : ChannelIx × LiveChannel) : x ∈ ((liveChannels s.channels).filter fun c => decide (c.2.level < level)) ↔
      s.channels[x.1].live = some x.2 ∧ x.2.level < level := by
    rw [List.mem_filter, mem_liveChannels, decide_eq_true_iff]
  have order := (liveChannels_order s.channels).filter fun c => decide (c.2.level < level)
  unfold State.channelVictim
  generalize ((liveChannels s.channels).filter fun c => decide (c.2.level < level)) = xs at *
  cases xs with
  | nil => exact absurd ((mem_iff (c, l)).mpr ⟨live, lower⟩) List.not_mem_nil
  | cons x xs =>
    refine congrArg some (foldl_worseVictim order ((mem_iff (c, l)).mpr ⟨live, lower⟩) fun y hy apart => ?_)
    obtain ⟨liveY, lowerY⟩ := (mem_iff y).mp hy
    exact before y.1 y.2 apart liveY lowerY

end Preempt

end Sys2Proof.Machine
end

section
namespace Sys2Proof.Machine

/-! ## Grants after preemption (R91, R92) -/

section Preempting

variable {s : State} {f g : Figures} {i : EntryIx} {e : Entry} {j : SlotIx}

theorem State.feasibleNow_of_feasible (figures : s.figures = some g) {q : Proposal}
    (h : g.judgeCase (effectiveWindow e g.t) j = .feasible q) : s.feasibleNow e j = some (g, q) := by
  unfold State.feasibleNow
  simp only [figures, h]

theorem State.feasibleNow_of_infeasible (figures : s.figures = some g)
    (h : ∀ q, g.judgeCase (effectiveWindow e g.t) j ≠ .feasible q) : s.feasibleNow e j = none := by
  unfold State.feasibleNow
  rw [figures]
  cases judged : g.judgeCase (effectiveWindow e g.t) j with
  | feasible q => exact absurd judged (h q)
  | deny d w =>
    simp only [judged]
  | join c n =>
    simp only [judged]

section Full

variable {p : Proposal} (busy : ∀ c : ChannelIx, s.channels[c].live ≠ none) (on : s.policy.preemption = true)

include busy on

theorem State.allot_of_no_victim (none : s.channelVictim e.level = Option.none) :
    s.allot f i e j p = s.deny i e .noChannel (proposalMark p) := by
  unfold State.allot
  simp only [s.idleChannel_eq_none_iff.mpr busy, on, none, Bool.not_true, Bool.false_eq_true, if_false]

variable {c : ChannelIx} {l : LiveChannel} (victim : s.channelVictim e.level = some (c, l))

include victim

theorem State.allot_of_preempted {q : Proposal} (h : (s.endChannel c .preempted).feasibleNow e j = some (g, q)) :
    s.allot f i e j p = (s.endChannel c .preempted).grant g c i e q .decision := by
  unfold State.allot
  simp only [s.idleChannel_eq_none_iff.mpr busy, on, victim, h, Bool.not_true, Bool.false_eq_true, if_false]

theorem State.allot_of_vain (h : (s.endChannel c .preempted).feasibleNow e j = none) :
    s.allot f i e j p = s.deny i e .noChannel (proposalMark p) := by
  unfold State.allot
  simp only [s.idleChannel_eq_none_iff.mpr busy, on, victim, h, Bool.not_true, Bool.false_eq_true, if_false]

end Full

section Clear

variable {d : Denial} {w : ActionMark} (hits : f.IsCurrent j ∨ f.IsAhead j)

include hits

theorem State.clearTheWay_of_higher
    (h : ∃ (c : ChannelIx) (l : LiveChannel), s.channels[c].live = some l ∧ f.InWay j l ∧ e.level ≤ l.level) :
    s.clearTheWay f i e j d w = s.deny i e d w := by
  unfold State.clearTheWay
  simp only [(State.any_blocker_iff hits).mpr h, Bool.or_true, if_true]

variable (on : s.policy.preemption = true)
  (lower : ∀ (c : ChannelIx) l, s.channels[c].live = some l → f.InWay j l → l.level < e.level)

include on lower

theorem State.clearTheWay_of_lower : s.clearTheWay f i e j d w =
    match (s.endingThose (f.inTheWay j) fun _ => .preempted).feasibleNow e j,
      (s.endingThose (f.inTheWay j) fun _ => .preempted).idleChannel with
    | some (f', p'), some c => (s.endingThose (f.inTheWay j) fun _ => .preempted).grant f' c i e p' .decision
    | _, _ => s.deny i e d w := by
  have none : ((liveChannels s.channels).filter fun c => f.inTheWay j c.2).any (fun c => decide (e.level ≤ c.2.level)) = false :=
    Bool.eq_false_of_not_eq_true (mt (State.any_blocker_iff hits).mp fun ⟨c, l, live, way, high⟩ =>
      absurd (lower c l live way) (not_lt.mpr high))
  unfold State.clearTheWay
  simp only [none, on, Bool.not_true, Bool.or_false, Bool.false_eq_true, if_false, State.endWhere_eq_endingThose] <;> rfl

theorem State.clearTheWay_of_vain (h : (s.endingThose (f.inTheWay j) fun _ => .preempted).feasibleNow e j = none) :
    s.clearTheWay f i e j d w = s.deny i e d w := by
  rw [State.clearTheWay_of_lower hits on lower, h]

theorem State.clearTheWay_of_cleared {q : Proposal} {c : ChannelIx}
    (h : (s.endingThose (f.inTheWay j) fun _ => .preempted).feasibleNow e j = some (g, q))
    (idle : (s.endingThose (f.inTheWay j) fun _ => .preempted).LowestIdle c) : s.clearTheWay f i e j d w =
      (s.endingThose (f.inTheWay j) fun _ => .preempted).grant g c i e q .decision := by
  rw [State.clearTheWay_of_lower hits on lower, h, (State.idleChannel_eq_some_iff _ c).mpr idle]

end Clear

/-- The channels in the way end as the candidate met them, in number order (R92). -/
theorem State.foldl_clearing (s : State) (test : LiveChannel → Bool) {cs : List ChannelIx} (apart : cs.Nodup) {u : State}
    (same : ∀ c ∈ cs, u.channels[c] = s.channels[c]) :
    cs.foldl (fun (v : State) (c : ChannelIx) => match s.channels[c].live with
      | some l => if test l then v.endChannel c .preempted else v
      | none => v) u = cs.foldl (State.endIf test fun _ => .preempted) u := by
  induction cs generalizing u with
  | nil => rfl
  | cons c cs ih =>
    obtain ⟨first, apart⟩ := List.nodup_cons.mp apart
    have visit : (match s.channels[c].live with
        | some l => if test l then u.endChannel c .preempted else u
        | none => u) = u.endIf test (fun _ => .preempted) c := by
      rw [← same c List.mem_cons_self]
      rfl
    rw [List.foldl_cons, List.foldl_cons, visit]
    refine ih apart fun b mem => ?_
    rw [State.endIf_channels_other _ (show b ≠ c from fun h => first (h ▸ mem)), same b (List.mem_cons_of_mem c mem)]

end Preempting

end Sys2Proof.Machine
end

section
namespace Sys2Proof.Machine

/-- The grant of a proposal on a channel, with the record of its kind (R93, R94). -/
theorem State.grant_writes {v : State} {g : Figures} (account : g.account = v.account) (c : ChannelIx) (i : EntryIx) (e : Entry)
    (j : SlotIx) (q : Proposal) :
    (∀ n, q = .extend n → g.Extends (g.record q i e.level .decision) n i e.level .decision ∧
      v.Granted (v.grant g c i e q .decision) c i e (g.record q i e.level .decision) .extend g.plan n) ∧
    ∀ n, q = .advance j n → g.Advances (g.record q i e.level .decision) j n i e.level .decision ∧
      v.Granted (v.grant g c i e q .decision) c i e (g.record q i e.level .decision) .advance g.plan 0 := by
  have granted := v.grant_granted account c i e q .decision
  refine ⟨?_, ?_⟩
  · rintro n rfl
    exact ⟨g.extendRecord_extends n i e.level .decision, granted⟩
  · rintro n rfl
    exact ⟨g.advanceRecord_advances j n i e.level .decision, granted⟩

theorem State.cleared_eq (u : State) (test : LiveChannel → Bool) :
    ([0, 1, 2, 3] : List ChannelIx).foldl (fun (v : State) (c : ChannelIx) => match u.channels[c].live with
      | some l => if test l then v.endChannel c .preempted else v
      | none => v) u = u.endingThose test fun _ => .preempted :=
  State.foldl_clearing u test allChannels_nodup fun _ _ => rfl

/-- A denied top-up is final (R89). -/
theorem Figures.mayClear_of_joining {f : Figures} {j : SlotIx} (current : f.IsCurrent j) {x : ChannelIx × LiveChannel}
    (found : f.channelOn true f.step.cur = some x) (d : Denial) : f.mayClear j d = false := by
  unfold Figures.mayClear
  simp only [Figures.caseOf_of_current current, found, decide_true, Option.isSome_some, Bool.and_self, Bool.not_true]
  split <;> rfl

/-- Settles O49: the proposals in terms of their checks, joins with and without top-up, a rider's own turn, and the two
preemptions. -/
theorem turnsJoinTopUpAndPreempt : Obligations.TurnsJoinTopUpAndPreempt := by
  refine ⟨fun f aE aL j n => ⟨f.judgeCase_eq_extend_iff n, fun k => f.judgeCase_eq_advance_iff k n⟩, ?_⟩
  intro s i v rest f e released pass runs figures live holds level run u aE aL denied need pairs fits charged passes full alone
    rides joins
  obtain ⟨time, policy, _, _⟩ := State.figures_eq figures
  obtain ⟨account, channels⟩ := State.figures_reads figures
  have window : effectiveWindow e f.t = (aE, aL) := by
    rw [time]
    rfl
  have takes {t : State} (h : u.turn f i v = t) : run = .next (t.afterTurn rest) :=
    next_whenReleased released ((State.takeTurn_of_listed pass runs figures).trans (congrArg (·.afterTurn rest) h))
  have has : charged ↔ f.Has fun l => isExtend l = false ∧ f.step.cur ∈ l.charges.map (·.1) := by
    rw [Figures.Has, channels]
  have fit : fits ↔ f.account.xcur + need ≤ (slotAt f.plan f.step.cur).e := by rw [account]
  have checks_passed (h : passes) : f.extensionDenial need = none := by
    obtain ⟨within, unpaid, room, budget⟩ := h
    exact Figures.extensionDenial_of_passes (fit.mp within) (mt has.mpr unpaid) room (by rw [account]; exact budget)
  have on (c : ChannelIx) (l : LiveChannel) (j : SlotIx) (h : s.channels[c].live = some l) (slot : l.slot = j) (lone : alone c j)
      (x : Bool) (kind : isExtend l = x) : f.channelOn x j = some (c, l) :=
    Figures.channelOn_of_alone (by rw [channels]; exact h) kind slot fun b m apart hm => lone b m apart (by rw [← channels]; exact hm)
  have judge (j : SlotIx) (h : full j) :
      f.judge e u.approaches[e.approach].phase = f.judgeCase (aE, aL) j := by
    obtain ⟨_, near, slot⟩ := h
    rw [← window]
    exact Figures.judge_of_near slot (by rw [policy, time]; exact near)
  have judges (j : SlotIx) (h : full j) {t : State} (g : u.fullTurn f i e = t) : run = .next (t.afterTurn rest) :=
    takes ((State.turn_of_candidate (s := u) live holds level h.1).trans g)
  have lasts (j : SlotIx) (h : full j) {d : Denial} {w : ActionMark} (g : f.judgeCase (aE, aL) j = .deny d w)
      (final : f.mayClear j d = false) (lasting : d.isTemporary = false) : denied d .tracking w :=
    judges j h ((State.fullTurn_of_deny (s := u) h.2.2 ((judge j h).trans g) final).trans (State.deny_of_lasting lasting ..))
  have waits (j : SlotIx) (h : full j) {d : Denial} {w : ActionMark} (g : f.judgeCase (aE, aL) j = .deny d w)
      (final : f.mayClear j d = false) (temporary : d.isTemporary = true) : denied d .pending w :=
    judges j h ((State.fullTurn_of_deny (s := u) h.2.2 ((judge j h).trans g) final).trans (State.deny_of_temporary temporary ..))
  have joined (c : ChannelIx) (l : LiveChannel) (j : SlotIx) (h : full j) (carries : s.channels[c].live = some l)
      (g : f.judgeCase (aE, aL) j = .join c 0) : joins c l (markOf l) :=
    ⟨_, judges j h ((State.fullTurn_of_join (s := u) h.2.2 ((judge j h).trans g)).trans
      ((State.join_of_plain (s := u) carries).trans (State.addRider_of_live (s := u) carries))),
      State.ridersLevel_isHighest _ _⟩
  refine ⟨fun c l d j h ahead carries advances slot lone => ?advance,
    fun c l rem rf j h here green carries extends_ slot lone => ?extend,
    fun c l rem rf granted carries mem extends_ => ?rider, fun j h preempts => ?preempt⟩
  case advance =>
    have kind := (isExtend_eq_false_iff l).mpr ⟨d, advances⟩
    have found := on c l j carries slot lone false kind
    have case := Figures.judgeCase_of_ahead (f := f) (aE := aE) (aL := aL) ahead
    have mark : markOf l = .advance := by rw [markOf, kind]; rfl
    intro without
    refine ⟨fun crowded => ?_, fun room early => ?_, fun room late => ?_⟩
    · exact waits j h (case.trans (Figures.judgeAdvance_of_crowded found crowded)) rfl rfl
    · exact lasts j h (case.trans (Figures.judgeAdvance_of_early found room early)) rfl rfl
    · exact mark ▸ joined c l j h carries (case.trans (Figures.judgeAdvance_of_joins found room late))
  case extend =>
    subst here
    have current : f.IsCurrent f.step.cur := ⟨rfl, green⟩
    have kind := (isExtend_iff l).mpr ⟨rem, rf, extends_⟩
    have found := on c l f.step.cur carries slot lone true kind
    have case := Figures.judgeCase_of_current (f := f) (aE := aE) (aL := aL) current
    have mark : markOf l = .extend := by rw [markOf, kind]; rfl
    have unclear {d : Denial} : f.mayClear f.step.cur d = false := Figures.mayClear_of_joining current found d
    intro without
    refine ⟨fun crowded => ?_, fun room early => ?_, fun room late => ⟨fun covered => ?_, fun beyond => ?_⟩⟩
    · exact waits _ h (case.trans (Figures.judgeExtend_of_crowded found crowded)) unclear rfl
    · exact lasts _ h (case.trans (Figures.judgeExtend_of_early found room early)) unclear rfl
    · exact mark ▸ joined c l _ h carries (case.trans (Figures.judgeExtend_of_covered found room late covered))
    · have refused {d : Denial} (g : f.extensionDenial need = some d) :
          f.judgeCase (aE, aL) f.step.cur = .deny d .extend :=
        case.trans (Figures.judgeExtend_of_refused found room late beyond g)
      have topped (g : passes) : f.judgeCase (aE, aL) f.step.cur = .join c need :=
        case.trans (Figures.judgeExtend_of_topped found room late beyond (checks_passed g))
      refine ⟨fun over_ => ?_, fun within paid => ?_, fun within unpaid short => ?_, fun within unpaid enough short => ?_,
        fun g none => ?_, fun g some apart fresh => ?_⟩
      · exact lasts _ h (refused (Figures.extensionDenial_of_limit (not_le.mp (mt fit.mpr over_)))) unclear rfl
      · exact waits _ h (refused (Figures.extensionDenial_of_conflict (fit.mp within) (has.mp paid))) unclear rfl
      · exact waits _ h (refused (Figures.extensionDenial_of_capacity (fit.mp within) (mt has.mpr unpaid) short)) unclear rfl
      · exact waits _ h (refused (Figures.extensionDenial_of_budget (fit.mp within) (mt has.mpr unpaid) enough
          (by rw [account]; exact short))) unclear rfl
      · exact mark ▸ joined c l _ h carries (none ▸ topped g)
      · have turn := (State.fullTurn_of_join (s := u) (i := i) h.2.2 ((judge _ h).trans (topped g))).trans
          (State.join_of_topUp (s := u) carries (Nat.ne_of_gt some))
        exact ⟨_, judges _ h turn, State.topUp_joins (u := u) account extends_ apart fresh rfl⟩
  case rider =>
    have kind := (isExtend_iff l).mpr ⟨rem, rf, extends_⟩
    have turns {t : State} (g : u.topUpTurn f i e c l = t) : run = .next (t.afterTurn rest) :=
      takes ((State.turn_of_rider (s := u) live holds level granted carries kind mem).trans g)
    have late : laterOf e.windowL f.t = aL := by rw [time]
    intro kept
    refine ⟨fun covered => turns (State.topUpTurn_of_covered (by rw [late]; exact covered)), fun needed => ?_⟩
    have refused {d : Denial} (g : f.extensionDenial need = some d) : kept d :=
      turns (State.topUpTurn_of_refused (by rw [late]; exact needed) (by rw [late]; exact g))
    refine ⟨fun over_ => ?_, fun within paid => ?_, fun within unpaid short => ?_, fun within unpaid enough short => ?_,
      fun g apart => ⟨_, turns (State.topUpTurn_of_passes (by rw [late]; exact needed) (by rw [late]; exact checks_passed g)), ?_⟩⟩
    · exact refused (Figures.extensionDenial_of_limit (not_le.mp (mt fit.mpr over_)))
    · exact refused (Figures.extensionDenial_of_conflict (fit.mp within) (has.mp paid))
    · exact refused (Figures.extensionDenial_of_capacity (fit.mp within) (mt has.mpr unpaid) short)
    · exact refused (Figures.extensionDenial_of_budget (fit.mp within) (mt has.mpr unpaid) enough (by rw [account]; exact short))
    · rw [late]
      exact State.topUp_writes (u := u) account extends_ apart
  case preempt =>
    intro granted w
    have grants {x : State} {g : Figures} {c : ChannelIx} {q : Proposal} (figures : x.figures = some g)
        (g' : u.fullTurn f i e = x.grant g c i e q .decision) : granted x g c q :=
      ⟨_, _, judges j h g', State.grant_writes (State.figures_reads figures).1 c i e j q⟩
    refine ⟨fun p busy feasible => ?full, fun d x kind denial lone => ?way⟩
    case full =>
      have allots : u.fullTurn f i e = u.allot f i e j p :=
        State.fullTurn_of_feasible (s := u) h.2.2 ((judge j h).trans feasible)
      have barred (g : u.allot f i e j p = u.deny i e .noChannel (proposalMark p)) : denied .noChannel .pending w := by
        rw [Figures.proposalMark_of_feasible feasible] at g
        exact judges j h (allots.trans (g.trans (State.deny_of_temporary rfl ..)))
      refine ⟨fun higher => ?_, fun c l carries lower before g figures => ?_⟩
      · exact barred (State.allot_of_no_victim (s := u) busy preempts (State.channelVictim_of_none higher))
      · have victim : u.channelVictim e.level = some (c, l) := State.channelVictim_of_first (s := u) carries lower before
        have view : effectiveWindow e g.t = (aE, aL) := by
          rw [(State.figures_eq figures).1, u.endChannel_frame c .preempted]
          rfl
        refine ⟨fun vain => ?_, fun q again => ?_⟩
        · exact barred (State.allot_of_vain (s := u) busy preempts victim (State.feasibleNow_of_infeasible figures (view ▸ vain)))
        · exact grants figures (allots.trans (State.allot_of_preempted (s := u) busy preempts victim
            (State.feasibleNow_of_feasible figures (view ▸ again))))
    case way =>
      intro inWay cleared
      obtain ⟨hits, mark⟩ := Figures.judgeCase_of_clearable kind denial
      have way (l : LiveChannel) : inWay l = true ↔ f.InWay j l := by
        simp only [inWay, Figures.InWay, Bool.or_eq_true, decide_eq_true_eq]
      have same : f.inTheWay j = inWay := funext fun l => Bool.eq_iff_iff.mpr ((Figures.inTheWay_iff hits l).trans (way l).symm)
      have ends : u.endingThose (f.inTheWay j) (fun _ => .preempted) = cleared := by
        rw [same]
        exact (u.cleared_eq inWay).symm
      have open_ (extension : f.caseOf j = .extension) : f.channelOn true f.step.cur = none := by
        obtain ⟨here, _⟩ := (f.caseOf_eq_extension_iff j).mp extension
        rw [f.channelOn_eq_none_iff, Figures.Has, channels]
        rintro ⟨c, l, carries, extends_, slot⟩
        exact lone c l carries extends_ here.symm (slot.trans here)
      have clears : u.fullTurn f i e = u.clearTheWay f i e j d x :=
        State.fullTurn_of_clearable (s := u) h.2.2 ((judge j h).trans denial) (Figures.mayClear_of_alone open_ kind)
      have stands (g : u.clearTheWay f i e j d x = u.deny i e d x) : denied d .pending w := by
        rw [mark] at g
        exact judges j h ((mark ▸ clears).trans (g.trans (State.deny_of_temporary (by rcases kind with rfl | rfl <;> rfl) ..)))
      refine ⟨fun ⟨c, l, carries, blocks, higher⟩ => ?_, fun lower g figures => ?_⟩
      · exact stands (State.clearTheWay_of_higher (s := u) hits ⟨c, l, carries, (way l).mp blocks, higher⟩)
      · have lower' : ∀ (c : ChannelIx) l, u.channels[c].live = some l → f.InWay j l → l.level < e.level :=
          fun c l carries blocks => lower c l carries ((way l).mpr blocks)
        have view : effectiveWindow e g.t = (aE, aL) := by
          rw [(State.figures_eq figures).1, ← ends, u.endingThose_frame]
          rfl
        rw [← ends] at figures ⊢
        refine ⟨fun vain => ?_, fun q c again idle => ?_⟩
        · exact stands (State.clearTheWay_of_vain (s := u) hits preempts lower'
            (State.feasibleNow_of_infeasible figures (view ▸ vain)))
        · exact grants figures (clears.trans (State.clearTheWay_of_cleared (s := u) hits preempts lower'
            (State.feasibleNow_of_feasible figures (view ▸ again)) idle))

end Sys2Proof.Machine
end

end

section
/-! PROOFS. what every command keeps: the core of a state, what faults and ends of channels leave standing, and the table (O57) -/

section
namespace Sys2Proof.Machine

/-! ## What the invariants of table, guards and account are about -/

/-- The part of a state that the table, the channels, the tracker, the engine and their guards live in. What stands outside
it (the ports, the links, the loops, the time base, most settings) bears on none of their invariants. -/
structure Core where
  table : Vector (Option Entry) 16
  plans : PlanStore
  recognised : Vector Bool 6
  tracker : Tracker
  account : Account
  policy : Policy
  engine : Engine
  channels : Vector Channel 4
  override_ : OverrideState
  faults : FaultRecorder
  containment : Containment
  approaches : Vector ApproachConfig 4
  radio : Option ApproachConfig

/-- The configuration that a radio frame in progress is judged by (R9, R10). -/
def radioConfig : Option Item → Option ApproachConfig
  | some (.radio _ _ cfg _ _) => some cfg
  | _ => none

/-- The core of a state. -/
def State.core (s : State) : Core :=
  { table := s.table, plans := s.plans, recognised := s.inputs.map (·.recognised), tracker := s.tracker
    account := s.account, policy := s.policy, engine := s.engine, channels := s.channels, override_ := s.ovr.state
    faults := s.faults, containment := s.containment, approaches := s.approaches, radio := radioConfig s.intake.item }

@[simp] theorem State.setLink_core (s : State) (p x) : (s.setLink p x).core = s.core := by cases p <;> rfl

@[simp] theorem State.setRx_core (s : State) (r x) : (s.setRx r x).core = s.core := by cases r <;> rfl

@[simp] theorem State.pushOutcome_core (s : State) (r) : (s.pushOutcome r).core = s.core := by
  rw [State.pushOutcome_frame]
  rfl

@[simp] theorem State.pushOutcomes_core (s : State) (rs) : (s.pushOutcomes rs).core = s.core := by
  rw [State.pushOutcomes_frame]
  rfl

@[simp] theorem State.setLoop_core (s : State) (a l) : (s.setLoop a l).core = s.core := rfl

@[simp] theorem State.raise_core (s : State) (e) : (s.raise e).core = s.core := rfl

/-! ## Events that leave the core alone -/

theorem State.startTransaction_core (s : State) : s.startTransaction.core = s.core := by
  unfold State.startTransaction
  split <;> rfl

theorem State.endStartUp_core (s : State) : s.endStartUp.core = s.core := by
  unfold State.endStartUp
  split
  · split <;> rfl
  · rfl

theorem State.receiveBreak_core (s : State) (r) : (s.receiveBreak r).core = s.core := by
  unfold State.receiveBreak
  simp only []
  split
  · exact s.setRx_core ..
  · rfl

theorem State.staleExpiry_core (s : State) (i) : (s.staleExpiry i).core = s.core := by
  unfold State.staleExpiry
  split
  · split <;> rfl
  · rfl

theorem State.unconfirmedExpiry_core (s : State) (i) : (s.unconfirmedExpiry i).core = s.core := by
  unfold State.unconfirmedExpiry
  split
  · split <;> rfl
  · rfl

theorem State.loopActivation_core (s : State) (a) : (s.loopActivation a).core = s.core := by
  unfold State.loopActivation
  simp only []
  split
  · split <;> rfl
  · rfl

theorem State.loopClear_core (s : State) (a) : (s.loopClear a).core = s.core := by
  unfold State.loopClear
  simp only []
  split
  · split <;> rfl
  · rfl

theorem State.beginPoll_core (s : State) (p) : (s.beginPoll p).core = s.core := by
  unfold State.beginPoll
  simp only []
  split
  · split
    · exact s.setLink_core ..
    · rfl
  · rfl

theorem State.beginReply_core (s : State) (p) : (s.beginReply p).core = s.core := by
  unfold State.beginReply
  simp only []
  split
  · exact s.setLink_core ..
  · rfl

theorem State.endAwaiting_core (s : State) (p i r) : (s.endAwaiting p i r).core = s.core := by
  unfold State.endAwaiting
  simp only [State.pushOutcome_core, State.setLink_core]

theorem State.deadline_core (s : State) (p id) : (s.deadline p id).core = s.core := by
  unfold State.deadline
  split
  · split
    · exact s.endAwaiting_core ..
    · rfl
  · rfl

theorem State.roleWrite_core (s : State) (p) : (s.roleWrite p).core = s.core := by
  unfold State.roleWrite
  simp only [State.pushOutcomes_core, State.setLink_core]

theorem State.writeSettings_core (s : State) (p st) : (s.writeSettings p st).core = s.core := by
  unfold State.writeSettings
  rw [State.roleWrite_core, State.setLink_core]

theorem State.writeDeferred_core (s : State) (p) : (s.writeDeferred p).core = s.core := by
  unfold State.writeDeferred
  refine (List.foldlRecOn (motive := fun u : State => u.core = s.core) _ _ (s.setLink_core ..) fun u same st _ => ?_)
  rw [State.writeSettings_core, same]

theorem State.endTransmission_core (s : State) (p) : (s.endTransmission p).core = s.core := by
  unfold State.endTransmission State.beginWaitingBreak
  simp only []
  split
  · split <;> simp only [State.setLink_core, State.writeDeferred_core]
  · rfl

theorem radioConfig_markBroken (p : PortId) (x : Option Item) : radioConfig (x.map (markBroken p)) = radioConfig x := by
  cases x with
  | none => rfl
  | some x => cases x <;> rfl

theorem State.breakReset_core (s : State) (p) : (s.breakReset p).core = s.core := by
  have marked : ({ s with intake := { s.intake with item := s.intake.item.map (markBroken p) } } : State).core = s.core := by
    simp only [State.core, radioConfig_markBroken]
  unfold State.breakReset
  simp only []
  split <;> simp only [State.roleWrite_core, State.pushOutcomes_core, State.setLink_core, marked]

theorem State.receiveBreakAt_core (s : State) (p) : (s.receiveBreakAt p).core = s.core := by
  unfold State.receiveBreakAt
  split
  · exact s.breakReset_core p
  · rfl

theorem State.endBreak_core (s : State) (p) : (s.endBreak p).core = s.core := by
  unfold State.endBreak
  simp only []
  split
  · split <;> simp only [State.writeDeferred_core, State.breakReset_core, State.setLink_core]
  · rfl

theorem State.takeMessage_core (s : State) (p f) : (s.takeMessage p f).core = s.core := by
  unfold State.takeMessage State.takeHandoff State.takeAck
  simp only []
  split
  · rfl
  · split
    · exact s.setLink_core ..
    · rfl
  · split
    · exact s.endAwaiting_core ..
    · rfl

/-! ## Commands that leave the core alone -/

theorem State.judgeReadEntry_core (s : State) (b) : (s.judgeReadEntry b).1.core = s.core := by
  unfold State.judgeReadEntry
  split <;> rfl

theorem State.judgeReadChannel_core (s : State) (b) : (s.judgeReadChannel b).1.core = s.core := by
  unfold State.judgeReadChannel
  split <;> rfl

theorem State.judgeReadLink_core (s : State) (b) : (s.judgeReadLink b).1.core = s.core := by
  unfold State.judgeReadLink
  split
  · exact s.setLink_core ..
  · rfl
  · rfl

theorem State.judgePop_core (s : State) (b) : (s.judgePop b).1.core = s.core := by
  unfold State.judgePop
  split <;> rfl

theorem State.judgeRoute_core (s : State) (w) : (s.judgeRoute w).1.core = s.core := by
  unfold State.judgeRoute
  split
  · rfl
  · split <;> rfl

theorem State.judgeClass_core (s : State) (a) : (s.judgeClass a).1.core = s.core := by
  unfold State.judgeClass
  split <;> rfl

theorem State.judgePins_core (s : State) (x) : (s.judgePins x).1.core = s.core := by
  unfold State.judgePins
  split
  · rfl
  · unfold State.writePins
    simp only [okWith]
    split <;> rfl

theorem State.writeRx_core (s : State) (r e rate) : (s.writeRx r e rate).core = s.core := by
  unfold State.writeRx
  simp only []
  split
  · rfl
  · exact State.setRx_core ..

theorem State.judgeSetLink_core (s : State) (b rx port) : (s.judgeSetLink b rx port).1.core = s.core := by
  unfold State.judgeSetLink
  split
  · rfl
  · unfold State.judgePortSettings
    split
    · rfl
    · split
      · simp only [okWith, State.writePort]
        split
        · exact s.writeSettings_core ..
        · exact s.setLink_core ..
      · rfl
  · split
    · exact s.writeRx_core ..
    · rfl

theorem State.judgeLinkBreak_core (s : State) (b) : (s.judgeLinkBreak b).1.core = s.core := by
  unfold State.judgeLinkBreak State.startBreak
  split
  · split
    · rfl
    · simp only [okWith]
      split <;> exact s.setLink_core ..
  · rfl

end Sys2Proof.Machine
end

section
namespace Sys2Proof.Machine

/-! ## What faults and the ends of channels leave standing -/

/-- What every end of a channel keeps, a run over the channels that ends some of them keeps. -/
theorem State.endWhere_keeps {P : State → Prop} (ended : ∀ {u : State} (c : ChannelIx) (r : EndReason), P u → P (u.endChannel c r))
    {s : State} (test : ChannelIx → LiveChannel → Bool) (reason : ChannelIx → EndReason) (h : P s) :
    P (s.endWhere test reason) := by
  unfold State.endWhere
  refine List.foldlRecOn (motive := fun u : State => P u) _ _ h fun u hu c _ => ?_
  split
  · split
    · exact ended c _ hu
    · exact hu
  · exact hu

/-- What the end of a channel, the return of a counted decisecond and the count of free choices keep, the settlement of the
counted-out channels keeps. -/
theorem State.settleCounts_keeps {P : State → Prop}
    (ended : ∀ {u : State} (c : ChannelIx) (r : EndReason), P u → P (u.endChannel c r))
    (counted : ∀ {u : State} {c : ChannelIx} {l : LiveChannel}, u.channels[c].live = some l → countedOut l = true → P u →
      P (u.setChannel c { u.channels[c] with live := some (uncounted l) }))
    (chosen : ∀ {u : State} (n : Nat), P u → P { u with freeIndex := n }) {s : State} (test : LiveChannel → Bool) (h : P s) :
    P (s.settleCounts test) := by
  unfold State.settleCounts
  split
  · refine List.foldlRecOn (motive := fun u : State => P u) _ _ (chosen _ h) fun u hu c _ => ?_
    unfold State.settleCount
    split
    · next l live =>
      split
      · next out =>
        split
        · exact ended c _ hu
        · exact counted live (Bool.and_eq_true _ _ ▸ out).1 hu
      · exact hu
    · exact hu
  · exact h

/-- What settling and the end of every channel keep, a trigger keeps. -/
theorem State.trigger_keeps {P : State → Prop} (ended : ∀ {u : State} (c : ChannelIx) (r : EndReason), P u → P (u.endChannel c r))
    (raised : ∀ {u : State} (e : StickyEvent), P u → P (u.raise e)) {s : State} (r : ContainReason) (h : P s)
    (settled : P (s.settled r)) : P (s.trigger r) := by
  rcases s.trigger_cases r with e | e <;> rw [e]
  · exact h
  · exact raised .cnt (State.endWhere_keeps ended (fun _ _ => true) (fun _ => .contained) settled)

/-- A property of the core that survives a fault occurrence and the end of a channel. -/
structure Endures (P : State → Prop) : Prop where
  same : ∀ {s t : State}, t.core = s.core → P s → P t
  noted : ∀ {s : State} (k : FaultKind), P s →
    P { s with faults := { s.faults with status := s.faults.status ||| kindMap k } }
  recorded : ∀ {s : State} (k : FaultKind) (src : FaultSource) (v : Option Vehicle), kindBit s.faults.mask k = false →
    P s → P (s.recorded k src v)
  trigger : ∀ {s : State} (r : ContainReason), P s → P (s.trigger r)
  ended : ∀ {s : State} (c : ChannelIx) (r : EndReason), P s → P (s.endChannel c r)
  counted : ∀ {s : State} {c : ChannelIx} {l : LiveChannel}, s.channels[c].live = some l → countedOut l = true → P s →
    P (s.setChannel c { s.channels[c] with live := some (uncounted l) })

namespace Endures

variable {P : State → Prop} (E : Endures P) {s : State}
include E

theorem occur (k : FaultKind) (src : FaultSource) (v : Option Vehicle) (h : P s) : P (s.occur k src v) := by
  rw [State.occur_eq]
  split
  · exact E.noted k h
  · next open_ =>
    have recorded := E.recorded k src v (Bool.not_eq_true _ ▸ open_) h
    split
    · exact E.trigger _ recorded
    · exact recorded

theorem endWhere (test : ChannelIx → LiveChannel → Bool) (reason : ChannelIx → EndReason) (h : P s) :
    P (s.endWhere test reason) := State.endWhere_keeps E.ended test reason h

theorem settleCounts (test : LiveChannel → Bool) (h : P s) : P (s.settleCounts test) :=
  State.settleCounts_keeps E.ended E.counted (fun {u} _ hu => E.same (s := u) rfl hu) test h

theorem framingError (r : RxId) (h : P s) : P (s.framingError r) :=
  E.occur _ _ _ (E.same (State.setRx_core ..) h)

theorem judgeFrame (r : RxId) (bytes : List Byte) (h : P s) : P (s.judgeFrame r bytes) := by
  have hunts : P (s.setRx r (hunting (s.rx r))) := E.same (State.setRx_core ..) h
  unfold State.judgeFrame State.offerFrame
  simp only []
  split
  · split
    · exact E.same (State.setRx_core ..) hunts
    · exact E.occur _ _ _ hunts
  · exact E.occur _ _ _ hunts

theorem goodCharacter (r : RxId) (b : Byte) (h : P s) : P (s.goodCharacter r b) := by
  unfold State.goodCharacter
  simp only []
  split
  · split
    · exact E.same (State.setRx_core ..) h
    · exact h
  · split
    · exact E.same (State.setRx_core ..) h
    · exact E.judgeFrame r _ h

theorem receiveCharacter (r : RxId) (b : Byte) (stop : Bool) (h : P s) : P (s.receiveCharacter r b stop) := by
  have idle : P (s.setRx r { s.rx r with line := .idle }) := E.same (State.setRx_core ..) h
  unfold State.receiveCharacter State.character
  simp only []
  split
  · exact h
  · split
    · exact E.goodCharacter r b idle
    · split
      · exact E.framingError r idle
      · exact E.same (State.setRx_core ..) idle

theorem receiveGap (r : RxId) (h : P s) : P (s.receiveGap r) := by
  unfold State.receiveGap
  simp only []
  split
  · exact E.framingError r h
  · exact h

theorem undecidedHigh (r : RxId) (h : P s) : P (s.undecidedHigh r) := by
  unfold State.undecidedHigh
  simp only []
  split
  · exact E.framingError r (E.same (State.setRx_core ..) h)
  · exact h

theorem checkoutStuck (a : Approach) (h : P s) : P (s.checkoutStuck a) := by
  unfold State.checkoutStuck
  simp only []
  split
  · exact E.occur _ _ _ (E.same (State.setLoop_core ..) h)
  · exact h

theorem loseLink (p : PortId) (x : CorridorPort) (h : P s) : P (s.loseLink p x) :=
  E.occur _ _ _ (E.same (State.setLink_core ..) h)

theorem closeWindow (p : PortId) (h : P s) : P (s.closeWindow p) := by
  unfold State.closeWindow State.countMiss
  simp only []
  split
  · split
    · split
      · exact E.loseLink p _ h
      · exact E.same (State.setLink_core ..) h
    · exact h
  · exact h

theorem silence (p : PortId) (h : P s) : P (s.silence p) := by
  unfold State.silence
  simp only []
  split
  · split
    · exact E.loseLink p _ h
    · exact h
  · exact h

theorem actOn (p : PortId) (f : InFrame) (h : P s) : P (s.actOn p f) := by
  have heard (x : CorridorPort) : P (s.setLink p x) := E.same (State.setLink_core ..) h
  unfold State.actOn State.enterRoleFault State.answered State.polled
  simp only []
  split
  · exact heard _
  · split
    · exact E.occur _ _ _ (heard _)
    · split
      · exact E.same (State.takeMessage_core ..) (heard _)
      · exact heard _
    · exact E.same (State.takeMessage_core ..) (heard _)
    · exact heard _
    · exact heard _

theorem discardFrame (p : PortId) (h : P s) : P (s.discardFrame p) := E.occur _ _ _ h

theorem receive (p : PortId) (bytes : List Byte) (h : P s) : P (s.receive p bytes) := by
  unfold State.receive
  split
  · exact h
  · split
    · exact h
    · exact E.discardFrame p h
    · exact E.discardFrame p (E.same (State.setLink_core ..) h)
    · exact E.actOn p _ h

theorem cutFrame (p : PortId) (h : P s) : P (s.cutFrame p) := by
  unfold State.cutFrame
  split
  · exact E.discardFrame p h
  · exact h

theorem missAdvance (c : ChannelIx) (h : P s) : P (s.missAdvance c) := by
  unfold State.missAdvance
  split
  · split
    · exact h
    · split
      · exact E.occur _ _ _ (E.ended c _ h)
      · exact h
    · exact h
  · exact h

theorem completeExtension (c : ChannelIx) (h : P s) : P (s.completeExtension c) := by
  unfold State.completeExtension
  split
  · split
    · exact E.ended c _ h
    · exact h
  · exact h

theorem judgeCancel (b : Byte) (h : P s) : P (s.judgeCancel b).1 := by
  unfold State.judgeCancel
  split
  · exact h
  · split
    · exact h
    · exact E.ended _ _ h

theorem judgeContain (h : P s) : P s.judgeContain.1 := by
  unfold State.judgeContain
  split
  · exact E.trigger _ h
  · exact h

theorem expireSuspension (h : P s) : P s.expireSuspension := by
  unfold State.expireSuspension
  split
  · split
    · have ended := E.endWhere (fun _ l => isSuspended l) (fun _ => .overrideLong) h
      simp only []
      generalize s.endWhere _ _ = u at ended ⊢
      exact E.same (s := u) rfl ended
    · exact h
  · exact h

end Endures
end Sys2Proof.Machine
end

section
namespace Sys2Proof.Machine

/-! ## Properties that neither channels nor their guards bear on -/

/-- A property that survives faults and the ends of channels, and that channels, engine, override, containment and inputs
do not bear on. -/
structure Passive (P : State → Prop) : Prop extends Endures P where
  loose : ∀ {s t : State}, t.table = s.table → t.plans = s.plans → t.tracker = s.tracker → t.account = s.account →
    t.policy = s.policy → t.approaches = s.approaches → t.intake = s.intake → P s → P t
  unsynced : ∀ {s : State}, P s → P { s with tracker := .unsynced }
  cleared : ∀ {s : State} {r : StepRecord} (x : Time), s.tracker = .inStep r → P s →
    P { s with tracker := .inStep { r with period := .clearance x } }

/-- What a passive relation hands on is passive. -/
theorem Passive.ofRelation {R : State → State → Prop} (refl : ∀ s, R s s) (passive : ∀ s, Passive fun t => R s t)
    {P : State → Prop} (kept : ∀ {s t : State}, R s t → P s → P t) : Passive P where
  same := fun {s _} h => kept ((passive s).same h (refl s))
  noted := fun {s} k => kept ((passive s).noted k (refl s))
  recorded := fun {s} k src v m => kept ((passive s).recorded k src v m (refl s))
  trigger := fun {s} r => kept ((passive s).trigger r (refl s))
  ended := fun {s} c r => kept ((passive s).ended c r (refl s))
  counted := fun {s} _ _ live out => kept ((passive s).counted live out (refl s))
  loose := fun {s _} table plans tracker account policy approaches intake =>
    kept ((passive s).loose table plans tracker account policy approaches intake (refl s))
  unsynced := fun {s} => kept ((passive s).unsynced (refl s))
  cleared := fun {s} _ x tracker => kept ((passive s).cleared x tracker (refl s))

namespace Passive

variable {P : State → Prop} (A : Passive P) {s : State}
include A

theorem cause (h : P s) : P s.cause := by
  rw [State.cause_frame]
  exact A.loose (s := s) rfl rfl rfl rfl rfl rfl rfl h

theorem causeIf (b : Bool) (h : P s) : P (s.causeIf b) := by
  rw [State.causeIf_frame]
  exact A.loose (s := s) rfl rfl rfl rfl rfl rfl rfl h

theorem endPass (h : P s) : P s.endPass := by
  unfold State.endPass
  simp only []
  split
  · rw [State.startPass_frame]
    exact A.loose (s := s) rfl rfl rfl rfl rfl rfl rfl h
  · exact A.loose (s := s) rfl rfl rfl rfl rfl rfl rfl h

theorem setChannel (c : ChannelIx) (x : Channel) (h : P s) : P (s.setChannel c x) :=
  A.loose (s := s) rfl rfl rfl rfl rfl rfl rfl h

theorem onsetOfSlot (k : SlotIx) (h : P s) : P (s.onsetOfSlot k) := A.endWhere _ _ h

theorem observeBoundary (h : P s) : P s.observeBoundary := by
  unfold State.observeBoundary
  split
  · exact A.loose (s := s) rfl rfl rfl rfl rfl rfl rfl h
  · exact h

theorem leaveInStep (k : FaultKind) (h : P s) : P (s.leaveInStep k) := by
  have settled := A.settleCounts (fun _ => true) h
  unfold State.leaveInStep
  simp only []
  generalize s.settleCounts _ = u at settled ⊢
  refine A.occur _ _ _ (A.endWhere _ _ ?_)
  exact A.loose (s := { u with tracker := .unsynced }) rfl rfl rfl rfl rfl rfl rfl (A.unsynced settled)

theorem conflict (h : P s) : P s.conflict := by
  unfold State.conflict
  split
  · exact A.leaveInStep _ h
  · exact A.occur _ _ _ h

theorem judgeDrop (ph : Phase) (x : Time) (h : P s) : P (s.judgeDrop ph x) := by
  unfold State.judgeDrop
  split
  · next r p tracker _ =>
    split
    · have cleared := A.cause (A.cleared x tracker h)
      generalize State.cause _ = u at cleared ⊢
      have settled := A.settleCounts (fun l => decide (l.slot = r.cur)) cleared
      unfold State.dropOfSlot
      simp only []
      generalize u.settleCounts _ = v at settled ⊢
      have ended := A.endWhere (fun _ l => isExtend l && decide (l.slot = r.cur)) (fun _ => .greenEnded) settled
      generalize v.endWhere _ _ = w at ended ⊢
      exact A.loose (s := w) rfl rfl rfl rfl rfl rfl rfl ended
    · exact h
  · exact h

theorem takeChange (ph : Phase) (level : Bool) {judge : State → Time → State}
    (judged : ∀ {t : State} (x : Time), P t → P (judge t x)) (h : P s) : P (s.takeChange ph level judge) := by
  unfold State.takeChange
  simp only []
  split
  · split
    · exact h
    · exact judged _ (A.loose (s := s) rfl rfl rfl rfl rfl rfl rfl h)
  · exact h

theorem activate (h : P s) : P s.activate := by
  have settled := A.settleCounts (fun _ => true) h
  unfold State.activate
  simp only []
  generalize s.settleCounts _ = u at settled ⊢
  exact A.loose (s := u) rfl rfl rfl rfl rfl rfl rfl settled

theorem formOverride (h : P s) : P s.formOverride := by
  unfold State.formOverride
  split
  · split
    · exact A.activate h
    · exact h
  · split
    · exact h
    · exact A.loose (s := s) rfl rfl rfl rfl rfl rfl rfl h
  · split
    · exact A.activate h
    · exact h

theorem visitChannel (c : ChannelIx) (h : P s) : P (s.visitChannel c) := by
  unfold State.visitChannel State.resumeExtend State.resumeAdvance
  split
  · split
    · split
      · exact A.setChannel _ _ h
      · exact A.ended _ _ h
    · split
      · exact A.ended _ _ h
      · exact A.setChannel _ _ h
    · exact h
  · exact h

theorem resumeVisit (h : P s) : P s.resumeVisit := by
  unfold State.resumeVisit State.finishResume
  split
  · next c _ =>
    have visited := A.visitChannel c h
    simp only []
    generalize s.visitChannel c = u at visited ⊢
    split
    · refine A.loose (s := State.cause { u with ovr := { u.ovr with state := .inactive } }) rfl rfl rfl rfl rfl rfl rfl ?_
      exact A.cause (A.loose (s := u) rfl rfl rfl rfl rfl rfl rfl visited)
    · exact A.loose (s := u) rfl rfl rfl rfl rfl rfl rfl visited
  · exact h

theorem judgeRelease (h : P s) : P s.judgeRelease.1 := by
  unfold State.judgeRelease
  split
  · exact h
  · exact h
  · split
    · exact h
    · exact A.cause (A.loose (s := s) rfl rfl rfl rfl rfl rfl rfl h)

theorem settleTimeout (h : P s) : P s.settleTimeout := by
  unfold State.settleTimeout
  split
  · split
    · exact A.loose (s := s) rfl rfl rfl rfl rfl rfl rfl h
    · exact h
  · exact h

theorem startExtension (c : ChannelIx) (h : P s) : P (s.startExtension c) := by
  unfold State.startExtension
  split
  · split
    · split
      · exact A.setChannel _ _ h
      · exact h
    · exact h
  · exact h

end Passive
end Sys2Proof.Machine
end

section
namespace Sys2Proof.Machine

/-! ## Tables whose entries go on -/

/-- An entry that goes on: its vehicle, level and window stand, and a total within its limit stays so. -/
structure Entry.GoesOn (e f : Entry) : Prop where
  vehicle : f.vehicle = e.vehicle
  level : f.level = e.level
  windowE : f.windowE = e.windowE
  windowL : f.windowL = e.windowL
  total : e.grantedTotal ≤ grantedLimit → f.grantedTotal ≤ grantedLimit

theorem Entry.GoesOn.refl (e : Entry) : e.GoesOn e := ⟨rfl, rfl, rfl, rfl, id⟩

theorem Entry.GoesOn.trans {e f g : Entry} (h : e.GoesOn f) (h' : f.GoesOn g) : e.GoesOn g :=
  ⟨h'.vehicle.trans h.vehicle, h'.level.trans h.level, h'.windowE.trans h.windowE, h'.windowL.trans h.windowL,
    fun bound => h'.total (h.total bound)⟩

/-- Every live entry goes on one that was live at its index. -/
def State.Within (s t : State) : Prop :=
  ∀ (i : EntryIx) (f : Entry), t.table[i] = some f → ∃ e, s.table[i] = some e ∧ e.GoesOn f

namespace State.Within

variable {s t u : State}

theorem of_table (h : t.table = s.table) : s.Within t := fun _ f live => ⟨f, by rwa [← h], .refl f⟩

theorem refl (s : State) : s.Within s := of_table rfl

theorem trans (h : s.Within t) (h' : t.Within u) : s.Within u := by
  intro i g live
  obtain ⟨f, live, stays⟩ := h' i g live
  obtain ⟨e, live, stays'⟩ := h i f live
  exact ⟨e, live, stays'.trans stays⟩

theorem congr (h : s.Within t) (same : u.table = t.table) : s.Within u := h.trans (of_table same)

theorem setEntry (h : s.Within t) {i : EntryIx} {x : Option Entry}
    (goesOn : ∀ f, x = some f → ∃ e, t.table[i] = some e ∧ e.GoesOn f) : s.Within (t.setEntry i x) := by
  refine h.trans fun j f live => ?_
  rw [State.setEntry_table] at live
  by_cases same : j = i
  · rw [same, put_same] at live
    rw [same]
    exact goesOn f live
  · rw [put_other _ _ same] at live
    exact ⟨f, live, .refl f⟩

theorem freed (h : s.Within t) (i : EntryIx) : s.Within (t.setEntry i none) := h.setEntry fun _ h => nomatch h

theorem returnRider (h : s.Within t) (r : EndReason) (i : EntryIx) : s.Within (t.returnRider r i) := by
  unfold State.returnRider
  split
  · next e live => exact h.setEntry fun f g => Option.some.inj g ▸ ⟨e, live, rfl, rfl, rfl, rfl, id⟩
  · exact h

theorem closeChannel (h : s.Within t) (c : ChannelIx) (l : LiveChannel) (r : EndReason) : s.Within (t.closeChannel c l r) := by
  have table : (t.applyRefund l (refundAmount l r)).table = t.table := by rw [State.applyRefund_frame]
  unfold State.closeChannel
  simp only []
  refine (List.foldlRecOn (motive := fun u : State => s.Within u) _ _ (h.congr table) fun u hu i _ => ?_).congr rfl
  exact hu.returnRider r i

theorem cause (h : s.Within t) : s.Within t.cause := h.congr (by rw [State.cause_frame])

theorem causeIf (h : s.Within t) (b : Bool) : s.Within (t.causeIf b) := h.congr (by rw [State.causeIf_frame])

theorem endChannel (h : s.Within t) (c : ChannelIx) (r : EndReason) : s.Within (t.endChannel c r) := by
  unfold State.endChannel
  split
  · exact (h.closeChannel c _ r).cause
  · exact h

theorem trigger (h : s.Within t) (r : ContainReason) : s.Within (t.trigger r) :=
  State.trigger_keeps (P := fun u => s.Within u) (fun c r hu => hu.endChannel c r) (fun _ hu => hu.congr rfl) r h (h.congr rfl)

/-- Faults and the ends of channels leave every entry going on. -/
theorem endures (s : State) : Endures fun t => s.Within t where
  same := fun h g => g.congr (congrArg Core.table h)
  noted := fun _ g => g.congr rfl
  recorded := fun _ _ _ _ g => g.congr rfl
  trigger := fun r g => g.trigger r
  ended := fun c r g => g.endChannel c r
  counted := fun _ _ g => g.congr rfl

theorem shed (h : s.Within t) (i : EntryIx) (e : Entry) : s.Within (t.shed i e).1 := by
  unfold State.shed State.leaveChannel
  split
  · split
    · exact h
    · split
      · exact h.closeChannel _ _ _
      · exact h.congr rfl
  · exact h

theorem closeEntry (h : s.Within t) (i : EntryIx) (e : Entry) (r : CloseReason) : s.Within (t.closeEntry i e r) :=
  ((h.shed i e).freed i).congr (t.closeEntry_table i e r)

end State.Within

/-! ## Places of newcomers -/

/-- No live entry holds a vehicle. -/
def State.Without (s : State) (v : Vehicle) : Prop := ∀ (i : EntryIx) (e : Entry), s.table[i] = some e → e.vehicle ≠ v

theorem State.Without.within {s t : State} {v : Vehicle} (h : s.Without v) (w : s.Within t) : t.Without v := by
  intro i f live
  obtain ⟨e, live, goesOn⟩ := w i f live
  exact goesOn.vehicle ▸ h i e live

theorem State.without_of_entryOf {s : State} {v : Vehicle} (absent : s.entryOf v = none) : s.Without v := fun i e live same =>
  by simpa [same] using List.find?_eq_none.mp absent (i, e) ((s.mem_liveEntries i e).mpr live)

theorem State.live_of_entryOf {s : State} {v : Vehicle} {i : EntryIx} {e : Entry} (found : s.entryOf v = some (i, e)) :
    s.table[i] = some e ∧ e.vehicle = v :=
  ⟨(s.mem_liveEntries i e).mp (List.mem_of_find?_eq_some found),
    of_decide_eq_true (List.find?_some (p := fun x : EntryIx × Entry => decide (x.2.vehicle = v)) found)⟩

theorem mem_of_earliestWindow {xs : List (EntryIx × Entry)} {x : EntryIx × Entry} (h : earliestWindow xs = some x) : x ∈ xs := by
  induction xs generalizing x with
  | nil => exact nomatch h
  | cons y ys ih =>
    rw [earliestWindow] at h
    split at h
    · cases h
      exact List.mem_cons_self
    · next z later =>
      split at h <;> cases h
      · exact List.mem_cons_of_mem _ (ih later)
      · exact List.mem_cons_self

theorem State.live_of_earliest {s : State} {t : EntryIx × Entry → Bool} {i : EntryIx} {e : Entry}
    (found : earliestWindow (s.liveEntries.filter t) = some (i, e)) : s.table[i] = some e :=
  (s.mem_liveEntries i e).mp (List.mem_filter.mp (mem_of_earliestWindow found)).1

theorem mem_of_oldest {xs : List (EntryIx × Entry)} {x : EntryIx × Entry} (h : oldest xs = some x) : x ∈ xs := by
  induction xs generalizing x with
  | nil => exact nomatch h
  | cons y ys ih =>
    rw [oldest] at h
    split at h
    · cases h
      exact List.mem_cons_self
    · next z later =>
      split at h <;> cases h
      · exact List.mem_cons_of_mem _ (ih later)
      · exact List.mem_cons_self

theorem State.live_of_victim {s : State} {level : Nat} {i : EntryIx} {e : Entry} (found : s.victim level = some (i, e)) :
    s.table[i] = some e :=
  (State.evictable_of_mem_victims (mem_of_oldest found)).1

end Sys2Proof.Machine
end

section
namespace Sys2Proof.Machine

/-! ## What every command keeps -/

/-- A newcomer of the table: it stands in TRACKING with nothing granted, its level in range and its window as `V` has it. -/
structure Entry.IsNew (V : Time × Time → Prop) (e : Entry) : Prop where
  tracking : e.state = .tracking
  level : e.level ≤ 7
  total : e.grantedTotal = 0
  window : V (e.windowE, e.windowL)

/-- A property of the core that every command keeps but the block resets of RESET_CORE; `V` is what it knows of the windows
that entries are given. -/
structure Kept (P : State → Prop) (V : Time × Time → Prop) : Prop extends Endures P where
  powerOn : ∀ (s : State) (a b : Bool), P (s.powerOn a b)
  cleared : ∀ {s : State} (m : BitVec 19), P s → P { s with faults := faultsCleared s.faults m }
  controlled : ∀ {s : State} (m v : BitVec 19) (enable : Bool) (n : Nat), P s → P { s with
    faults := faultsControlled s.faults m v, containment := { s.containment with enable, settleTimeout := n } }
  released : ∀ {s : State}, P s → P s.judgeRelease.1
  settles : ∀ {s : State}, P s → P s.settleTimeout
  unstaged : ∀ {s : State}, P s → P { s with plans := { s.plans with staged := none } }
  staged : ∀ {s : State} {raw : RawPlan} {p : Plan}, validatePlan raw = .ok p → P s →
    P { s with plans := { s.plans with staged := some p } }
  approach : ∀ {s : State} (b fl ph : Byte) (vf vl mg : Half), P s →
    P (s.judgeApproach b (approachSettings fl ph vf vl mg)).1
  policy : ∀ {s : State} (b d r a t h u : Half) (pr : Byte), P s → P (s.judgePolicy b d r a t h u pr).1
  formed : ∀ {s : State}, P s → P s.formOverride
  resumed : ∀ {s : State}, P s → P s.resumeVisit
  forced : ∀ {s : State} (i a : Byte) (n : Half), P s → P (s.judgeForce i a n).1
  turned : ∀ {s : State}, P s → P s.takeTurn
  starts : ∀ {s : State} (c : ChannelIx), P s → P (s.startExtension c)
  onset : ∀ {s : State} (ph : Phase), P s → P (s.takeChange ph true fun s t => s.judgeOnset ph t)
  dropped : ∀ {s : State} (ph : Phase), P s → P (s.takeChange ph false fun s t => s.judgeDrop ph t)
  ticked : ∀ {s : State} (pg : BitVec 6) (chk : BitVec 4) (ovr : Bool), P s → P (s.tick pg chk ovr)
  radioTaken : ∀ {s t : State} (a : Approach), t.core = { s.core with radio := some s.approaches[a] } → P s → P t
  radioEnds : ∀ {s t : State}, t.core = { s.core with radio := none } → P s → P t
  radioWindow : ∀ {s : State} {link r cfg routes classes}, s.intake.item = some (.radio link r cfg routes classes) → P s →
    ∀ t, V (radioWindow r cfg t)
  handoffWindow : ∀ (m : HandoffMsg) (t : Time), V (handoffWindow (min 6000 m.nominal) (min 1200 m.tolerance) t)
  closed : ∀ {s : State} {i : EntryIx} {e : Entry} (r : CloseReason), s.table[i] = some e → P s → P (s.closeEntry i e r)
  created : ∀ {s : State} {i : EntryIx} {e : Entry}, s.table[i] = none → s.Without e.vehicle → e.IsNew V → P s →
    P (s.setEntry i (some e)).cause
  updated : ∀ {s : State} {i : EntryIx} {e : Entry} {r : Report} {level : Nat} {w : Time × Time}, s.table[i] = some e →
    e.vehicle = r.vehicle → level ≤ 7 → V w → P s → P (s.updateEntry i e r level w)

theorem State.busyWith_core (s : State) (src : Source) (item : Item) :
    (s.busyWith src item).core = { s.core with radio := radioConfig (some item) } := rfl

namespace Kept

variable {P : State → Prop} {V : Time × Time → Prop} (K : Kept P V) {s : State}
include K

/-! ### Closures -/

theorem closeIf (i : EntryIx) (test : Entry → Bool) (r : CloseReason) (h : P s) : P (s.closeIf i test r) := by
  unfold State.closeIf
  split
  · next e live =>
    split
    · exact K.closed r live h
    · exact h
  · exact h

theorem staleCheck (h : P s) : P s.staleCheck := by
  unfold State.staleCheck
  split
  · split
    · exact K.closeIf _ _ _ (K.same (s := s) rfl h)
    · exact h
  · exact h

theorem expiryCheck (h : P s) : P s.expiryCheck := by
  unfold State.expiryCheck
  split
  · split
    · exact K.closeIf _ _ _ (K.same (s := s) rfl h)
    · exact h
  · exact h

theorem itemEnds (h : P s) : P s.itemEnds := K.radioEnds rfl h

theorem loopItem (h : P s) : P s.loopItem := by
  unfold State.loopItem
  split
  · simp only []
    split
    · next found => exact K.closed _ (State.live_of_earliest found) (K.itemEnds h)
    · exact K.itemEnds h
  · exact h

theorem flushProgress (i : EntryIx) (n : Nat) (h : P s) : P (s.flushProgress i n) := by
  unfold State.flushProgress State.completeLong
  split <;> exact K.same (s := s) rfl h

theorem flushVisit (h : P s) : P s.flushVisit := by
  unfold State.flushVisit
  split
  · split
    · next live => exact K.flushProgress _ _ (K.closed _ live h)
    · exact K.flushProgress _ _ h
  · exact h

/-! ### Newcomers -/

theorem makePlace {level : Nat} {t : State} {i : EntryIx} {v : Vehicle} (place : s.makePlace level = some (t, i))
    (absent : s.Without v) (h : P s) : P t ∧ t.table[i] = none ∧ t.Without v := by
  unfold State.makePlace at place
  split at place
  · next j free =>
    cases place
    exact ⟨h, Option.isNone_iff_eq_none.mp
      (List.find?_some (p := fun j : EntryIx => (s.table[j]).isNone) free), absent⟩
  · split at place
    · next j e victim =>
      cases place
      refine ⟨K.closed _ (State.live_of_victim victim) h, ?_, absent.within ((State.Within.refl s).closeEntry i _ .evicted)⟩
      rw [State.closeEntry_table, put_same]
    · exact nomatch place

theorem createEntry {r : Report} {level : Nat} {w : Time × Time} (absent : s.Without r.vehicle) (range : level ≤ 7)
    (window : V w) (h : P s) : P (s.createEntry r level w) := by
  unfold State.createEntry
  split
  · next place =>
    obtain ⟨h, free, absent⟩ := K.makePlace place absent h
    exact K.created free absent ⟨rfl, range, rfl, window⟩ h
  · exact K.same (State.pushOutcome_core ..) h

theorem applyReport {r : Report} {cfg : ApproachConfig} (routes : RouteTable) (classes : Vector Int 7)
    (window : V (Machine.radioWindow r cfg s.time)) (h : P s) : P (s.applyReport r cfg routes classes) := by
  have range (cap : Nat) : min (levelOf classes r.lateness) cap ≤ 7 := (min_le_left ..).trans (levelOf_le ..)
  unfold State.applyReport
  simp only []
  split
  · exact K.same (State.pushOutcome_core ..) h
  · split
    · next found =>
      obtain ⟨live, vehicle⟩ := State.live_of_entryOf found
      exact K.updated live vehicle (range _) window h
    · next absent => exact K.createEntry (State.without_of_entryOf absent) (range _) window h

theorem judgeReport {r : Report} {cfg : ApproachConfig} (routes : RouteTable) (classes : Vector Int 7)
    (window : V (Machine.radioWindow r cfg s.time)) (h : P s) : P (s.judgeReport r cfg routes classes) := by
  unfold State.judgeReport
  split
  · next found _ =>
    split
    · exact K.closed _ (State.live_of_entryOf found).1 h
    · exact h
  · exact h
  · split
    · exact K.applyReport _ _ window h
    · exact h
  · exact K.applyReport _ _ window h

theorem radioFrameApplication (h : P s) : P s.radioFrameApplication := by
  unfold State.radioFrameApplication
  split
  · next item =>
    have window := K.radioWindow item h
    have ended := K.itemEnds h
    unfold State.applyRadio
    split
    · exact ended
    · split
      · exact K.occur _ _ _ ended
      · exact K.judgeReport _ _ (window _) ended
  · exact h

theorem createHandoff {m : HandoffMsg} (sender : Byte) (a : Approach) {level : Nat} (absent : s.Without m.vehicle)
    (range : level ≤ 7) (h : P s) : P (s.createHandoff m sender a level).1 := by
  unfold State.createHandoff
  split
  · next place =>
    obtain ⟨h, free, absent⟩ := K.makePlace place absent h
    exact K.created free absent ⟨rfl, range, rfl, K.handoffWindow m _⟩ h
  · exact h

theorem handoffJudgement (h : P s) : P s.handoffJudgement := by
  have judged {u : State} (p : PortId) (m : HandoffMsg) (sender : Byte) (h : P u) : P (u.judgeHandoff p m sender).1 := by
    unfold State.judgeHandoff
    split
    · exact h
    · split
      · exact h
      · split
        · exact h
        · next absent =>
          exact K.createHandoff _ _ (State.without_of_entryOf absent) ((min_le_left ..).trans (levelOf_le ..)) h
  unfold State.handoffJudgement State.enqueueAck
  split
  · simp only []
    split
    · exact judged _ _ _ (K.itemEnds h)
    · exact K.same (State.setLink_core ..) (judged _ _ _ (K.itemEnds h))
  · exact h

theorem intakeTake (h : P s) : P s.intakeTake := by
  unfold State.intakeTake
  split
  · exact h
  · split
    · next src _ =>
      unfold State.takeFrom
      split
      · split
        · next r f _ =>
          exact K.radioTaken (s := s) f.approach (by rw [State.takeFrame, State.busyWith_core, State.setRx_core]; rfl) h
        · exact h
      · split
        · exact K.radioEnds (s := s) (by rw [State.busyWith_core, State.setLink_core]; rfl) h
        · exact h
      · split
        · exact K.radioEnds (s := s) rfl h
        · exact h
    · exact h

/-! ### Every command -/

theorem judgeHold (b : Byte) (h : P s) : P (s.judgeHold b).1 := by
  unfold State.judgeHold
  split
  · exact h
  · simp only [okWith]
    split
    · exact h
    · exact K.formed (K.same (s := s) rfl h)

theorem changeOverrideLevel (h : P s) : P s.changeOverrideLevel := by
  unfold State.changeOverrideLevel
  split
  · exact K.formed (K.same (s := s) rfl h)
  · exact h

theorem finishValidation (h : P s) : P s.finishValidation := by
  unfold State.finishValidation State.completeLong
  split
  · split
    · next p valid => exact K.same (s := { s with plans := { s.plans with staged := some p } }) rfl (K.staged valid h)
    · exact K.same (s := s) rfl h
  · exact h

/-- What every command keeps, with what is known of a block's reset. -/
theorem exec {c : Instr} {t : State} (reset : ∀ b, c = .blockReset b → P s → P (s.blockReset b)) (h : P s)
    (e : exec c s = .next t) : P t := by
  have ignoresPort (u : State) (port : ControllerPort) (_ : port.outcomes = u.port.outcomes) (hu : P u) :
      P { u with port } := K.same (s := u) rfl hu
  have event {f : State → State} (g : P s → P (f s)) : P (s.whenReleased f) := State.whenReleased_keeps h g
  have quiet {f : State → State} (g : (f s).core = s.core) : P (s.whenReleased f) := event fun h => K.same g h
  have judged (echo : Byte) {judge : State → Judged} (g : ∀ {u : State}, P u → P (judge u).1) : P (s.take echo judge) :=
    State.take_keeps ignoresPort h echo fun _ hu => g hu
  have idle (echo : Byte) {judge : State → Judged} (g : ∀ u : State, (judge u).1.core = u.core) : P (s.take echo judge) :=
    judged echo fun hu => K.same (g _) hu
  have always (echo : Byte) {judge : State → Judged} (g : ∀ u : State, (judge u).1.core = u.core) :
      P (s.takeAlways echo judge) := State.takeAlways_keeps ignoresPort h echo fun u hu => K.same (g u) hu
  have long (echo : Byte) {accept : State → State} (g : ∀ u : State, P u → P (accept u)) : P (s.takeLong echo accept) :=
    State.takeLong_keeps ignoresPort h echo g
  cases c <;> cases e
  case powerOnReset a b => exact K.powerOn s a b
  case rstLow => exact K.same (s := s.powerOn false false) rfl (K.powerOn s false false)
  case startUpIntervalEnd => exact quiet s.endStartUp_core
  case transactionStart => exact quiet s.startTransaction_core
  case badCommand => exact always (judge := fun s => refuse s .badCommand) _ fun _ => rfl
  case null => exact quiet rfl
  case readStatus => exact always (judge := fun s => okWith s.statusRead s.statusRecord) _ fun _ => rfl
  case readEntry b => exact idle _ fun u => u.judgeReadEntry_core b
  case readChannel b => exact idle _ fun u => u.judgeReadChannel_core b
  case readPhase => exact idle _ (judge := fun s => okWith s s.phaseRecord) fun _ => rfl
  case readLink b => exact idle _ fun u => u.judgeReadLink_core b
  case readFault => exact idle _ (judge := fun s => okWith s s.faultRecordBytes) fun _ => rfl
  case popOutcomes b => exact idle _ fun u => u.judgePop_core b
  case clearFaults m => exact judged _ fun hu => K.cleared _ hu
  case setFaultControl m v e n =>
    refine judged _ fun hu => ?_
    unfold State.judgeFaultControl
    split
    · exact K.controlled _ _ _ _ hu
    · exact hu
  case contain => exact judged _ fun hu => K.judgeContain hu
  case release => exact judged _ fun hu => K.released hu
  case stagePlan => exact long _ fun u hu => K.same (s := { u with plans := { u.plans with staged := none } }) rfl (K.unstaged hu)
  case setApproach => exact judged _ fun hu => K.approach _ _ _ _ _ _ hu
  case setRoute => exact idle _ fun u => u.judgeRoute_core _
  case setClass => exact idle _ fun u => u.judgeClass_core _
  case setPolicy => exact judged _ fun hu => K.policy _ _ _ _ _ _ _ _ hu
  case setLink => exact idle _ fun u => u.judgeSetLink_core _ _ _
  case setIdent identity => exact idle _ (judge := fun s => okWith { s with identity } []) fun _ => rfl
  case setPins => exact idle _ fun u => u.judgePins_core _
  case setEvents enables =>
    exact idle _ (judge := fun s =>
      okWith { s with port := { s.port with enables := enables.extractLsb' 0 7 } } []) fun _ => rfl
  case linkBreak b => exact idle _ fun u => u.judgeLinkBreak_core b
  case forceGrant a b n => exact judged _ fun hu => K.forced a b n hu
  case cancelChannel b => exact judged _ fun hu => K.judgeCancel b hu
  case overrideHoldSet b => exact judged _ fun hu => K.judgeHold b hu
  case overrideHoldClear => exact judged _ fun hu => K.judgeHold 0 hu
  case flushTable => exact long _ fun u hu => K.same (s := u) rfl hu
  case flushVisit => exact event K.flushVisit
  case resetCore =>
    refine event fun h => ?_
    split <;> exact K.same (s := s) rfl h
  case blockReset b => exact event (reset b rfl)
  case planValidationComplete => exact event K.finishValidation
  case characterReceived r b stop => exact event (K.receiveCharacter r b stop)
  case rxBreak r => exact quiet (s.receiveBreak_core r)
  case interCharacterGap r => exact event (K.receiveGap r)
  case intakeTake => exact event K.intakeTake
  case radioFrameApplication => exact event K.radioFrameApplication
  case handoffJudgement => exact event K.handoffJudgement
  case loopItem => exact event K.loopItem
  case staleExpiry i => exact quiet (s.staleExpiry_core i)
  case staleCheck => exact event K.staleCheck
  case unconfirmedExpiry i => exact quiet (s.unconfirmedExpiry_core i)
  case expiryCheck => exact event K.expiryCheck
  case loopActivation a => exact quiet (s.loopActivation_core a)
  case loopClear a => exact quiet (s.loopClear_core a)
  case checkoutStuck a => exact event (K.checkoutStuck a)
  case greenOnset ph => exact event (K.onset ph)
  case greenDrop ph => exact event (K.dropped ph)
  case candidateTurn => exact event K.turned
  case runFromTimeReached c => exact event (K.starts c)
  case remainingReachesZero c => exact event (K.completeExtension c)
  case deadlineReached c => exact event (K.missAdvance c)
  case ovrRecognisedChange => exact event K.changeOverrideLevel
  case suspendLimitExpiry => exact event K.expireSuspension
  case resumeVisit => exact event K.resumed
  case poll p => exact quiet (s.beginPoll_core p)
  case reply p => exact quiet (s.beginReply_core p)
  case transmissionEnd p => exact quiet (s.endTransmission_core p)
  case replyWindowClose p => exact event (K.closeWindow p)
  case corridorFrameReceived p bs => exact event (K.receive p bs)
  case corridorFrameCut p => exact event (K.cutFrame p)
  case silenceTimeout p => exact event (K.silence p)
  case ackDeadline p id => exact quiet (s.deadline_core p id)
  case corridorBreak p => exact quiet (s.receiveBreakAt_core p)
  case breakSendEnd p => exact quiet (s.endBreak_core p)
  case settleTimeout => exact event K.settles
  case undecidedCharacterLineHigh r => exact event (K.undecidedHigh r)
  case timeBaseDecisecond => exact event (K.ticked _ _ _)

/-- What every command and every step keeps, with what is known of a block's reset. -/
theorem step {t : State} (reset : ∀ (u : State) b, u.port = s.port → P u → P (u.blockReset b)) (h : P s) (e : step s = .next t) : P t := by
  unfold Machine.step at e
  split at e
  · cases e
    exact h
  · next q _ =>
    exact K.exec (s := { s with pending := q }) (fun b _ hs => reset _ b rfl hs) (K.same (s := s) rfl h) e

end Kept

/-- A passive property is kept once the commands that write table, plans, account, policy and approaches keep it. -/
theorem Kept.ofPassive {P : State → Prop} {V : Time × Time → Prop} (A : Passive P)
    (powerOn : ∀ (s : State) (a b : Bool), P (s.powerOn a b))
    (unstaged : ∀ {s : State}, P s → P { s with plans := { s.plans with staged := none } })
    (staged : ∀ {s : State} {raw : RawPlan} {p : Plan}, validatePlan raw = .ok p → P s →
      P { s with plans := { s.plans with staged := some p } })
    (approach : ∀ {s : State} (b fl ph : Byte) (vf vl mg : Half), P s →
      P (s.judgeApproach b (approachSettings fl ph vf vl mg)).1)
    (policy : ∀ {s : State} (b d r a t h u : Half) (pr : Byte), P s → P (s.judgePolicy b d r a t h u pr).1)
    (forced : ∀ {s : State} (i a : Byte) (n : Half), P s → P (s.judgeForce i a n).1)
    (turned : ∀ {s : State}, P s → P s.takeTurn)
    (onset : ∀ {s : State} (ph : Phase) (x : Time), P s → P (s.judgeOnset ph x))
    (radioTaken : ∀ {s t : State} (a : Approach), t.core = { s.core with radio := some s.approaches[a] } → P s → P t)
    (radioEnds : ∀ {s t : State}, t.core = { s.core with radio := none } → P s → P t)
    (radioWindow : ∀ {s : State} {link r cfg routes classes}, s.intake.item = some (.radio link r cfg routes classes) →
      P s → ∀ t, V (Machine.radioWindow r cfg t))
    (handoffWindow : ∀ (m : HandoffMsg) (t : Time), V (Machine.handoffWindow (min 6000 m.nominal) (min 1200 m.tolerance) t))
    (closed : ∀ {s : State} {i : EntryIx} {e : Entry} (r : CloseReason), s.table[i] = some e → P s → P (s.closeEntry i e r))
    (created : ∀ {s : State} {i : EntryIx} {e : Entry}, s.table[i] = none → s.Without e.vehicle → e.IsNew V → P s →
      P (s.setEntry i (some e)).cause)
    (updated : ∀ {s : State} {i : EntryIx} {e : Entry} {r : Report} {level : Nat} {w : Time × Time}, s.table[i] = some e →
      e.vehicle = r.vehicle → level ≤ 7 → V w → P s → P (s.updateEntry i e r level w)) : Kept P V where
  toEndures := A.toEndures
  powerOn := powerOn
  cleared := fun {s} _ => A.loose (s := s) rfl rfl rfl rfl rfl rfl rfl
  controlled := fun {s} _ _ _ _ => A.loose (s := s) rfl rfl rfl rfl rfl rfl rfl
  released := A.judgeRelease
  settles := A.settleTimeout
  unstaged := unstaged
  staged := staged
  approach := approach
  policy := policy
  formed := A.formOverride
  resumed := A.resumeVisit
  forced := forced
  turned := turned
  starts := A.startExtension
  onset := fun ph => A.takeChange ph true fun x h => onset ph x h
  dropped := fun ph => A.takeChange ph false fun x h => A.judgeDrop ph x h
  ticked := fun {s} _ _ _ => A.loose (s := s) rfl rfl rfl rfl rfl rfl rfl
  radioTaken := radioTaken
  radioEnds := radioEnds
  radioWindow := radioWindow
  handoffWindow := handoffWindow
  closed := closed
  created := created
  updated := updated

end Sys2Proof.Machine
end

section
namespace Sys2Proof.Machine

/-! ## What turns and forced grants keep -/

/-- A proposal a judgement or a forced grant makes for a slot (R85, R86, R96). -/
def Figures.Proposes (f : Figures) (p : Proposal) : Prop :=
  (∃ w j, f.judgeCase w j = .feasible p) ∨ ∃ j a n, f.forcedProposal j a n = some p

/-- A join is to a channel with a place left; what it tops up is the extension of the current green, by an amount that
passes the four checks (R88, R89). -/
theorem Figures.judgeCase_joins {f : Figures} {w : Time × Time} {j : SlotIx} {c : ChannelIx} {n : Nat}
    (h : f.judgeCase w j = .join c n) : ∃ l, f.channels[c].live = some l ∧ l.riders.length < 4 ∧
      (n = 0 ∨ isExtend l = true ∧ f.extensionDenial n = none) := by
  have found {b : Bool} {k : SlotIx} {x : ChannelIx × LiveChannel} (on : f.channelOn b k = some x) :
      f.channels[x.1].live = some x.2 ∧ isExtend x.2 = b := by
    have test := List.find?_some (p := fun x : ChannelIx × LiveChannel => decide (x.2.slot = k) && (isExtend x.2 == b)) on
    exact ⟨(mem_liveChannels ..).mp (List.mem_of_find?_eq_some on), beq_iff_eq.mp (Bool.and_eq_true _ _ ▸ test).2⟩
  unfold Figures.judgeCase at h
  split at h
  · unfold Figures.judgeExtend at h
    split at h
    · next d l on =>
      obtain ⟨live, extends_⟩ := found on
      unfold Figures.judgeExtendJoin at h
      split at h
      · exact nomatch h
      · next room =>
        split at h
        · exact nomatch h
        · split at h
          · cases h
            exact ⟨l, live, not_le.mp room, .inl rfl⟩
          · simp only [] at h
            split at h
            · exact nomatch h
            · next passes =>
              cases h
              exact ⟨l, live, not_le.mp room, .inr ⟨extends_, passes⟩⟩
    · split at h
      · exact nomatch h
      · simp only [] at h
        split at h <;> exact nomatch h
  · unfold Figures.judgeAdvance at h
    split at h
    · next d l on =>
      split at h
      · exact nomatch h
      · next room =>
        split at h
        · exact nomatch h
        · cases h
          exact ⟨l, (found on).1, not_le.mp room, .inl rfl⟩
    · split at h
      · exact nomatch h
      · split at h
        · exact nomatch h
        · simp only [] at h
          split at h <;> exact nomatch h
  · exact nomatch h

/-- A judgement that is no denial is the judgement of a case. -/
theorem Figures.judge_cases {f : Figures} {e : Entry} {ph : Phase} {v : Verdict} (h : f.judge e ph = v) :
    (∃ d w, v = .deny d w) ∨ ∃ j, f.judgeCase (effectiveWindow e f.t) j = v := by
  unfold Figures.judge at h
  simp only [] at h
  split at h
  · exact .inl ⟨_, _, h.symm⟩
  · split at h
    · exact .inl ⟨_, _, h.symm⟩
    · exact .inr ⟨_, h⟩

theorem State.idle_of_idleChannel {s : State} {c : ChannelIx} (idle : s.idleChannel = some c) : s.channels[c].live = none :=
  ((s.idleChannel_eq_some_iff c).mp idle).1

/-- A channel that has ended is IDLE. -/
theorem State.endChannel_idle (s : State) (c : ChannelIx) (r : EndReason) : (s.endChannel c r).channels[c].live = none := by
  cases live : s.channels[c].live with
  | none => rwa [State.endChannel_of_idle live]
  | some l => rw [State.endChannel_channels_same (by rw [live]; exact Option.some_ne_none l)]

/-- What a turn's writes keep; `N` says what is known of a candidate that is not GRANTED, while channels end around it. -/
structure TurnKept (P : State → Prop) (N : State → EntryIx → Entry → Prop) : Prop where
  engine : ∀ {u : State} (x : Engine), P u → P { u with engine := x }
  ended : ∀ {u : State} (c : ChannelIx) (r : EndReason), P u → P (u.endChannel c r)
  denied : ∀ {u : State} {i : EntryIx} {e : Entry} (d : Denial) (w : ActionMark), N u i e → P u → P (u.deny i e d w)
  annotated : ∀ {u : State} {i : EntryIx} {e : Entry} (d : Denial), u.table[i] = some e → P u →
    P (u.setEntry i (some { e with note := some (.denied d), wanted := .extend }))
  granted : ∀ {u : State} {f : Figures} {i : EntryIx} {e : Entry} {c : ChannelIx} {p : Proposal} (cause : StartCause),
    u.figures = some f → u.channels[c].live = none → f.Proposes p → N u i e → P u → P (u.grant f c i e p cause)
  toppedUp : ∀ {u : State} {f : Figures} {c : ChannelIx} {l : LiveChannel} {n : Nat}, u.figures = some f →
    u.channels[c].live = some l → isExtend l = true → f.extensionDenial n = none → P u → P (u.topUp f c l n)
  joined : ∀ {u : State} {i : EntryIx} {e : Entry} {c : ChannelIx} {l : LiveChannel}, u.channels[c].live = some l →
    l.riders.length < 4 → N u i e → P u → P (u.addRider c i e)
  endedNew : ∀ {u : State} {i : EntryIx} {e : Entry} (c : ChannelIx) (r : EndReason), N u i e → N (u.endChannel c r) i e
  toppedUpNew : ∀ {u : State} {f : Figures} {i : EntryIx} {e : Entry} {c : ChannelIx} {l : LiveChannel} {n : Nat},
    u.channels[c].live = some l → N u i e → N (u.topUp f c l n) i e

namespace TurnKept

variable {P : State → Prop} {N : State → EntryIx → Entry → Prop} (T : TurnKept P N) {s : State} {f : Figures} {i : EntryIx}
  {e : Entry}
include T

theorem endPass (h : P s) : P s.endPass := by
  unfold State.endPass
  simp only []
  split
  · rw [State.startPass_frame]
    exact T.engine (u := s) _ h
  · exact T.engine _ h

theorem feasibleNow {j : SlotIx} {p : Proposal} {c : ChannelIx} (feasible : s.feasibleNow e j = some (f, p))
    (idle : s.channels[c].live = none) (new : N s i e) (h : P s) : P (s.grant f c i e p .decision) := by
  unfold State.feasibleNow at feasible
  split at feasible
  · exact nomatch feasible
  · next figures =>
    split at feasible
    · next judged =>
      cases feasible
      exact T.granted _ figures idle (.inl ⟨_, _, judged⟩) new h
    · exact nomatch feasible

theorem allot {j : SlotIx} {p : Proposal} (figures : s.figures = some f) (proposes : f.Proposes p) (new : N s i e) (h : P s) :
    P (s.allot f i e j p) := by
  have denied := T.denied .noChannel (proposalMark p) new h
  unfold State.allot
  split
  · next idle => exact T.granted _ figures (State.idle_of_idleChannel idle) proposes new h
  · simp only []
    split
    · exact denied
    · split
      · exact denied
      · split
        · next feasible =>
          exact T.feasibleNow feasible (State.endChannel_idle ..) (T.endedNew _ _ new) (T.ended _ _ h)
        · exact denied

theorem clearTheWay {j : SlotIx} (d : Denial) (w : ActionMark) (new : N s i e) (h : P s) :
    P (s.clearTheWay f i e j d w) := by
  have denied := T.denied d w new h
  unfold State.clearTheWay
  simp only []
  split
  · exact denied
  · split
    · next feasible idle =>
      obtain ⟨new, h⟩ := State.endWhere_keeps (P := fun u => N u i e ∧ P u)
        (fun c r hu => ⟨T.endedNew c r hu.1, T.ended c r hu.2⟩) _ _ ⟨new, h⟩
      exact T.feasibleNow feasible (State.idle_of_idleChannel idle) new h
    · exact denied

theorem join {c : ChannelIx} {l : LiveChannel} {n : Nat} (figures : s.figures = some f) (live : s.channels[c].live = some l)
    (room : l.riders.length < 4) (passes : n = 0 ∨ isExtend l = true ∧ f.extensionDenial n = none) (new : N s i e) (h : P s) :
    P (s.join f i e c n) := by
  unfold State.join
  simp only [live]
  split
  · exact T.joined live room new h
  · next some =>
    obtain ⟨extends_, passes⟩ := passes.resolve_left some
    exact T.joined (c := c) (congrArg Channel.live (put_same ..)) room (T.toppedUpNew live new)
      (T.toppedUp figures live extends_ passes h)

theorem fullTurn (figures : s.figures = some f) (new : N s i e) (h : P s) : P (s.fullTurn f i e) := by
  unfold State.fullTurn
  simp only []
  split
  · split
    · exact T.clearTheWay _ _ new h
    · exact T.denied _ _ new h
  · exact T.denied _ _ new h
  · next judged =>
    rcases Figures.judge_cases judged with ⟨_, _, other⟩ | ⟨j, judged⟩
    · exact nomatch other
    · obtain ⟨l, live, room, passes⟩ := Figures.judgeCase_joins judged
      exact T.join figures ((State.figures_reads figures).2 ▸ live) room passes new h
  · next judged _ =>
    rcases Figures.judge_cases judged with ⟨_, _, other⟩ | ⟨j, judged⟩
    · exact nomatch other
    · exact T.allot figures (.inl ⟨_, _, judged⟩) new h
  · exact h

theorem turn (figures : s.figures = some f) (v : Vehicle)
    (new : ∀ e, s.table[i] = some e → isGranted e = false → N s i e) (h : P s) : P (s.turn f i v) := by
  unfold State.turn
  split
  · exact h
  · next e entry =>
    split
    · exact h
    · split
      · next c granted =>
        split
        · next l live =>
          split
          · next rides =>
            have extends_ : isExtend l = true := by
              unfold State.ridesExtend at rides
              simp only [granted, live, Bool.and_eq_true] at rides
              exact rides.1
            unfold State.topUpTurn
            simp only []
            split
            · exact h
            · split
              · exact T.annotated _ entry h
              · next passes => exact T.toppedUp figures live extends_ passes h
          · exact h
        · exact h
      · next free =>
        refine T.fullTurn figures (new e entry ?_) h
        unfold isGranted
        split
        · next c granted => exact absurd granted (free c)
        · rfl

/-- What a turn's writes keep, the turn keeps. -/
theorem takeTurn (new : ∀ x i e, s.table[i] = some e → isGranted e = false → N { s with engine := x } i e) (h : P s) :
    P s.takeTurn := by
  unfold State.takeTurn
  split
  · exact h
  · exact T.engine _ h
  · exact T.endPass h
  · next i v rest f _ figures =>
    split
    · exact T.engine _ h
    · have turned := T.turn (s := { s with engine := { s.engine with pass := some rest } }) (i := i) figures v (new _ i)
        (T.engine _ h)
      simp only []
      split
      · exact T.endPass turned
      · exact turned

/-- What a grant keeps, FORCE_GRANT keeps. -/
theorem judgeForce (b a : Byte) (n : Half) (new : ∀ i e, s.table[i] = some e → isGranted e = false → N s i e) (h : P s) :
    P (s.judgeForce b a n).1 := by
  unfold State.judgeForce
  split
  · split
    · exact h
    · next e entry =>
      unfold State.forceEntry
      split
      · exact h
      · next free =>
        rw [Bool.or_eq_true, not_or, Bool.not_eq_true] at free
        split
        · exact h
        · next figures =>
          split
          · exact h
          · split
            · next forced idle =>
              exact T.granted _ figures (State.idle_of_idleChannel idle) (.inr ⟨_, _, _, forced⟩) (new _ e entry (Bool.not_eq_true _ ▸ free.2)) h
            · exact h
  · exact h

end TurnKept
end Sys2Proof.Machine
end

section
namespace Sys2Proof.Machine

/-! ## Steps that leave every entry going on -/

/-- Every live entry goes on one of before, the approaches stand, and a radio frame in progress keeps its configuration or
ends. -/
structure State.Refines (s t : State) : Prop where
  within : s.Within t
  approaches : t.approaches = s.approaches
  radio : radioConfig t.intake.item = radioConfig s.intake.item ∨ radioConfig t.intake.item = none

namespace State.Refines

variable {s t u : State}

theorem refl (s : State) : s.Refines s := ⟨.refl s, rfl, .inl rfl⟩

theorem trans (h : s.Refines t) (h' : t.Refines u) : s.Refines u := by
  refine ⟨h.within.trans h'.within, h'.approaches.trans h.approaches, ?_⟩
  rcases h'.radio with r | r
  · rw [r]
    exact h.radio
  · exact .inr r

theorem congr (h : s.Refines t) (table : u.table = t.table) (approaches : u.approaches = t.approaches)
    (intake : u.intake = t.intake) : s.Refines u :=
  h.trans ⟨.of_table table, approaches, .inl (by rw [intake])⟩

theorem passive (s : State) : Passive fun t => s.Refines t where
  same := fun h g => g.trans ⟨.of_table (congrArg Core.table h), congrArg Core.approaches h, .inl (congrArg Core.radio h)⟩
  noted := fun _ g => g.congr rfl rfl rfl
  recorded := fun _ _ _ _ g => g.congr rfl rfl rfl
  trigger := fun {t} r g => ⟨g.within.trigger r, by rw [State.trigger_frame]; exact g.approaches,
    by rw [State.trigger_frame]; exact g.radio⟩
  ended := fun {t} c r g => ⟨g.within.endChannel c r, by rw [State.endChannel_frame]; exact g.approaches,
    by rw [State.endChannel_frame]; exact g.radio⟩
  counted := fun _ _ g => g.congr rfl rfl rfl
  loose := fun table _ _ _ _ approaches intake g => g.congr table approaches intake
  unsynced := fun g => g.congr rfl rfl rfl
  cleared := fun _ _ g => g.congr rfl rfl rfl

/-- An entry of before may go on in any way, whatever the table has done since. -/
theorem setEntry (h : s.Refines t) {i : EntryIx} {e f : Entry} (live : s.table[i] = some e) (goesOn : e.GoesOn f) :
    s.Refines (t.setEntry i (some f)) := by
  refine ⟨fun j g stands => ?_, h.approaches, h.radio⟩
  rw [State.setEntry_table] at stands
  by_cases same : j = i
  · rw [same, put_same] at stands
    cases stands
    exact ⟨e, same ▸ live, goesOn⟩
  · rw [put_other _ _ same] at stands
    exact h.within j g stands

/-! ### Turns and forced grants -/

theorem goesOn_riding (e : Entry) (c : ChannelIx) (a : ActionMark) (n : Nat) : e.GoesOn (riding e c a n) :=
  ⟨rfl, rfl, rfl, rfl, fun _ => min_le_left ..⟩

theorem raiseGranted (h : s.Refines t) (n : Nat) (i : EntryIx) : s.Refines (t.raiseGranted n i) := by
  unfold State.raiseGranted
  split
  · next f live => exact h.trans ((refl t).setEntry live ⟨rfl, rfl, rfl, rfl, fun _ => min_le_left ..⟩)
  · exact h

theorem topUp (h : s.Refines t) (f : Figures) (c : ChannelIx) (l : LiveChannel) (n : Nat) : s.Refines (t.topUp f c l n) := by
  unfold State.topUp
  simp only []
  refine (passive s).setChannel c _ ?_
  refine List.foldlRecOn (motive := fun u : State => s.Refines u) _ _ ?_ fun u hu i _ => hu.raiseGranted n i
  exact h.congr rfl rfl rfl

/-- The writes of a turn leave every entry going on. -/
theorem turnKept (s : State) : TurnKept (fun t => s.Refines t) fun _ i e => s.table[i] = some e where
  engine := fun _ h => h.congr rfl rfl rfl
  ended := (passive s).ended
  denied := fun _ _ live h => h.setEntry live ⟨rfl, rfl, rfl, rfl, id⟩
  annotated := fun _ live h => h.trans ((refl _).setEntry live ⟨rfl, rfl, rfl, rfl, id⟩)
  granted := fun {u f i e c p} cause _ _ _ live h => by
    have charged : s.Refines ({ u with account := f.charged p (f.record p i e.level cause) }.setChannel c
        { u.channels[c] with live := some (f.record p i e.level cause) }) := h.congr rfl rfl rfl
    exact charged.setEntry live (goesOn_riding ..)
  toppedUp := fun {_ f c l n} _ _ _ _ h => h.topUp f c l n
  joined := fun {u i e c l} live _ entry h => by
    unfold State.addRider
    rw [live]
    exact (passive s).setChannel c _ (h.setEntry entry (goesOn_riding ..))
  endedNew := fun _ _ h => h
  toppedUpNew := fun _ h => h

theorem takeTurn (s : State) : s.Refines s.takeTurn := (turnKept s).takeTurn (fun _ _ _ live _ => live) (refl s)

theorem judgeForce (s : State) (b a : Byte) (n : Half) : s.Refines (s.judgeForce b a n).1 :=
  (turnKept s).judgeForce b a n (fun _ _ live _ => live) (refl s)

/-! ### The tracker -/

theorem boundary (h : s.Refines t) (p : Plan) (x : Time) (last : Option Time) : s.Refines (t.boundary p x last) := by
  have begun : s.Refines (State.cause { t with
      tracker := .inStep { cur := 0, period := .green, onset := x, lastBoundary := x }
      account := accountBoundary t.account t.policy }) := (passive s).cause (h.congr rfl rfl rfl)
  have observed := (passive s).observeBoundary ((passive s).onsetOfSlot 0 begun)
  unfold State.boundary
  simp only []
  split
  · split
    · exact (passive s).occur _ _ _ observed
    · exact observed
  · exact observed

theorem adopt (h : s.Refines t) (p : Plan) (x : Time) : s.Refines (t.adopt p x) := by
  have settled := (passive s).settleCounts (fun _ => true) h
  unfold State.adopt State.endAll
  simp only []
  generalize t.settleCounts _ = u at settled ⊢
  have ended := (passive s).endWhere (s := { u with plans := { active := some p, staged := none }
                                                    tracker := .inStep { cur := 0, period := .green, onset := x, lastBoundary := x } })
    (fun _ _ => true) (fun _ => .planChange) (settled.congr rfl rfl rfl)
  generalize State.endWhere _ _ _ = w at ended ⊢
  have caused : s.Refines (State.cause { w with account := accountAdoption w.account w.policy }) :=
    (passive s).cause (ended.congr rfl rfl rfl)
  exact ((passive s).observeBoundary caused).congr rfl rfl rfl

theorem moveTo (h : s.Refines t) (r : StepRecord) (k : SlotIx) (x : Time) : s.Refines (t.moveTo r k x) := by
  have moved : s.Refines (State.cause { t with
      tracker := .inStep { r with cur := k, period := .green, onset := x }
      account := { t.account with xcur := 0 } }) := (passive s).cause (h.congr rfl rfl rfl)
  exact (passive s).onsetOfSlot k moved

theorem onsetFollow (h : s.Refines t) (r : StepRecord) (p : Plan) (ph : Phase) (x : Time) :
    s.Refines (t.onsetFollow r p ph x) := by
  unfold State.onsetFollow
  split
  · exact (passive s).leaveInStep _ h
  · split
    · exact h.boundary ..
    · split
      · exact h.moveTo ..
      · exact (passive s).leaveInStep _ h

theorem judgeOnset (h : s.Refines t) (ph : Phase) (x : Time) : s.Refines (t.judgeOnset ph x) := by
  unfold State.judgeOnset
  split
  · exact (passive s).conflict h
  · split
    · unfold State.onsetNoPlan
      split
      · exact h.adopt ..
      · exact (passive s).occur _ _ _ h
    · unfold State.onsetUnsynced
      split
      · exact h.adopt ..
      · split
        · split
          · exact h.boundary ..
          · exact h
        · exact h
    · unfold State.onsetInStep
      split
      · exact h
      · split
        · split
          · exact h.adopt ..
          · exact h.onsetFollow ..
        · exact h.onsetFollow ..

end State.Refines
end Sys2Proof.Machine
end

section
namespace Sys2Proof.Machine

/-! ## The table and its windows (O57) -/

section Refining

variable {P : State → Prop} {V : Time × Time → Prop}

/-- What holds of a table whose entries go on, of newcomers and of renewed entries, every command keeps. -/
theorem Kept.ofRefines (refines : ∀ {s t : State}, s.Refines t → P s → P t) (powerOn : ∀ (s : State) a b, P (s.powerOn a b))
    (approach : ∀ {s : State} (b fl ph : Byte) (vf vl mg : Half), P s →
      P (s.judgeApproach b (approachSettings fl ph vf vl mg)).1)
    (radioTaken : ∀ {s t : State} (a : Approach), t.core = { s.core with radio := some s.approaches[a] } → P s → P t)
    (radioWindow : ∀ {s : State} {link r cfg routes classes}, s.intake.item = some (.radio link r cfg routes classes) →
      P s → ∀ t, V (Machine.radioWindow r cfg t))
    (handoffWindow : ∀ (m : HandoffMsg) (t : Time), V (Machine.handoffWindow (min 6000 m.nominal) (min 1200 m.tolerance) t))
    (created : ∀ {s : State} {i : EntryIx} {e : Entry}, s.table[i] = none → s.Without e.vehicle → e.IsNew V → P s →
      P (s.setEntry i (some e)))
    (renewed : ∀ {s t : State} {i : EntryIx} {e f : Entry}, s.table[i] = some e → s.Refines t → f.vehicle = e.vehicle →
      f.grantedTotal = e.grantedTotal → f.level ≤ 7 → V (f.windowE, f.windowL) → P s → P (t.setEntry i (some f))) :
    Kept P V :=
  have passive : Passive P := .ofRelation State.Refines.refl State.Refines.passive refines
  .ofPassive passive (powerOn := powerOn)
    (unstaged := fun {s} => refines ((State.Refines.refl s).congr rfl rfl rfl))
    (staged := fun {s} _ _ _ => refines ((State.Refines.refl s).congr rfl rfl rfl))
    (approach := approach)
    (policy := fun {s} _ _ _ _ _ _ _ _ => refines (by
      unfold State.judgePolicy
      split
      · exact .refl s
      · exact (State.Refines.passive s).cause ((State.Refines.refl s).congr rfl rfl rfl)))
    (forced := fun {s} b a n => refines (.judgeForce s b a n))
    (turned := fun {s} => refines (.takeTurn s))
    (onset := fun {s} ph x => refines ((State.Refines.refl s).judgeOnset ph x))
    (radioTaken := radioTaken)
    (radioEnds := fun {s t} h => refines ⟨.of_table (congrArg Core.table h), congrArg Core.approaches h,
      .inr (congrArg Core.radio h)⟩)
    (radioWindow := radioWindow) (handoffWindow := handoffWindow)
    (closed := fun {s i e} r _ => refines ⟨(State.Within.refl s).closeEntry i e r,
      by rw [State.closeEntry_closes s i e r], by rw [State.closeEntry_closes s i e r]; exact .inl rfl⟩)
    (created := fun free absent new h => passive.cause (created free absent new h))
    (updated := fun {s i e r level w} live vehicle range window h => by
      have left : s.Refines (s.shed i e).1 := ⟨(State.Within.refl s).shed i e, by rw [State.shed_frame],
        by rw [State.shed_frame]; exact .inl rfl⟩
      by_cases stays : r.approach = e.approach
      · rw [State.updateEntry_of_staying stays]
        have total : (beforeFrame e false level).grantedTotal = e.grantedTotal := by
          unfold beforeFrame
          split <;> rfl
        have vehicle : (beforeFrame e false level).vehicle = e.vehicle := by
          unfold beforeFrame
          split <;> rfl
        have written := renewed (f := withFrame (beforeFrame e false level) r level w s.time) live (.refl s) vehicle total range
          window h
        refine passive.cause ?_
        unfold State.reportLevel
        split
        · split
          · exact passive.setChannel _ _ written
          · exact written
        · exact written
      · rw [State.updateEntry_of_moving stays]
        exact passive.cause (passive.causeIf _ (renewed live left rfl rfl range window h)))

end Refining

/-- Outside the approaches and the intake, a block's reset leaves every entry going on. -/
theorem State.Refines.blockReset (s : State) (b : Block) : s.Refines (s.blockReset b) := by
  have reset : s.Refines (s.resetBlock b) := by
    cases b with
    | rx r => exact (State.Refines.passive s).same (State.setRx_core ..) (.refl s)
    | intake => exact ⟨.of_table rfl, rfl, .inr rfl⟩
    | table =>
      refine ⟨fun i f live => ?_, rfl, .inl rfl⟩
      have free : (s.resetBlock .table).table[i] = none := replicate_get none i
      exact nomatch free.symm.trans live
    | link p =>
      refine (State.Refines.passive s).same ?_ (.refl s)
      exact State.setLink_core { s with freeIndex := s.freeIndex + 1 } p _
    | _ => exact (State.Refines.refl s).congr rfl rfl rfl
  unfold State.blockReset
  split
  · split
    · unfold State.resetProgress
      split <;> exact reset.congr rfl rfl rfl
    · exact .refl s
  · exact .refl s

end Sys2Proof.Machine
end

section
namespace Sys2Proof.Machine

/-! ## Windows as they are formed (R65, R66) -/

/-- Two times counted from one are as far apart as their counts, while those are near. -/
theorem timeDiff_timePlus (t : Time) {m n : Nat} (near : m < 2 ^ 31) (before : n ≤ m) :
    timeDiff (timePlus t (m : Int)) (timePlus t (n : Int)) = (m : Int) - n := by
  have apart : t + BitVec.ofInt 32 (m : Int) - (t + BitVec.ofInt 32 (n : Int)) = BitVec.ofNat 32 (m - n) := by
    rw [BitVec.ofInt_natCast, BitVec.ofInt_natCast]
    apply BitVec.eq_of_toNat_eq
    have := t.isLt
    simp only [BitVec.toNat_sub, BitVec.toNat_add, BitVec.toNat_ofNat]
    omega
  rw [timeDiff, timePlus, timePlus, apart, BitVec.toInt_eq_toNat_of_lt, BitVec.toNat_ofNat] <;> simp <;> omega

/-- A window has A_e at or before A_l (R67). -/
def Ordered (w : Time × Time) : Prop := atOrAfter w.2 w.1 = true

theorem ordered_of_le (t : Time) {m n : Nat} (near : m < 2 ^ 31) (before : n ≤ m) :
    Ordered (timePlus t (n : Int), timePlus t (m : Int)) := by
  rw [Ordered, atOrAfter, timeDiff_timePlus t near before, decide_eq_true_iff]
  omega

/-- The early travel time is at most the late one: it divides by no less and rounds down (R65). -/
theorem earlyTravel_le_lateTravel (d v vFloor vFree : Nat) (stop : Bool) (w : Nat) (floor : 0 < vFloor) :
    earlyTravel d v vFloor vFree stop w ≤ lateTravel d v vFloor stop w := by
  have slow : 0 < max v vFloor := lt_of_lt_of_le floor (le_max_right ..)
  have up : 100 * d / max v vFloor ≤ ceilDiv (100 * d) (max v vFloor) := Nat.div_le_div_right (by omega)
  have fast : 100 * d / max (max v vFloor) vFree ≤ 100 * d / max v vFloor := Nat.div_le_div_left (le_max_left ..) slow
  unfold earlyTravel lateTravel
  omega

theorem radioWindow_ordered (r : Report) {cfg : ApproachConfig} (forms : cfg.FormsWindows) (t : Time) :
    Ordered (radioWindow r cfg t) := by
  have early := earlyTravel_le_lateTravel r.distance r.speed cfg.vFloor cfg.vFree r.stopFlag r.dwell (by have := forms.1; omega)
  have late : lateTravel r.distance r.speed cfg.vFloor r.stopFlag r.dwell ≤ 4095 := min_le_left ..
  have margin := forms.2
  exact ordered_of_le t (by omega) (by omega)

theorem handoffWindow_ordered (m : HandoffMsg) (t : Time) :
    Ordered (handoffWindow (min 6000 m.nominal) (min 1200 m.tolerance) t) :=
  ordered_of_le t (by omega) (by omega)

/-! ## The table stays sound -/

theorem State.TableSound.refines {s t : State} (r : s.Refines t) (h : s.TableSound) : t.TableSound := by
  obtain ⟨distinct, totals, levels⟩ := h
  refine ⟨fun i j e f live live' same => ?_, fun i f live => ?_, fun i f live => ?_⟩
  · obtain ⟨e', was, goesOn⟩ := r.within i e live
    obtain ⟨f', was', goesOn'⟩ := r.within j f live'
    exact distinct i j e' f' was was' (goesOn.vehicle ▸ goesOn'.vehicle ▸ same)
  · obtain ⟨e, was, goesOn⟩ := r.within i f live
    exact goesOn.total (totals i e was)
  · obtain ⟨e, was, goesOn⟩ := r.within i f live
    exact goesOn.level ▸ levels i e was

/-- An entry whose vehicle no other holds, with its total and level in range, keeps the table sound. -/
theorem State.TableSound.setEntry {s : State} (h : s.TableSound) {i : EntryIx} {e : Entry}
    (alone : ∀ (j : EntryIx) (f : Entry), j ≠ i → s.table[j] = some f → f.vehicle ≠ e.vehicle)
    (total : e.grantedTotal ≤ grantedLimit) (level : e.level ≤ 7) : (s.setEntry i (some e)).TableSound := by
  obtain ⟨distinct, totals, levels⟩ := h
  have cases {j : EntryIx} {f : Entry} (live : (s.setEntry i (some e)).table[j] = some f) :
      (j = i ∧ f = e) ∨ (j ≠ i ∧ s.table[j] = some f) := by
    rw [State.setEntry_table] at live
    by_cases same : j = i
    · subst same
      rw [put_same] at live
      exact .inl ⟨rfl, (Option.some.inj live).symm⟩
    · rw [put_other _ _ same] at live
      exact .inr ⟨same, live⟩
  refine ⟨fun j k f g live live' same => ?_, fun j f live => ?_, fun j f live => ?_⟩
  · rcases cases live with ⟨rfl, rfl⟩ | ⟨ne, stood⟩ <;> rcases cases live' with ⟨rfl, rfl⟩ | ⟨ne', stood'⟩
    · rfl
    · exact absurd same.symm (alone k g ne' stood')
    · exact absurd same (alone j f ne stood)
    · exact distinct j k f g stood stood' same
  · rcases cases live with ⟨_, rfl⟩ | ⟨_, live⟩
    · exact total
    · exact totals j f live
  · rcases cases live with ⟨_, rfl⟩ | ⟨_, live⟩
    · exact level
    · exact levels j f live

theorem State.judgeApproach_table (s : State) (b : Byte) (cfg : Option ApproachConfig) :
    (s.judgeApproach b cfg).1.table = s.table := by
  unfold State.judgeApproach State.writeApproach
  split
  · split
    · rfl
    · simp only [okWith]
      split <;> rfl
  · rfl

theorem tableSound_kept : Kept State.TableSound fun _ => True :=
  have ofTable {s t : State} (same : t.table = s.table) (h : s.TableSound) : t.TableSound := by
    unfold State.TableSound State.VehiclesDistinct State.TotalsBounded State.LevelsBounded
    rw [same]
    exact h
  .ofRefines State.TableSound.refines
    (powerOn := fun _ a b => (invariantsHoldAtReset a b).2.1)
    (approach := fun b _ _ _ _ _ => ofTable (State.judgeApproach_table _ b _))
    (radioTaken := fun _ core => ofTable (congrArg Core.table core))
    (radioWindow := fun _ _ _ => trivial)
    (handoffWindow := fun _ _ => trivial)
    (created := fun _ absent new h =>
      h.setEntry (fun j f _ live => absent j f live) (new.total ▸ Nat.zero_le _) new.level)
    (renewed := fun {s t i e f} live r vehicle total level _ h => by
      refine (h.refines r).setEntry (fun j g other stands same => other ?_) (total ▸ h.2.1 i e live) level
      obtain ⟨g', was, goesOn⟩ := r.within j g stands
      exact h.1 j i g' e was live (goesOn.vehicle ▸ same.trans vehicle))

/-! ## Windows stay ordered -/

theorem State.windowsOrdered_iff (s : State) : s.WindowsOrdered ↔
    (∀ (i : EntryIx) (e : Entry), s.table[i] = some e → Ordered (e.windowE, e.windowL)) ∧
    (∀ a : Approach, s.approaches[a].FormsWindows) ∧
    ∀ cfg, radioConfig s.intake.item = some cfg → cfg.FormsWindows := by
  refine and_congr_right' (and_congr_right' ⟨fun h cfg found => ?_, fun h link r cfg routes classes item => h cfg ?_⟩)
  · cases item : s.intake.item with
    | none => exact nomatch item ▸ found
    | some x =>
      rw [item] at found
      cases x with
      | radio link r cfg' routes classes =>
        cases found
        exact h _ _ _ _ _ item
      | handoff => exact nomatch found
      | loop => exact nomatch found
  · rw [item]
    rfl

theorem State.WindowsOrdered.refines {s t : State} (r : s.Refines t) (h : s.WindowsOrdered) : t.WindowsOrdered := by
  rw [State.windowsOrdered_iff] at h ⊢
  obtain ⟨windows, forms, radio⟩ := h
  refine ⟨fun i f live => ?_, r.approaches ▸ forms, fun cfg found => ?_⟩
  · obtain ⟨e, was, goesOn⟩ := r.within i f live
    exact goesOn.windowE ▸ goesOn.windowL ▸ windows i e was
  · rcases r.radio with same | none
    · exact radio cfg (same ▸ found)
    · exact nomatch none.symm.trans found

theorem State.WindowsOrdered.setEntry {s : State} (h : s.WindowsOrdered) {i : EntryIx} {e : Entry}
    (ordered : Ordered (e.windowE, e.windowL)) : (s.setEntry i (some e)).WindowsOrdered := by
  refine ⟨fun j f live => ?_, h.2⟩
  rw [State.setEntry_table] at live
  by_cases same : j = i
  · rw [same, put_same] at live
    exact Option.some.inj live ▸ ordered
  · rw [put_other _ _ same] at live
    exact h.1 j f live

theorem approachSettings_forms {fl ph : Byte} {vf vl mg : Half} {cfg : ApproachConfig}
    (h : approachSettings fl ph vf vl mg = some cfg) : cfg.FormsWindows := by
  obtain ⟨_, _, _, _, ⟨_, floor, _⟩, ⟨_, _, margin⟩, _⟩ := (approachSettings_eq_some_iff ..).mp h
  exact ⟨floor, margin⟩

theorem State.WindowsOrdered.judgeApproach {s : State} (h : s.WindowsOrdered) (b fl ph : Byte) (vf vl mg : Half) :
    (s.judgeApproach b (approachSettings fl ph vf vl mg)).1.WindowsOrdered := by
  unfold State.judgeApproach
  split
  · next a cfg _ settings =>
    split
    · exact h
    · have forms (c : Approach) : (put s.approaches a cfg)[c].FormsWindows := by
        by_cases same : c = a
        · rw [same, put_same]
          exact approachSettings_forms settings
        · rw [put_other _ _ same]
          exact h.2.1 c
      simp only [okWith, State.writeApproach]
      split <;> exact ⟨h.1, forms, h.2.2⟩
  · exact h

theorem windowsOrdered_kept : Kept State.WindowsOrdered Ordered :=
  .ofRefines State.WindowsOrdered.refines
    (powerOn := fun _ a b => (invariantsHoldAtReset a b).2.2.1)
    (approach := fun b fl ph vf vl mg h => h.judgeApproach b fl ph vf vl mg)
    (radioTaken := fun {s t} a core h => by
      rw [State.windowsOrdered_iff] at h ⊢
      obtain ⟨windows, forms, _⟩ := h
      have table : t.table = s.table := congrArg Core.table core
      have approaches : t.approaches = s.approaches := congrArg Core.approaches core
      have radio : radioConfig t.intake.item = some s.approaches[a] := congrArg Core.radio core
      exact ⟨table ▸ windows, approaches ▸ forms, fun cfg found => Option.some.inj (radio.symm.trans found) ▸ forms a⟩)
    (radioWindow := fun item h t => radioWindow_ordered _ (h.2.2 _ _ _ _ _ item) t)
    (handoffWindow := handoffWindow_ordered)
    (created := fun _ _ new h => h.setEntry new.window)
    (renewed := fun _ r _ _ _ window h => (h.refines r).setEntry window)

/-- Settles O57: entries go on but for newcomers and renewed ones, whose windows are formed in order. -/
theorem tableStaysSound : Obligations.TableStaysSound :=
  ⟨fun _ _ h e => tableSound_kept.step (fun u b _ hu => hu.refines (.blockReset u b)) h e,
    fun _ _ h e => windowsOrdered_kept.step (fun u b _ hu => hu.refines (.blockReset u b)) h e⟩

end Sys2Proof.Machine
end

end

section
/-! PROOFS. the account within its limits (O59) -/

section
namespace Sys2Proof.Machine

/-! ## Validated plans (R45) -/

theorem validatePlan_valid {raw : RawPlan} {p : Plan} (h : validatePlan raw = .ok p) : p.Valid := by
  by_cases counted : 2 ≤ raw.count.toNat ∧ raw.count.toNat ≤ 6
  · by_cases readable : ∃ q : Plan, q.Reads raw
    · obtain ⟨q, reads⟩ := readable
      rw [validatePlan_of_reads counted.1 counted.2 reads] at h
      split at h
      · next apart =>
        split at h
        · next sums =>
          cases h
          obtain ⟨_, low, high, length, slots⟩ := reads
          refine ⟨length ▸ counted.1, length ▸ counted.2, apart, sums, low, high, fun t mem => ?_⟩
          obtain ⟨k, bound, rfl⟩ := List.mem_iff_getElem.mp mem
          obtain ⟨t, stands, _, _, _, gmin, g, _, low, high, _, e⟩ := slots ⟨k, by omega⟩ (length ▸ bound)
          rw [(List.getElem?_eq_some_iff.mp stands).2]
          exact ⟨gmin, g, low, high, e⟩
        · exact nomatch h
      · exact nomatch h
    · exact nomatch (validatePlan_of_not_reads counted.1 counted.2 (not_exists.mp readable)).symm.trans h
  · exact nomatch (validatePlan_of_not_counted counted).symm.trans h

/-! ## The sum of the charges -/

theorem sum_set_add (xs : List Nat) (i : Nat) (h : i < xs.length) (x : Nat) :
    (xs.set i x).sum + xs[i] = xs.sum + x := by
  induction xs generalizing i with
  | nil => exact nomatch h
  | cons y ys ih =>
    cases i with
    | zero =>
      simp only [List.set_cons_zero, List.sum_cons, List.getElem_cons_zero]
      omega
    | succ i =>
      have := ih i (Nat.lt_of_succ_lt_succ h)
      simp only [List.set_cons_succ, List.sum_cons, List.getElem_cons_succ]
      omega

theorem sum_put (v : Vector Nat 6) (k : SlotIx) (x : Nat) : (put v k x).toList.sum + v[k] = v.toList.sum + x := by
  have := sum_set_add v.toList k.val (by simp) x
  rwa [Vector.getElem_toList, ← Vector.toList_set] at this

/-! ## Accounts that only give back -/

/-- An account that gives back: its balance stands, and no charge, debt or x_cur rises. -/
structure Account.Lightens (a b : Account) : Prop where
  balanced : a.Balanced → b.Balanced
  charge : ∀ k : SlotIx, b.charge[k] ≤ a.charge[k]
  debt : ∀ k : Fin 6, b.debt[k] ≤ a.debt[k]
  xcur : b.xcur ≤ a.xcur

theorem Account.Lightens.refl (a : Account) : a.Lightens a := ⟨id, fun _ => le_rfl, fun _ => le_rfl, le_rfl⟩

theorem Account.Lightens.trans {a b c : Account} (h : a.Lightens b) (g : b.Lightens c) : a.Lightens c :=
  ⟨g.balanced ∘ h.balanced, fun k => (g.charge k).trans (h.charge k), fun k => (g.debt k).trans (h.debt k),
    g.xcur.trans h.xcur⟩

theorem put_le {n : Nat} {v : Vector Nat n} {i : Fin n} {x : Nat} (le : x ≤ v[i]) (j : Fin n) : (put v i x)[j] ≤ v[j] := by
  by_cases same : j = i
  · rw [same, put_same]
    exact le
  · rw [put_other _ _ same]

theorem refundSlot_lightens (p : Plan) (a : Account) (k : SlotIx) (n : Nat) : a.Lightens (refundSlot p a k n) := by
  refine ⟨fun balanced => ?_, put_le (Nat.sub_le ..), put_le (Nat.sub_le ..), le_rfl⟩
  have sum := sum_put a.charge k (a.charge[k] - min n a.charge[k])
  unfold Account.Balanced at balanced ⊢
  simp only [refundSlot]
  omega

theorem refundAll_lightens (p : Plan) (a : Account) (charges : List (SlotIx × Nat)) (n : Nat) :
    a.Lightens (refundAll p a charges n) :=
  List.foldlRecOn (motive := fun b : Account => a.Lightens b) _ _ (.refl a)
    fun b h q _ => h.trans (refundSlot_lightens p b q.1 q.2)

theorem State.applyRefund_lightens (s : State) (l : LiveChannel) (n : Nat) : s.account.Lightens (s.applyRefund l n).account := by
  unfold State.applyRefund
  split
  · exact .refl _
  · next p _ =>
    have refunded := refundAll_lightens p s.account l.charges n
    simp only []
    split
    · exact refunded
    · exact ⟨refunded.balanced, refunded.charge, refunded.debt, (Nat.sub_le ..).trans refunded.xcur⟩

/-! ## Charges that an account can bear -/

/-- An account within the limits of a plan and a debt cap (R72, R98). -/
structure Account.Bears (a : Account) (p : Plan) (cap : Nat) : Prop where
  balanced : a.Balanced
  charge : ∀ k : SlotIx, a.charge[k] ≤ (slotAt p k).g - (slotAt p k).gmin
  debt : ∀ k : Fin 6, a.debt[k] ≤ cap

/-- Pairs that an account has room for: of slots and phases apart, within the limits and the budget left. -/
structure Account.Affords (a : Account) (p : Plan) (cap : Nat) (pairs : List (SlotIx × Nat)) : Prop where
  apart : (pairs.map fun q => phaseIndex (slotAt p q.1).phase).Nodup
  charge : ∀ q ∈ pairs, a.charge[q.1] + q.2 ≤ (slotAt p q.1).g - (slotAt p q.1).gmin
  debt : ∀ q ∈ pairs, a.debt[phaseIndex (slotAt p q.1).phase] + q.2 ≤ cap
  budget : (pairs.map (·.2)).sum ≤ a.budgetLeft

theorem put_bound {n : Nat} {v : Vector Nat n} {i : Fin n} {x : Nat} {bound : Fin n → Nat} (h : ∀ j : Fin n, v[j] ≤ bound j)
    (le : x ≤ bound i) (j : Fin n) : (put v i x)[j] ≤ bound j := by
  by_cases same : j = i
  · rw [same, put_same]
    exact le
  · rw [put_other _ _ same]
    exact h j

theorem chargeSlot_bears {p : Plan} {a : Account} {cap : Nat} {k : SlotIx} {n : Nat} (h : a.Bears p cap)
    (charge : a.charge[k] + n ≤ (slotAt p k).g - (slotAt p k).gmin)
    (debt : a.debt[phaseIndex (slotAt p k).phase] + n ≤ cap) (budget : n ≤ a.budgetLeft) :
    (chargeSlot p a k n).Bears p cap := by
  refine ⟨?_, put_bound h.charge charge, put_bound (bound := fun _ => cap) h.debt debt⟩
  have balanced := h.balanced
  have sum := sum_put a.charge k (a.charge[k] + n)
  unfold Account.Balanced at balanced ⊢
  simp only [chargeSlot]
  omega

/-- Charging pairs that an account has room for keeps it within its limits. -/
theorem chargeAll_bears {p : Plan} {cap : Nat} {pairs : List (SlotIx × Nat)} {a : Account} (h : a.Bears p cap)
    (room : a.Affords p cap pairs) : (chargeAll p a pairs).Bears p cap := by
  induction pairs generalizing a with
  | nil => exact h
  | cons q rest ih =>
    obtain ⟨apart, charge, debt, budget⟩ := room
    obtain ⟨first, apart⟩ := List.nodup_cons.mp apart
    have head := List.mem_cons_self (a := q) (l := rest)
    rw [List.map_cons, List.sum_cons] at budget
    have other : ∀ x ∈ rest, phaseIndex (slotAt p x.1).phase ≠ phaseIndex (slotAt p q.1).phase := fun x hx same =>
      first (List.mem_map.mpr ⟨x, hx, same⟩)
    have kept : ∀ x ∈ rest, x.1 ≠ q.1 := fun x hx same => other x hx (by rw [same])
    refine ih (a := chargeSlot p a q.1 q.2) (chargeSlot_bears h (charge q head) (debt q head) (by omega))
      ⟨apart, fun x hx => ?_, fun x hx => ?_, ?_⟩
    · exact (congrArg (· + x.2) (put_other a.charge _ (kept x hx))).trans_le (charge x (List.mem_cons_of_mem q hx))
    · exact (congrArg (· + x.2) (put_other a.debt _ (other x hx))).trans_le (debt x (List.mem_cons_of_mem q hx))
    · simp only [chargeSlot]
      omega

/-! ## Allocations -/

theorem Figures.slack_le (f : Figures) (k : SlotIx) :
    f.slack k ≤ (f.structural k).toNat ∧ f.slack k ≤ (f.debtLimit k).toNat := by
  unfold Figures.slack
  split
  · omega
  · split
    · split <;> omega
    · omega

/-- Distinct slots of a valid plan have distinct phases (R45). -/
theorem slotAt_phase_injective {p : Plan} (valid : p.Valid) {j k : SlotIx} (hj : j.val < p.slots.length)
    (hk : k.val < p.slots.length) (same : phaseIndex (slotAt p j).phase = phaseIndex (slotAt p k).phase) : j = k := by
  have phases := phaseIndex_injective same
  rw [slotAt, slotAt, List.getD_eq_getElem _ _ hj, List.getD_eq_getElem _ _ hk] at phases
  refine Fin.ext ((List.Nodup.getElem_inj_iff valid.2.2.1 (hi := by rwa [List.length_map]) (hj := by rwa [List.length_map])).mp ?_)
  rwa [List.getElem_map, List.getElem_map]

/-- An allocation within the budget left is one its account has room for (R76). -/
theorem Figures.allocation_affords (f : Figures) (valid : f.plan.Valid) {ks : List SlotIx} (apart : ks.Nodup) {n : Nat}
    (budget : n ≤ f.account.budgetLeft) : f.account.Affords f.plan f.policy.debtCap (f.allocation ks n) := by
  have gives {q : SlotIx × Nat} (mem : q ∈ f.allocation ks n) : 1 ≤ q.2 ∧ q.2 ≤ (f.structural q.1).toNat ∧
      q.2 ≤ (f.debtLimit q.1).toNat := by
    obtain ⟨some, within⟩ := Figures.mem_allocation mem
    exact ⟨some, within.trans (f.slack_le q.1).1, within.trans (f.slack_le q.1).2⟩
  have stands {q : SlotIx × Nat} (mem : q ∈ f.allocation ks n) : q.1.val < f.plan.slots.length := by
    by_contra out
    have empty : slotAt f.plan q.1 = default := List.getD_eq_default _ _ (not_lt.mp out)
    have given := gives mem
    unfold Figures.structural at given
    rw [empty] at given
    have nothing : (default : Slot).g = 0 := rfl
    omega
  refine ⟨?_, fun q mem => ?_, fun q mem => ?_, ?_⟩
  · have slots := (f.allocation_sublist ks n).nodup apart
    have := List.Nodup.map_on (f := fun k => phaseIndex (slotAt f.plan k).phase) (fun j hj k hk same => ?_) slots
    · rwa [List.map_map] at this
    · obtain ⟨q, hq, rfl⟩ := List.mem_map.mp hj
      obtain ⟨x, hx, rfl⟩ := List.mem_map.mp hk
      exact slotAt_phase_injective valid (stands hq) (stands hx) same
  · have := gives mem
    unfold Figures.structural at this
    omega
  · have := gives mem
    unfold Figures.debtLimit at this
    omega
  · rw [Figures.allocation_sum]
    exact (min_le_left ..).trans budget

end Sys2Proof.Machine
end

section
namespace Sys2Proof.Machine

/-! ## Steps that only give back -/

/-- A state whose account only gives back, under the same plan, debt cap and current slot; the staged plan may go. -/
structure State.Lightens (s t : State) : Prop where
  active : t.plans.active = s.plans.active
  staged : t.plans.staged = s.plans.staged ∨ t.plans.staged = none
  policy : t.policy = s.policy
  current : ∀ r, t.tracker = .inStep r → ∃ r', s.tracker = .inStep r' ∧ r'.cur = r.cur
  account : s.account.Lightens t.account

namespace State.Lightens

variable {s t u : State}

theorem refl (s : State) : s.Lightens s := ⟨rfl, .inl rfl, rfl, fun r h => ⟨r, h, rfl⟩, .refl _⟩

theorem trans (h : s.Lightens t) (h' : t.Lightens u) : s.Lightens u := by
  refine ⟨h'.active.trans h.active, ?_, h'.policy.trans h.policy, fun r step => ?_, h.account.trans h'.account⟩
  · rcases h'.staged with same | none
    · rw [same]
      exact h.staged
    · exact .inr none
  · obtain ⟨r', step', cur'⟩ := h'.current r step
    obtain ⟨r'', step'', cur''⟩ := h.current r' step'
    exact ⟨r'', step'', cur''.trans cur'⟩

theorem congr (h : s.Lightens t) (plans : u.plans = t.plans) (policy : u.policy = t.policy) (tracker : u.tracker = t.tracker)
    (account : u.account = t.account) : s.Lightens u :=
  h.trans ⟨by rw [plans], .inl (by rw [plans]), policy, fun r step => ⟨r, tracker ▸ step, rfl⟩, by rw [account]; exact .refl _⟩

theorem closeChannel (h : s.Lightens t) (c : ChannelIx) (l : LiveChannel) (r : EndReason) :
    s.Lightens (t.closeChannel c l r) := by
  refine h.trans ?_
  have account : t.account.Lightens (t.closeChannel c l r).account := by
    rw [State.closeChannel_account]
    exact t.applyRefund_lightens l _
  rw [State.closeChannel_frame]
  exact ⟨rfl, .inl rfl, rfl, fun r step => ⟨r, step, rfl⟩, account⟩

theorem endChannel (h : s.Lightens t) (c : ChannelIx) (r : EndReason) : s.Lightens (t.endChannel c r) := by
  cases live : t.channels[c].live with
  | none => rwa [State.endChannel_of_idle live]
  | some l =>
    rw [State.endChannel_of_live live, State.cause_frame]
    exact (h.closeChannel c l r).congr rfl rfl rfl rfl

/-- Faults, the ends of channels, and the tracker's leaving a green give back at most. -/
theorem passive (s : State) : Passive fun t => s.Lightens t where
  same := fun h g => g.congr (congrArg Core.plans h) (congrArg Core.policy h) (congrArg Core.tracker h) (congrArg Core.account h)
  noted := fun _ g => g.congr rfl rfl rfl rfl
  recorded := fun _ _ _ _ g => g.congr rfl rfl rfl rfl
  trigger := fun r g => State.trigger_keeps (P := fun u => s.Lightens u) (fun c r hu => hu.endChannel c r)
    (fun _ hu => hu.congr rfl rfl rfl rfl) r g (g.congr rfl rfl rfl rfl)
  ended := fun c r g => g.endChannel c r
  counted := fun _ _ g => g.congr rfl rfl rfl rfl
  loose := fun _ plans tracker account policy _ _ g => g.congr plans policy tracker account
  unsynced := fun {t} g => g.trans ⟨rfl, .inl rfl, rfl, fun _ step => (nomatch step), .refl _⟩
  cleared := fun {t r} x tracker g => g.trans ⟨rfl, .inl rfl, rfl, fun r' step => ⟨r, tracker, by cases step; rfl⟩, .refl _⟩

theorem shed (s : State) (i : EntryIx) (e : Entry) : s.Lightens (s.shed i e).1 := by
  unfold State.shed State.leaveChannel
  split
  · split
    · exact refl s
    · split
      · exact (refl s).closeChannel _ _ _
      · exact (refl s).congr rfl rfl rfl rfl
  · exact refl s

theorem closeEntry (s : State) (i : EntryIx) (e : Entry) (r : CloseReason) : s.Lightens (s.closeEntry i e r) := by
  refine (shed s i e).congr ?_ ?_ ?_ (s.closeEntry_account i e r) <;> rw [State.closeEntry_closes, State.shed_frame]

end State.Lightens

/-! ## The account within its limits -/

theorem State.AccountSound.lightens {s t : State} (g : s.Lightens t) (h : s.AccountSound) : t.AccountSound := by
  obtain ⟨⟨active, staged⟩, balanced, debts, limits⟩ := h
  refine ⟨⟨fun p hp => active p (g.active ▸ hp), fun p hp => ?_⟩, g.account.balanced balanced, fun k => ?_, fun p hp => ?_⟩
  · rcases g.staged with same | none
    · exact staged p (same ▸ hp)
    · exact nomatch none.symm.trans hp
  · rw [g.policy]
    exact (g.account.debt k).trans (debts k)
  · obtain ⟨charges, room⟩ := limits p (g.active ▸ hp)
    refine ⟨fun k => (g.account.charge k).trans (charges k), fun r step => ?_⟩
    obtain ⟨r', step', cur⟩ := g.current r step
    exact g.account.xcur.trans (cur ▸ room r' step')

theorem accountSound_passive : Passive State.AccountSound :=
  .ofRelation State.Lightens.refl State.Lightens.passive State.AccountSound.lightens

end Sys2Proof.Machine
end

section
namespace Sys2Proof.Machine

/-! ## Proposals the account allows -/

/-- A proposal within the budget left, and an extension within its slot's limit (R85, R86, R96). -/
def Figures.Allows (f : Figures) : Proposal → Prop
  | .extend n => f.account.xcur + n ≤ (slotAt f.plan f.step.cur).e ∧ n ≤ f.account.budgetLeft
  | .advance _ n => n ≤ f.account.budgetLeft

theorem Figures.allows_of_passes {f : Figures} {n : Nat} (h : f.extensionDenial n = none) : f.Allows (.extend n) := by
  obtain ⟨fits, _, _, budget⟩ := (f.extensionDenial_eq_none_iff n).mp h
  exact ⟨fits, budget⟩

theorem Figures.allows_of_feasible {f : Figures} {w : Time × Time} {j : SlotIx} {p : Proposal}
    (h : f.judgeCase w j = .feasible p) : f.Allows p := by
  cases p with
  | extend n =>
    obtain ⟨rfl, _, _, _, _, fits, _, _, budget⟩ := (judgeCase_eq_extend_iff n).mp h
    exact ⟨fits, budget⟩
  | advance k n =>
    obtain ⟨_, _, _, _, _, amount, _⟩ := (judgeCase_eq_advance_iff k n).mp h
    rw [amount]
    exact (min_le_right ..).trans (min_le_right ..)

theorem Figures.allows_of_forced {f : Figures} {j : SlotIx} {a : GrantAction} {n : Nat} {p : Proposal}
    (room : f.account.xcur ≤ (slotAt f.plan f.step.cur).e) (h : f.forcedProposal j a n = some p) : f.Allows p := by
  unfold Figures.forcedProposal at h
  split at h
  · split at h
    · exact nomatch h
    · next case_ =>
      obtain ⟨cur, _⟩ := (f.caseOf_eq_extension_iff j).mp (not_not.mp case_)
      split at h
      · exact nomatch h
      · simp only [] at h
        split at h
        · exact nomatch h
        · cases h
          rw [← cur]
          constructor <;> omega
  · split at h
    · exact nomatch h
    · split at h
      · exact nomatch h
      · simp only [] at h
        split at h
        · exact nomatch h
        · cases h
          exact (min_le_right ..).trans (min_le_right ..)

theorem Figures.allows_of_proposes {f : Figures} {p : Proposal} (room : f.account.xcur ≤ (slotAt f.plan f.step.cur).e)
    (h : f.Proposes p) : f.Allows p := by
  rcases h with ⟨w, j, judged⟩ | ⟨j, a, n, forced⟩
  · exact allows_of_feasible judged
  · exact allows_of_forced room forced

/-! ## Charges keep the account within its limits -/

namespace State.AccountSound

variable {s t : State} {f : Figures}

/-- An account charged with an allocation within its budget, x_cur raised within its limit. -/
theorem charged (h : s.AccountSound) (figures : s.figures = some f) {ks : List SlotIx} (apart : ks.Nodup) {n rise : Nat}
    (budget : n ≤ f.account.budgetLeft) (fits : f.account.xcur + rise ≤ (slotAt f.plan f.step.cur).e)
    (account : t.account = { chargeAll f.plan f.account (f.allocation ks n) with xcur := f.account.xcur + rise })
    (plans : t.plans = s.plans) (policy : t.policy = s.policy) (tracker : t.tracker = s.tracker) : t.AccountSound := by
  obtain ⟨⟨valid, staged⟩, balanced, debts, limits⟩ := h
  obtain ⟨_, samePolicy, active, step⟩ := State.figures_eq figures
  obtain ⟨sameAccount, _⟩ := State.figures_reads figures
  have bears : f.account.Bears f.plan f.policy.debtCap := by
    rw [sameAccount, samePolicy]
    exact ⟨balanced, (limits _ active).1, debts⟩
  obtain ⟨balanced, charges, debts⟩ := chargeAll_bears bears (f.allocation_affords (valid _ active) apart budget)
  refine ⟨by rw [State.PlansValid, plans]; exact ⟨valid, staged⟩, by rw [account]; exact balanced, fun k => ?_, fun p hp => ?_⟩
  · rw [account, policy, ← samePolicy]
    exact debts k
  · rw [plans, active] at hp
    cases hp
    rw [account, tracker, step]
    refine ⟨charges, fun r hr => ?_⟩
    cases hr
    exact fits

theorem extensionSlots_nodup (f : Figures) : f.extensionSlots.Nodup :=
  (f.after_sorted.filter _).imp fun h => ne_of_lt h

theorem truncation_nodup (f : Figures) (j : SlotIx) : (f.truncation j).Nodup :=
  (f.truncation_sorted j).imp fun h => ne_of_lt h

/-- The account of a state has room for what stands (R85). -/
theorem room (h : s.AccountSound) (figures : s.figures = some f) : f.account.xcur ≤ (slotAt f.plan f.step.cur).e := by
  obtain ⟨_, _, active, step⟩ := State.figures_eq figures
  rw [(State.figures_reads figures).1]
  exact (h.2.2.2 _ active).2 _ step

theorem grant (h : s.AccountSound) (figures : s.figures = some f) {p : Proposal} (allows : f.Allows p) (c : ChannelIx)
    (i : EntryIx) (e : Entry) (cause : StartCause) : (s.grant f c i e p cause).AccountSound := by
  have account : (s.grant f c i e p cause).account = _ := f.charged_eq p (f.record p i e.level cause)
  cases p with
  | extend n => exact h.charged figures (extensionSlots_nodup f) allows.2 allows.1 account rfl rfl rfl
  | advance j n => exact h.charged figures (truncation_nodup f j) allows (h.room figures) account rfl rfl rfl

theorem raiseGranted (h : s.AccountSound) (n : Nat) (i : EntryIx) : (s.raiseGranted n i).AccountSound := by
  unfold State.raiseGranted
  split
  · exact h.lightens ((Lightens.refl s).congr rfl rfl rfl rfl)
  · exact h

theorem topUp (h : s.AccountSound) (figures : s.figures = some f) {n : Nat} (allows : f.Allows (.extend n)) (c : ChannelIx)
    (l : LiveChannel) : (s.topUp f c l n).AccountSound := by
  have written : State.AccountSound { s with account :=
      { chargeAll f.plan f.account (f.allocation f.extensionSlots n) with
        xcur := (chargeAll f.plan f.account (f.allocation f.extensionSlots n)).xcur + n } } := by
    refine h.charged figures (extensionSlots_nodup f) allows.2 allows.1 ?_ rfl rfl rfl
    rw [chargeAll_xcur]
  unfold State.topUp
  simp only []
  refine accountSound_passive.setChannel c _ ?_
  exact List.foldlRecOn (motive := fun u : State => u.AccountSound) _ _ written fun u hu i _ => hu.raiseGranted n i

/-- The writes of a turn keep the account within its limits. -/
theorem turnKept : TurnKept State.AccountSound fun _ _ _ => True where
  engine := fun {u} _ h => h.lightens ((Lightens.refl u).congr rfl rfl rfl rfl)
  ended := accountSound_passive.ended
  denied := fun {u _ _} _ _ _ h => h.lightens ((Lightens.refl u).congr rfl rfl rfl rfl)
  annotated := fun {u _ _} _ _ h => h.lightens ((Lightens.refl u).congr rfl rfl rfl rfl)
  granted := fun _ figures _ proposes _ h => h.grant figures (Figures.allows_of_proposes (h.room figures) proposes) ..
  toppedUp := fun figures _ _ passes h => h.topUp figures (Figures.allows_of_passes passes) ..
  joined := fun {u i e c l} live _ _ h => by
    unfold State.addRider
    rw [live]
    exact h.lightens ((Lightens.refl u).congr rfl rfl rfl rfl)
  endedNew := fun _ _ _ => trivial
  toppedUpNew := fun _ _ => trivial

end State.AccountSound
end Sys2Proof.Machine
end

section
namespace Sys2Proof.Machine

/-! ## Cycles, plans and policies -/

namespace State.AccountSound

variable {s t : State}

/-- An account opened anew for a cycle, its debts within the cap, is within the limits of any plan (R99). -/
theorem opened (plans : t.PlansValid) (balanced : t.account.Balanced) (debts : ∀ k : Fin 6, t.account.debt[k] ≤ t.policy.debtCap)
    (uncharged : t.account.charge = Vector.replicate 6 0) (unextended : t.account.xcur = 0) : t.AccountSound := by
  refine ⟨plans, balanced, debts, fun p _ => ⟨fun k => ?_, fun r _ => ?_⟩⟩
  · rw [uncharged, replicate_get]
    exact Nat.zero_le _
  · rw [unextended]
    exact Nat.zero_le _

theorem balanced_of_uncharged {a : Account} (uncharged : a.charge = Vector.replicate 6 0) (whole : a.budgetLeft = a.budgetInForce) :
    a.Balanced := by
  rw [Account.Balanced, uncharged, whole]
  simp

theorem boundary (h : s.AccountSound) (p : Plan) (x : Time) (last : Option Time) : (s.boundary p x last).AccountSound := by
  have begun : State.AccountSound (State.cause { s with
      tracker := .inStep { cur := 0, period := .green, onset := x, lastBoundary := x }
      account := accountBoundary s.account s.policy }) := by
    refine accountSound_passive.cause (opened h.1 (balanced_of_uncharged rfl rfl) (fun k => ?_) rfl rfl)
    refine le_trans (le_of_eq (?_ : _ = s.account.debt[k] - s.policy.repay)) ((Nat.sub_le ..).trans (h.2.2.1 k))
    exact tabulate_get _ k
  have observed := accountSound_passive.observeBoundary (accountSound_passive.onsetOfSlot 0 begun)
  unfold State.boundary
  simp only []
  split
  · split
    · exact accountSound_passive.occur _ _ _ observed
    · exact observed
  · exact observed

theorem moveTo (h : s.AccountSound) (r : StepRecord) (k : SlotIx) (x : Time) : (s.moveTo r k x).AccountSound := by
  have moved : State.AccountSound (State.cause { s with
      tracker := .inStep { r with cur := k, period := .green, onset := x }
      account := { s.account with xcur := 0 } }) := by
    obtain ⟨plans, balanced, debts, limits⟩ := h
    refine accountSound_passive.cause ⟨plans, balanced, debts, fun p hp => ⟨(limits p hp).1, fun _ _ => Nat.zero_le _⟩⟩
  exact accountSound_passive.onsetOfSlot k moved

/-- An adoption ends every channel without a refund and opens the account, its debts kept (R56, R99). -/
theorem adopt (h : s.AccountSound) {p : Plan} (valid : p.Valid) (x : Time) : (s.adopt p x).AccountSound := by
  have settled := accountSound_passive.settleCounts (fun _ => true) h
  unfold State.adopt State.endAll
  simp only []
  generalize s.settleCounts _ = u at settled ⊢
  have account := State.endingThose_account_of_whole (r := .planChange) (.inr rfl) { u with
    plans := { active := some p, staged := none }
    tracker := .inStep { cur := 0, period := .green, onset := x, lastBoundary := x } } (fun _ => true)
  have frame := State.endWhere_frame { u with
    plans := { active := some p, staged := none }
    tracker := .inStep { cur := 0, period := .green, onset := x, lastBoundary := x } } (fun _ _ => true) (fun _ => .planChange)
  rw [State.endWhere_eq_endingThose] at frame ⊢
  generalize State.endingThose _ _ _ = w at account frame ⊢
  have caused : State.AccountSound (State.cause { w with account := accountAdoption w.account w.policy }) := by
    refine accountSound_passive.cause (opened ?_ (balanced_of_uncharged rfl rfl) (fun k => ?_) rfl rfl)
    · rw [frame]
      exact ⟨fun q hq => Option.some.inj hq ▸ valid, nofun⟩
    · have policy : w.policy = u.policy := by rw [frame]
      have debt : w.account.debt = u.account.debt := congrArg Account.debt account
      simp only [accountAdoption, policy, debt]
      exact settled.2.2.1 k
  exact accountSound_passive.loose rfl rfl rfl rfl rfl rfl rfl (accountSound_passive.observeBoundary caused)

theorem stagedFor (h : s.AccountSound) {ph : Phase} {p : Plan} (staged : s.stagedFor ph = some p) : p.Valid := by
  unfold State.stagedFor at staged
  split at staged
  · next q held =>
    split at staged
    · cases staged
      exact h.1.2 _ held
    · exact nomatch staged
  · exact nomatch staged

theorem onsetFollow (h : s.AccountSound) (r : StepRecord) (p : Plan) (ph : Phase) (x : Time) :
    (s.onsetFollow r p ph x).AccountSound := by
  unfold State.onsetFollow
  split
  · exact accountSound_passive.leaveInStep _ h
  · split
    · exact h.boundary ..
    · split
      · exact h.moveTo ..
      · exact accountSound_passive.leaveInStep _ h

theorem judgeOnset (h : s.AccountSound) (ph : Phase) (x : Time) : (s.judgeOnset ph x).AccountSound := by
  unfold State.judgeOnset
  split
  · exact accountSound_passive.conflict h
  · split
    · unfold State.onsetNoPlan
      split
      · next staged => exact h.adopt (h.stagedFor staged) x
      · exact accountSound_passive.occur _ _ _ h
    · unfold State.onsetUnsynced
      split
      · next staged => exact h.adopt (h.stagedFor staged) x
      · split
        · split
          · exact h.boundary ..
          · exact h
        · exact h
    · unfold State.onsetInStep
      split
      · exact h
      · split
        · next staged =>
          split
          · exact h.adopt (h.stagedFor staged) x
          · exact h.onsetFollow ..
        · exact h.onsetFollow ..

/-- A new policy brings every debt down to its cap (R100). -/
theorem judgePolicy (h : s.AccountSound) (b d r a t hz u : Half) (pr : Byte) :
    (s.judgePolicy b d r a t hz u pr).1.AccountSound := by
  unfold State.judgePolicy
  split
  · exact h
  · next q _ =>
    obtain ⟨plans, balanced, _, limits⟩ := h
    refine accountSound_passive.cause ⟨plans, balanced, fun k => ?_, limits⟩
    exact (tabulate_get _ k).trans_le (min_le_right ..)

end State.AccountSound

theorem State.AccountSound.blockReset {s : State} (h : s.AccountSound) (b : Block) : (s.blockReset b).AccountSound := by
  have reset : (s.resetBlock b).AccountSound := by
    cases b with
    | rx r => exact accountSound_passive.same (State.setRx_core ..) h
    | link p =>
      exact accountSound_passive.same (State.setLink_core { s with freeIndex := s.freeIndex + 1 } p _) h
    | tracker =>
      refine State.AccountSound.lightens (s := s) ⟨rfl, .inr rfl, rfl, fun r step => ?_, .refl _⟩ h
      simp only [State.resetBlock, State.resetTracker, State.stopPass] at step
      split at step <;> exact nomatch step
    | engine =>
      have balanced : (accountCleared s.policy.budget).Balanced := State.AccountSound.balanced_of_uncharged rfl rfl
      exact .opened (t := s.resetBlock .engine) h.1 balanced (fun k => (replicate_get 0 k).trans_le (Nat.zero_le _)) rfl rfl
    | _ => exact h.lightens ((State.Lightens.refl s).congr rfl rfl rfl rfl)
  unfold State.blockReset
  split
  · split
    · unfold State.resetProgress
      split <;> exact accountSound_passive.loose (s := s.resetBlock b) rfl rfl rfl rfl rfl rfl rfl reset
    · exact h
  · exact h

theorem accountSound_kept : Kept State.AccountSound fun _ => True :=
  .ofPassive accountSound_passive
    (powerOn := fun _ a b => (invariantsHoldAtReset a b).2.2.2.2.2)
    (unstaged := fun {s} => State.AccountSound.lightens ⟨rfl, .inr rfl, rfl, fun r step => ⟨r, step, rfl⟩, .refl _⟩)
    (staged := fun valid h => ⟨⟨h.1.1, fun q hq => Option.some.inj hq ▸ validatePlan_valid valid⟩, h.2⟩)
    (approach := fun {s} b fl ph vf vl mg h => by
      unfold State.judgeApproach State.writeApproach
      split
      · split
        · exact h
        · simp only [okWith]
          split <;> exact h.lightens ((State.Lightens.refl s).congr rfl rfl rfl rfl)
      · exact h)
    (policy := fun b d r a t hz u pr h => h.judgePolicy b d r a t hz u pr)
    (forced := fun b a n h => State.AccountSound.turnKept.judgeForce b a n (fun _ _ _ _ => trivial) h)
    (turned := fun h => State.AccountSound.turnKept.takeTurn (fun _ _ _ _ _ => trivial) h)
    (onset := fun ph x h => h.judgeOnset ph x)
    (radioTaken := fun {s t} _ core h => h.lightens ((State.Lightens.refl s).congr (congrArg Core.plans core)
      (congrArg Core.policy core) (congrArg Core.tracker core) (congrArg Core.account core)))
    (radioEnds := fun {s t} core h => h.lightens ((State.Lightens.refl s).congr (congrArg Core.plans core)
      (congrArg Core.policy core) (congrArg Core.tracker core) (congrArg Core.account core)))
    (radioWindow := fun _ _ _ => trivial) (handoffWindow := fun _ _ => trivial)
    (closed := fun {s i e} r _ h => h.lightens (.closeEntry s i e r))
    (created := fun {s i e} _ _ _ h =>
      accountSound_passive.cause (h.lightens ((State.Lightens.refl s).congr rfl rfl rfl rfl)))
    (updated := fun {s i e r level w} _ _ _ _ h => by
      by_cases stays : r.approach = e.approach
      · rw [State.updateEntry_of_staying stays]
        refine accountSound_passive.cause ?_
        unfold State.reportLevel
        split
        · split <;> exact h.lightens ((State.Lightens.refl s).congr rfl rfl rfl rfl)
        · exact h.lightens ((State.Lightens.refl s).congr rfl rfl rfl rfl)
      · rw [State.updateEntry_of_moving stays]
        exact accountSound_passive.cause (accountSound_passive.causeIf _
          (h.lightens ((State.Lightens.shed s i e).congr rfl rfl rfl rfl))))

/-- Settles O59: ends give back, charges go no further than slack and budget reach, and a cycle opens the account anew. -/
theorem accountStaysWithinLimits : Obligations.AccountStaysWithinLimits :=
  fun _ _ h e => accountSound_kept.step (fun _ b _ hu => hu.blockReset b) h e

end Sys2Proof.Machine
end

end

section
/-! PROOFS. guards, and channels, table and tracker linked (O58) -/

section
namespace Sys2Proof.Machine

/-! ## Channels that go on -/

/-- A live channel that goes on: its action's kind, slot and charges stand, and it keeps one to four riders. -/
structure LiveChannel.GoesOn (l m : LiveChannel) : Prop where
  slot : m.slot = l.slot
  extends_ : isExtend m = isExtend l
  charges : m.charges = l.charges
  riders : 1 ≤ l.riders.length → l.riders.length ≤ 4 → 1 ≤ m.riders.length ∧ m.riders.length ≤ 4

theorem LiveChannel.GoesOn.refl (l : LiveChannel) : l.GoesOn l := ⟨rfl, rfl, rfl, fun some few => ⟨some, few⟩⟩

theorem LiveChannel.GoesOn.trans {l m n : LiveChannel} (h : l.GoesOn m) (h' : m.GoesOn n) : l.GoesOn n :=
  ⟨h'.slot.trans h.slot, h'.extends_.trans h.extends_, h'.charges.trans h.charges,
    fun some few => h'.riders (h.riders some few).1 (h.riders some few).2⟩

/-- Every live channel goes on one that was live. -/
def State.Thins (s t : State) : Prop :=
  ∀ (c : ChannelIx) (m : LiveChannel), t.channels[c].live = some m → ∃ l, s.channels[c].live = some l ∧ l.GoesOn m

namespace State.Thins

variable {s t u : State}

theorem of_channels (same : t.channels = s.channels) : s.Thins t := fun _ m live => ⟨m, by rwa [← same], .refl m⟩

theorem refl (s : State) : s.Thins s := of_channels rfl

theorem trans (h : s.Thins t) (h' : t.Thins u) : s.Thins u := by
  intro c n live
  obtain ⟨m, live, goesOn'⟩ := h' c n live
  obtain ⟨l, live, goesOn⟩ := h c m live
  exact ⟨l, live, goesOn.trans goesOn'⟩

theorem congr (h : s.Thins t) (same : u.channels = t.channels) : s.Thins u := h.trans (of_channels same)

theorem of_put {c : ChannelIx} {x : Channel} (channels : t.channels = put s.channels c x)
    (goesOn : ∀ m, x.live = some m → ∃ l, s.channels[c].live = some l ∧ l.GoesOn m) : s.Thins t := by
  intro d m live
  rw [channels] at live
  by_cases same : d = c
  · rw [same, put_same] at live
    exact same ▸ goesOn m live
  · rw [put_other _ _ same] at live
    exact ⟨m, live, .refl m⟩

theorem closeChannel (s : State) (c : ChannelIx) (l : LiveChannel) (r : EndReason) : s.Thins (s.closeChannel c l r) :=
  of_put (s.closeChannel_channels c l r) fun _ h => nomatch h

theorem idle (h : s.Thins t) {c : ChannelIx} (idle : s.channels[c].live = none) : t.channels[c].live = none := by
  by_contra some
  obtain ⟨m, live⟩ := Option.ne_none_iff_exists'.mp some
  obtain ⟨l, live, _⟩ := h c m live
  exact nomatch idle.symm.trans live

end State.Thins

/-! ## Steps that leave the guards alone -/

/-- No guard moves: channels end or go on, and a pass begins only with its running condition. -/
structure State.Steady (s t : State) : Prop where
  thins : s.Thins t
  suspends : s.OverrideSuspends → t.OverrideSuspends
  pass : t.engine.pass ≠ none → s.engine.pass ≠ none ∨ s.RunningCondition
  containment : t.containment.state = s.containment.state
  override_ : t.ovr.state = s.ovr.state
  tracker : t.tracker = s.tracker
  active : t.plans.active = s.plans.active
  faults : t.faults = s.faults
  recognised : t.inputs.map (·.recognised) = s.inputs.map (·.recognised)

namespace State.Steady

variable {s t u : State}

theorem refl (s : State) : s.Steady s := ⟨.refl s, id, .inl, rfl, rfl, rfl, rfl, rfl, rfl⟩

theorem running_iff (h : s.Steady t) : t.RunningCondition ↔ s.RunningCondition := by
  unfold State.RunningCondition
  rw [h.containment, h.override_, h.tracker]

theorem trans (h : s.Steady t) (h' : t.Steady u) : s.Steady u where
  thins := h.thins.trans h'.thins
  suspends := h'.suspends ∘ h.suspends
  pass := fun passing => (h'.pass passing).elim h.pass fun runs => .inr (h.running_iff.mp runs)
  containment := h'.containment.trans h.containment
  override_ := h'.override_.trans h.override_
  tracker := h'.tracker.trans h.tracker
  active := h'.active.trans h.active
  faults := h'.faults.trans h.faults
  recognised := h'.recognised.trans h.recognised

/-- A step that leaves channels, engine and guards alone is steady. -/
theorem of_same (channels : t.channels = s.channels) (engine : t.engine.pass = s.engine.pass)
    (containment : t.containment.state = s.containment.state) (override_ : t.ovr.state = s.ovr.state)
    (tracker : t.tracker = s.tracker) (active : t.plans.active = s.plans.active) (faults : t.faults = s.faults)
    (recognised : t.inputs.map (·.recognised) = s.inputs.map (·.recognised)) : s.Steady t where
  thins := .of_channels channels
  suspends := by
    unfold State.OverrideSuspends
    rw [channels, override_]
    exact id
  pass := fun passing => .inl (engine ▸ passing)
  containment := containment
  override_ := override_
  tracker := tracker
  active := active
  faults := faults
  recognised := recognised

theorem of_core (same : t.core = s.core) : s.Steady t :=
  of_same (congrArg Core.channels same) (congrArg (fun c : Core => c.engine.pass) same)
    (congrArg (fun c : Core => c.containment.state) same) (congrArg Core.override_ same) (congrArg Core.tracker same)
    (congrArg (fun c : Core => c.plans.active) same) (congrArg Core.faults same) (congrArg Core.recognised same)

theorem cause (s : State) : s.Steady s.cause := by
  have pass : s.cause.engine.pass ≠ none → s.engine.pass ≠ none ∨ s.RunningCondition := by
    rcases s.cause_cases with ⟨passing, _⟩ | ⟨_, runs, _⟩ | ⟨_, _, same⟩
    · exact fun _ => .inl passing
    · exact fun _ => .inr runs
    · exact fun passing => .inl (same ▸ passing)
  rw [State.cause_frame] at pass ⊢
  exact ⟨.of_channels rfl, id, pass, rfl, rfl, rfl, rfl, rfl, rfl⟩

theorem causeIf (s : State) (b : Bool) : s.Steady (s.causeIf b) := by
  cases b
  · exact refl s
  · exact cause s

/-- A channel in place of another: none, or one that goes on and is suspended while that was, under an ACTIVE override. -/
def Replaces (s : State) (c : ChannelIx) (x : Channel) : Prop :=
  ∀ m, x.live = some m → ∃ l, s.channels[c].live = some l ∧ l.GoesOn m ∧ (s.ovr.state = .active → l.IsSuspended → m.IsSuspended)

theorem replaces_of_same {c : ChannelIx} {x : Channel} (same : x.live = s.channels[c].live) : Replaces s c x :=
  fun m live => ⟨m, same ▸ live, .refl m, fun _ => id⟩

/-- Channels alone may change, each replaced. -/
theorem of_replaced (channels : ∀ c : ChannelIx, Replaces s c t.channels[c]) (engine : t.engine.pass = s.engine.pass)
    (containment : t.containment.state = s.containment.state) (override_ : t.ovr.state = s.ovr.state)
    (tracker : t.tracker = s.tracker) (active : t.plans.active = s.plans.active) (faults : t.faults = s.faults)
    (recognised : t.inputs.map (·.recognised) = s.inputs.map (·.recognised)) : s.Steady t where
  thins := fun c m live => (channels c m live).imp fun _ h => ⟨h.1, h.2.1⟩
  suspends := fun h active_ c m live => by
    obtain ⟨l, stands, _, suspends⟩ := channels c m live
    exact suspends (override_ ▸ active_) (h (override_ ▸ active_) c l stands)
  pass := fun passing => .inl (engine ▸ passing)
  containment := containment
  override_ := override_
  tracker := tracker
  active := active
  faults := faults
  recognised := recognised

theorem of_put {c : ChannelIx} {x : Channel} (channels : t.channels = put s.channels c x) (replaces : Replaces s c x)
    (engine : t.engine.pass = s.engine.pass)
    (containment : t.containment.state = s.containment.state) (override_ : t.ovr.state = s.ovr.state)
    (tracker : t.tracker = s.tracker) (active : t.plans.active = s.plans.active) (faults : t.faults = s.faults)
    (recognised : t.inputs.map (·.recognised) = s.inputs.map (·.recognised)) : s.Steady t := by
  refine of_replaced (fun d => ?_) engine containment override_ tracker active faults recognised
  rw [channels]
  by_cases same : d = c
  · rw [same, put_same]
    exact replaces
  · rw [put_other _ _ same]
    exact replaces_of_same rfl

theorem setChannel {c : ChannelIx} {x : Channel} (replaces : Replaces s c x) : s.Steady (s.setChannel c x) :=
  of_put rfl replaces rfl rfl rfl rfl rfl rfl rfl

theorem closeChannel (s : State) (c : ChannelIx) (l : LiveChannel) (r : EndReason) : s.Steady (s.closeChannel c l r) := by
  rw [State.closeChannel_frame]
  exact of_put (c := c) rfl (fun _ h => nomatch h) rfl rfl rfl rfl rfl rfl rfl

theorem endChannel (s : State) (c : ChannelIx) (r : EndReason) : s.Steady (s.endChannel c r) := by
  cases live : s.channels[c].live with
  | none =>
    rw [State.endChannel_of_idle live]
    exact refl s
  | some l =>
    rw [State.endChannel_of_live live]
    exact (closeChannel s c l r).trans (cause _)

theorem counted {c : ChannelIx} {l : LiveChannel} (live : s.channels[c].live = some l) :
    s.Steady (s.setChannel c { s.channels[c] with live := some (uncounted l) }) := by
  refine setChannel fun m same => ?_
  cases same
  refine ⟨l, live, ⟨uncounted_slot l, isExtend_uncounted l, ?_, ?_⟩, fun _ => ?_⟩
  all_goals unfold uncounted; split
  · rfl
  · rfl
  · exact fun some few => ⟨some, few⟩
  · exact fun some few => ⟨some, few⟩
  · exact id
  · exact id

theorem endWhere (s : State) (test : ChannelIx → LiveChannel → Bool) (reason : ChannelIx → EndReason) :
    s.Steady (s.endWhere test reason) :=
  State.endWhere_keeps (P := fun u => s.Steady u) (fun c r hu => hu.trans (endChannel _ c r)) test reason (refl s)

theorem settleCounts (s : State) (test : LiveChannel → Bool) : s.Steady (s.settleCounts test) :=
  State.settleCounts_keeps (P := fun u => s.Steady u) (fun c r hu => hu.trans (endChannel _ c r))
    (fun live _ hu => hu.trans (counted live)) (fun _ hu => hu.trans (of_same rfl rfl rfl rfl rfl rfl rfl rfl)) test (refl s)

theorem leaveChannel (s : State) (c : ChannelIx) (i : EntryIx) : s.Steady (s.leaveChannel c i).1 := by
  unfold State.leaveChannel
  split
  · exact refl s
  · next l live =>
    split
    · exact closeChannel ..
    · next j rest left =>
      refine setChannel fun m same => ?_
      cases same
      refine ⟨l, live, ⟨rfl, rfl, rfl, fun _ few => ⟨Nat.succ_pos _, ?_⟩⟩, fun _ => id⟩
      have fewer := List.length_filter_le (fun j => decide (j ≠ i)) l.riders
      rw [left] at fewer
      exact fewer.trans few

theorem shed (s : State) (i : EntryIx) (e : Entry) : s.Steady (s.shed i e).1 := by
  unfold State.shed
  split
  · exact leaveChannel ..
  · exact refl s

/-- Table and account bear on no guard. -/
theorem of_table (s : State) (a : Account) (table : Vector (Option Entry) 16) : s.Steady { s with account := a, table } :=
  of_same rfl rfl rfl rfl rfl rfl rfl rfl

theorem setEntry (s : State) (i : EntryIx) (x : Option Entry) : s.Steady (s.setEntry i x) := of_table s s.account _

theorem requestHandoff (s : State) (e : Entry) : s.Steady (s.requestHandoff e) := by
  rw [State.requestHandoff_frame]
  exact of_same rfl rfl rfl rfl rfl rfl rfl rfl

theorem closeEntry (s : State) (i : EntryIx) (e : Entry) (r : CloseReason) : s.Steady (s.closeEntry i e r) := by
  have pushed := (shed s i e).trans (of_core (State.pushOutcome_core _ (closedRecord e s.time r)))
  unfold State.closeEntry
  simp only []
  refine trans ?_ (causeIf _ _)
  split
  · exact (pushed.trans (requestHandoff _ e)).trans (setEntry ..)
  · exact pushed.trans (setEntry ..)

/-! ### Commands and events -/

/-- A change of a live channel's run alone, or of its level. -/
theorem replaces_of_eq {c : ChannelIx} {l m : LiveChannel} (live : s.channels[c].live = some l) (goesOn : l.GoesOn m)
    (suspends : s.ovr.state = .active → l.IsSuspended → m.IsSuspended) :
    Replaces s c { s.channels[c] with live := some m } := fun n same => by
  cases same
  exact ⟨l, live, goesOn, suspends⟩

theorem startExtension (s : State) (c : ChannelIx) : s.Steady (s.startExtension c) := by
  unfold State.startExtension
  split
  · next l live =>
    split
    · next extends_ armed =>
      split
      · refine setChannel (replaces_of_eq live ⟨rfl, rfl, rfl, fun some few => ⟨some, few⟩⟩ fun _ ⟨p, suspended⟩ => ?_)
        exact nomatch armed.symm.trans suspended
      · exact refl s
    · exact refl s
  · exact refl s

theorem reportLevel (s : State) (e : Entry) : s.Steady (s.reportLevel e) := by
  unfold State.reportLevel
  split
  · split
    · next live => exact setChannel (replaces_of_eq live ⟨rfl, rfl, rfl, fun some few => ⟨some, few⟩⟩ fun _ => id)
    · exact refl s
  · exact refl s

theorem updateEntry (s : State) (i : EntryIx) (e : Entry) (r : Report) (level : Nat) (w : Time × Time) :
    s.Steady (s.updateEntry i e r level w) := by
  unfold State.updateEntry
  simp only []
  have left : s.Steady (if decide (r.approach ≠ e.approach) = true then s.shed i e else (s, false)).1 := by
    split
    · exact shed s i e
    · exact refl s
  exact (((left.trans (setEntry ..)).trans (reportLevel ..)).trans (causeIf ..)).trans (cause _)

theorem created (s : State) (i : EntryIx) (x : Option Entry) : s.Steady (s.setEntry i x).cause :=
  (setEntry s i x).trans (cause _)

theorem judgePolicy (s : State) (b d r a t hz u : Half) (pr : Byte) : s.Steady (s.judgePolicy b d r a t hz u pr).1 := by
  unfold State.judgePolicy
  split
  · exact refl s
  · next p _ =>
    exact trans (t := { s with policy := p, account := accountCapped s.account p.debtCap })
      (of_same rfl rfl rfl rfl rfl rfl rfl rfl) (cause _)

theorem judgeApproach (s : State) (b : Byte) (cfg : Option ApproachConfig) : s.Steady (s.judgeApproach b cfg).1 := by
  unfold State.judgeApproach State.writeApproach
  split
  · split
    · exact refl s
    · simp only [okWith]
      split <;> exact of_same rfl rfl rfl rfl rfl rfl rfl rfl
  · exact refl s

theorem replaces_tickChannel (s : State) (c : ChannelIx) : Replaces s c (tickChannel s.channels[c]) := fun m live => by
  unfold tickChannel at live
  split at live
  · next l stands =>
    split at live
    · next extends_ _ =>
      cases live
      refine ⟨l, stands, ⟨rfl, ?_, rfl, fun some few => ⟨some, few⟩⟩, fun _ => id⟩
      unfold isExtend
      rw [extends_]
    · exact ⟨m, live, .refl m, fun _ => id⟩
  · next idle => exact nomatch idle.symm.trans live

theorem tick (s : State) (pg : BitVec 6) (chk : BitVec 4) (ovr : Bool) : s.Steady (s.tick pg chk ovr) := by
  refine of_replaced (fun c => ?_) rfl rfl ?_ rfl rfl rfl ?_
  · have ticked : (s.tick pg chk ovr).channels[c] = tickChannel s.channels[c] := tabulate_get _ c
    rw [ticked]
    exact replaces_tickChannel s c
  · unfold State.tick sampleOverride
    simp only []
    split
    · rfl
    · split <;> rfl
  · refine Vector.ext fun i h => ?_
    simp [State.tick, sampleInput]

/-- A visit of the resume check moves no guard: override is RESUMING (R128). -/
theorem visitChannel {s : State} (resuming : s.ovr.state ≠ .active) (c : ChannelIx) : s.Steady (s.visitChannel c) := by
  unfold State.visitChannel State.resumeExtend State.resumeAdvance
  split
  · next l live =>
    split
    · next extends_ =>
      split
      · refine setChannel (replaces_of_eq live ⟨rfl, ?_, rfl, fun some few => ⟨some, few⟩⟩ fun active => absurd active resuming)
        unfold isExtend
        rw [extends_]
      · exact endChannel ..
    · split
      · exact endChannel ..
      · exact setChannel (replaces_of_eq live ⟨rfl, rfl, rfl, fun some few => ⟨some, few⟩⟩ fun active => absurd active resuming)
    · exact refl s
  · exact refl s

/-- The advances that a drop starts go on (R109). -/
theorem dropOfSlot (s : State) (k : SlotIx) : s.Steady (s.dropOfSlot k) := by
  have ended := (settleCounts s fun l => decide (l.slot = k)).trans
    (endWhere _ (fun _ l => isExtend l && decide (l.slot = k)) fun _ => .greenEnded)
  unfold State.dropOfSlot
  simp only []
  generalize State.endWhere _ _ _ = u at ended ⊢
  refine ended.trans (of_replaced (fun c => ?_) rfl rfl rfl rfl rfl rfl rfl)
  rw [tabulate_get]
  split
  · next l live =>
    split
    · next armed =>
      refine replaces_of_eq live ⟨rfl, rfl, rfl, fun some few => ⟨some, few⟩⟩ fun _ ⟨p, suspended⟩ => ?_
      exact nomatch armed.2.symm.trans suspended
    · exact replaces_of_same rfl
  · exact replaces_of_same rfl

end State.Steady
end Sys2Proof.Machine
end

section
namespace Sys2Proof.Machine

/-! ## The live channels after a run that ends some of them -/

/-- A channel that is live after a run over the channels was live before, and the run did not end it. -/
theorem State.endWhere_live {s : State} {test : ChannelIx → LiveChannel → Bool} {reason : ChannelIx → EndReason} {c : ChannelIx}
    {l : LiveChannel} (live : (s.endWhere test reason).channels[c].live = some l) :
    s.channels[c].live = some l ∧ test c l = false := by
  have visits : ∀ (cs : List ChannelIx) (u : State), (cs.foldl (fun u d =>
      match u.channels[d].live with
      | some l => if test d l then u.endChannel d (reason d) else u
      | none => u) u).channels[c].live = some l → u.channels[c].live = some l ∧ (c ∈ cs → test c l = false) := by
    intro cs
    induction cs with
    | nil => exact fun u live => ⟨live, nofun⟩
    | cons d cs ih =>
      intro u found
      obtain ⟨live, rest⟩ := ih _ found
      simp only [] at live
      split at live
      · next m stands =>
        split at live
        · have other : c ≠ d := fun same => by
            subst same
            exact nomatch (u.endChannel_idle c _).symm.trans live
          rw [State.endChannel_channels_other _ _ _ other] at live
          exact ⟨live, fun mem => rest ((List.mem_cons.mp mem).resolve_left other)⟩
        · next unmet =>
          refine ⟨live, fun mem => (List.mem_cons.mp mem).elim (fun same => ?_) rest⟩
          subst same
          rw [Option.some.inj (stands.symm.trans live)] at unmet
          exact Bool.not_eq_true _ ▸ unmet
      · next none =>
        refine ⟨live, fun mem => (List.mem_cons.mp mem).elim (fun same => ?_) rest⟩
        subst same
        exact nomatch none.symm.trans live
  obtain ⟨stands, unmet⟩ := visits allChannels s live
  exact ⟨stands, unmet (mem_allChannels c)⟩

/-- A run that ends every channel leaves them all IDLE. -/
theorem State.endAll_idle (s : State) (reason : ChannelIx → EndReason) (c : ChannelIx) :
    (s.endWhere (fun _ _ => true) reason).channels[c].live = none := by
  by_contra some
  obtain ⟨l, live⟩ := Option.ne_none_iff_exists'.mp some
  exact nomatch (State.endWhere_live live).2

/-! ## Guards -/

namespace State.Guarded

variable {s t : State}

theorem passMayRun (h : s.PassMayRun) (g : s.Steady t) : t.PassMayRun := fun passing =>
  g.running_iff.mpr ((g.pass passing).elim h id)

theorem ridersBounded (h : s.RidersBounded) (g : s.Thins t) : t.RidersBounded := fun c m live => by
  obtain ⟨l, stands, goesOn⟩ := g c m live
  exact goesOn.riders (h c l stands).1 (h c l stands).2

theorem trackerHasPlan (h : s.TrackerHasPlan) (g : s.Steady t) : t.TrackerHasPlan := by
  unfold State.TrackerHasPlan
  rw [g.tracker, g.active]
  exact h

/-- A steady step keeps every guard. -/
theorem steady (g : s.Steady t) (h : s.Guarded) : t.Guarded := by
  obtain ⟨contained, suspends, pass, tracker, pointer, riders⟩ := h
  exact ⟨fun settling c => g.thins.idle (contained (g.containment ▸ settling) c), g.suspends suspends, passMayRun pass g,
    trackerHasPlan tracker g, g.faults ▸ pointer, ridersBounded riders g.thins⟩

/-- Where every channel is IDLE, only the pass, the tracker and the pointer are to be guarded. -/
theorem of_idle (idle : ∀ c : ChannelIx, t.channels[c].live = none) (pass : t.PassMayRun) (tracker : t.TrackerHasPlan)
    (pointer : t.faults.PointerSound) : t.Guarded := by
  have nothing {P : Prop} {c : ChannelIx} {l : LiveChannel} (live : t.channels[c].live = some l) : P :=
    nomatch (idle c).symm.trans live
  exact ⟨fun _ => idle, fun _ _ _ live => nothing live, pass, tracker, pointer, fun _ _ live => nothing live⟩

/-- With the running condition, only the tracker, the pointer and the riders are to be guarded. -/
theorem of_running (runs : t.RunningCondition) (tracker : t.TrackerHasPlan) (pointer : t.faults.PointerSound)
    (riders : t.RidersBounded) : t.Guarded := by
  obtain ⟨normal, inactive, step⟩ := runs
  exact ⟨fun settling => absurd normal settling, fun active => (nomatch inactive.symm.trans active), fun _ => ⟨normal, inactive, step⟩,
    tracker, pointer, riders⟩

/-! ### Faults and containment -/

theorem pointerSound_noted {f : FaultRecorder} (h : f.PointerSound) (m : BitVec 19) :
    FaultRecorder.PointerSound { f with status := f.status ||| m } := by
  unfold FaultRecorder.PointerSound at h ⊢
  split at h
  · next k pointer =>
    simp only [pointer, kindBit_or, h.1, Bool.true_or, h.2, and_self]
  · next pointer => simp only [pointer]

theorem pointerSound_released {f : FaultRecorder} {m : BitVec 19} (h : ∀ k, f.pointer = some k → kindBit m k = false →
    kindBit f.status k = true ∧ kindBit f.mask k = false) : (releasePointer f m).PointerSound := by
  unfold releasePointer
  split
  · next k pointer =>
    split
    · exact trivial
    · next spared =>
      unfold FaultRecorder.PointerSound
      rw [pointer]
      exact h k pointer (Bool.not_eq_true _ ▸ spared)
  · next pointer =>
    unfold FaultRecorder.PointerSound
    rw [pointer]
    exact trivial

theorem pointerSound_iff {f : FaultRecorder} : f.PointerSound ↔
    ∀ k, f.pointer = some k → kindBit f.status k = true ∧ kindBit f.mask k = false := by
  unfold FaultRecorder.PointerSound
  split
  · next k pointer =>
    rw [pointer]
    exact ⟨fun h j same => Option.some.inj same ▸ h, fun h => h k rfl⟩
  · next pointer =>
    rw [pointer]
    exact ⟨fun _ _ h => (nomatch h), fun _ => trivial⟩

theorem faults {f : FaultRecorder} (h : s.Guarded) (sound : f.PointerSound) : State.Guarded { s with faults := f } := by
  obtain ⟨contained, suspends, pass, tracker, _, riders⟩ := h
  exact ⟨contained, suspends, pass, tracker, sound, riders⟩

theorem pointer (h : s.Guarded) : s.faults.PointerSound := h.2.2.2.2.1

theorem recorded (h : s.Guarded) (k : FaultKind) (src : FaultSource) (v : Option Vehicle)
    (unmasked : kindBit s.faults.mask k = false) : (s.recorded k src v).Guarded := by
  have sound : (s.recorded k src v).faults.PointerSound := by
    refine pointerSound_iff.mpr fun j pointer => ?_
    change (if s.faults.pointer = none then some k else s.faults.pointer) = some j at pointer
    change kindBit (s.faults.status ||| kindMap k) j = true ∧ kindBit s.faults.mask j = false
    rw [kindBit_or, kindBit_kindMap]
    split at pointer
    · cases pointer
      exact ⟨by simp, unmasked⟩
    · obtain ⟨stands, unmasked⟩ := pointerSound_iff.mp h.pointer j pointer
      exact ⟨by rw [stands]; rfl, unmasked⟩
  exact (h.faults sound).steady (.of_same rfl rfl rfl rfl rfl rfl rfl rfl)

theorem trigger (h : s.Guarded) (r : ContainReason) : (s.trigger r).Guarded := by
  rcases s.trigger_cases r with e | e <;> rw [e]
  · exact h
  · obtain ⟨_, _, _, tracker, pointer, _⟩ := h
    have steady := State.Steady.endWhere (s.settled r) (fun _ _ => true) fun _ => .contained
    have idle := (s.settled r).endAll_idle fun _ => .contained
    have pass : (s.settled r).PassMayRun := fun passing => absurd rfl passing
    rw [State.endWhere_eq_endingThose] at steady idle
    generalize (s.settled r).endingThose _ _ = u at steady idle ⊢
    exact of_idle (t := u.raise .cnt) idle (passMayRun (s := s.settled r) pass (steady.trans (.of_core rfl)))
      (trackerHasPlan (s := s.settled r) tracker (steady.trans (.of_core rfl))) (steady.faults ▸ pointer)

theorem endures : Endures State.Guarded where
  same := fun h => steady (.of_core h)
  noted := fun _ h => h.faults (pointerSound_noted h.pointer _)
  recorded := fun k src v unmasked h => h.recorded k src v unmasked
  trigger := fun r h => h.trigger r
  ended := fun {s} c r => steady (.endChannel s c r)
  counted := fun live _ => steady (.counted live)

/-- Containment leaves SETTLING for HELD, or HELD for NORMAL: no pass was in progress (R163, R165). -/
theorem contained (h : s.Guarded) (outside : s.containment.state ≠ .normal) (x : ContainState) :
    State.Guarded { s with containment := { s.containment with state := x } } := by
  obtain ⟨contained, suspends, pass, tracker, pointer, riders⟩ := h
  exact ⟨fun _ => contained outside, suspends, fun passing => absurd (pass passing).1 outside, tracker, pointer, riders⟩

theorem observeBoundary (h : s.Guarded) : s.observeBoundary.Guarded := by
  unfold State.observeBoundary
  split
  · next r x settling =>
    exact endures.same (s := { s with containment := { s.containment with state := .held r } }) rfl
      (h.contained (by rw [settling]; nofun) _)
  · exact h

theorem settleTimeout (h : s.Guarded) : s.settleTimeout.Guarded := by
  unfold State.settleTimeout
  split
  · next r x settling =>
    split
    · exact endures.same (s := { s with containment := { s.containment with state := .held r } }) rfl
        (h.contained (by rw [settling]; nofun) _)
    · exact h
  · exact h

theorem judgeRelease (h : s.Guarded) : s.judgeRelease.1.Guarded := by
  unfold State.judgeRelease
  split
  · exact h
  · exact h
  · next held =>
    split
    · exact h
    · exact (h.contained (by rw [held]; nofun) .normal).steady (.cause _)

/-! ### Override -/

theorem suspended_live {x : Channel} {m : LiveChannel} (h : (suspended x).live = some m) :
    m.IsSuspended ∧ ∃ l, x.live = some l ∧ l.GoesOn m := by
  unfold suspended at h
  split at h
  · next l stands =>
    split at h
    · cases h
      exact ⟨⟨_, rfl⟩, l, stands, rfl, rfl, rfl, fun some few => ⟨some, few⟩⟩
    · cases h
      exact ⟨⟨_, rfl⟩, l, stands, rfl, rfl, rfl, fun some few => ⟨some, few⟩⟩
    · next p run =>
      rw [Option.some.inj (h.symm.trans stands)]
      exact ⟨⟨p, run⟩, l, stands, .refl l⟩
  · next idle => exact nomatch idle.symm.trans h

/-- An activation leaves every channel that is live SUSPENDED, and no pass in progress (R126). -/
theorem activate (h : s.Guarded) : s.activate.Guarded := by
  have settled := h.steady (.settleCounts s fun _ => true)
  unfold State.activate
  simp only []
  generalize s.settleCounts _ = u at settled ⊢
  obtain ⟨contained, _, _, tracker, pointer, riders⟩ := settled
  have live {c : ChannelIx} {m : LiveChannel}
      (h : (tabulate (n := 4) fun c => suspended u.channels[c])[c].live = some m) :
      m.IsSuspended ∧ ∃ l, u.channels[c].live = some l ∧ l.GoesOn m := by
    rw [tabulate_get] at h
    exact suspended_live h
  refine ⟨fun settling c => ?_, fun _ c m stands => (live stands).1, fun passing => absurd rfl passing, tracker, pointer,
    fun c m stands => ?_⟩
  · by_contra some
    obtain ⟨m, stands⟩ := Option.ne_none_iff_exists'.mp some
    obtain ⟨_, l, was, _⟩ := live stands
    exact nomatch (contained settling c).symm.trans was
  · obtain ⟨_, l, was, goesOn⟩ := live stands
    exact goesOn.riders (riders c l was).1 (riders c l was).2

/-- Override moves between its states but INACTIVE and ACTIVE: no pass was in progress, and none is suspended for it. -/
theorem overrides (h : s.Guarded) (outside : s.ovr.state ≠ .inactive) {o : OverrideMonitor} (released : o.state ≠ .active) :
    State.Guarded { s with ovr := o } := by
  obtain ⟨contained, _, pass, tracker, pointer, riders⟩ := h
  exact ⟨contained, fun active => absurd active released, fun passing => absurd (pass passing).2.1 outside, tracker, pointer, riders⟩

theorem formOverride (h : s.Guarded) : s.formOverride.Guarded := by
  unfold State.formOverride
  split
  · split
    · exact h.activate
    · exact h
  · next active =>
    split
    · exact h
    · exact h.overrides (by rw [active]; nofun) (by simp)
  · split
    · exact h.activate
    · exact h

theorem resumeVisit (h : s.Guarded) : s.resumeVisit.Guarded := by
  unfold State.resumeVisit State.finishResume
  split
  · next c resuming =>
    have steady := State.Steady.visitChannel (s := s) (by rw [resuming]; nofun) c
    have visited := h.steady steady
    have still : (s.visitChannel c).ovr.state ≠ .inactive := by
      rw [steady.override_, resuming]
      nofun
    simp only []
    generalize s.visitChannel c = u at visited still ⊢
    split
    · exact endures.same (s := State.cause { u with ovr := { u.ovr with state := .inactive } }) rfl
        ((visited.overrides still (by simp)).steady (.cause _))
    · exact visited.overrides still (by simp)
  · exact h

end State.Guarded
end Sys2Proof.Machine
end

section
namespace Sys2Proof.Machine

theorem State.inStep_iff {s : State} : s.inStep = true ↔ ∃ r, s.tracker = .inStep r := by
  unfold State.inStep
  cases s.tracker <;> simp

theorem Figures.record_riders (f : Figures) (p : Proposal) (i : EntryIx) (level : Nat) (cause : StartCause) :
    (f.record p i level cause).riders = [i] := by cases p <;> rfl

namespace State.Guarded

variable {s t : State}

/-! ### The tracker -/

/-- The tracker steps under a plan: a pass in progress may go on (R48, R81). -/
theorem stepped (h : s.Guarded) (ps : PlanStore) {p : Plan} (active : ps.active = some p) (r : StepRecord) (a : Account) :
    State.Guarded { s with plans := ps, tracker := .inStep r, account := a } := by
  obtain ⟨contained, suspends, pass, _, pointer, riders⟩ := h
  refine ⟨contained, suspends, fun passing => ?_, ⟨nofun, fun none => ?_⟩, pointer, riders⟩
  · exact ⟨(pass passing).1, (pass passing).2.1, r, rfl⟩
  · exact nomatch none.symm.trans active

theorem active_of_inStep (h : s.Guarded) {r : StepRecord} (inStep : s.tracker = .inStep r) : ∃ p, s.plans.active = some p := by
  obtain ⟨_, _, _, tracker, _⟩ := h
  refine Option.ne_none_iff_exists'.mp fun none => ?_
  exact nomatch inStep.symm.trans (tracker.mpr none)

theorem leaveInStep (h : s.Guarded) {r : StepRecord} (inStep : s.tracker = .inStep r) (k : FaultKind) :
    (s.leaveInStep k).Guarded := by
  have settles := State.Steady.settleCounts s fun _ => true
  have settled := h.steady settles
  have inStep := settles.tracker.trans inStep
  unfold State.leaveInStep
  simp only []
  generalize s.settleCounts _ = u at settled inStep ⊢
  refine endures.occur _ _ _ (steady (.endWhere _ _ _) ?_)
  obtain ⟨p, active⟩ := settled.active_of_inStep inStep
  obtain ⟨contained, suspends, _, _, pointer, riders⟩ := settled
  exact ⟨contained, suspends, fun passing => absurd rfl passing, ⟨nofun, fun none => nomatch none.symm.trans active⟩, pointer,
    riders⟩

theorem boundary (h : s.Guarded) {p : Plan} (active : s.plans.active = some p) (x : Time) (last : Option Time) :
    (s.boundary p x last).Guarded := by
  have begun := (h.stepped s.plans active { cur := 0, period := .green, onset := x, lastBoundary := x }
    (accountBoundary s.account s.policy)).steady (.cause _)
  have observed := (begun.steady (.endWhere _ (fun _ l => !isExtend l && decide (l.slot = 0)) fun _ => .complete)).observeBoundary
  unfold State.boundary
  simp only []
  split
  · split
    · exact endures.occur _ _ _ observed
    · exact observed
  · exact observed

theorem moveTo (h : s.Guarded) {r : StepRecord} (inStep : s.tracker = .inStep r) (k : SlotIx) (x : Time) :
    (s.moveTo r k x).Guarded := by
  obtain ⟨p, active⟩ := h.active_of_inStep inStep
  have moved := (h.stepped s.plans active { r with cur := k, period := .green, onset := x }
    { s.account with xcur := 0 }).steady (.cause _)
  unfold State.moveTo State.onsetOfSlot
  simp only []
  generalize State.cause _ = u at moved ⊢
  exact moved.steady (.endWhere u _ _)

theorem adopt (h : s.Guarded) (p : Plan) (x : Time) : (s.adopt p x).Guarded := by
  have settled := h.steady (.settleCounts s fun _ => true)
  unfold State.adopt State.endAll
  simp only []
  generalize s.settleCounts _ = u at settled ⊢
  have ended := (settled.stepped { active := some p, staged := none } rfl
    { cur := 0, period := .green, onset := x, lastBoundary := x } u.account).steady
      (.endWhere _ (fun _ _ => true) fun _ => .planChange)
  generalize State.endWhere _ _ _ = w at ended ⊢
  have opened : State.Guarded { w with account := accountAdoption w.account w.policy } :=
    ended.steady (.of_same rfl rfl rfl rfl rfl rfl rfl rfl)
  exact ((opened.steady (.cause _)).observeBoundary).steady (.of_same rfl rfl rfl rfl rfl rfl rfl rfl)

theorem onsetFollow (h : s.Guarded) {r : StepRecord} (inStep : s.tracker = .inStep r) {p : Plan}
    (active : s.plans.active = some p) (ph : Phase) (x : Time) : (s.onsetFollow r p ph x).Guarded := by
  unfold State.onsetFollow
  split
  · exact h.leaveInStep inStep _
  · split
    · exact h.boundary active ..
    · split
      · exact h.moveTo inStep ..
      · exact h.leaveInStep inStep _

theorem judgeOnset (h : s.Guarded) (ph : Phase) (x : Time) : (s.judgeOnset ph x).Guarded := by
  unfold State.judgeOnset
  split
  · unfold State.conflict
    split
    · next step =>
      obtain ⟨r, inStep⟩ := State.inStep_iff.mp step
      exact h.leaveInStep inStep _
    · exact endures.occur _ _ _ h
  · split
    · unfold State.onsetNoPlan
      split
      · exact h.adopt ..
      · exact endures.occur _ _ _ h
    · unfold State.onsetUnsynced
      split
      · exact h.adopt ..
      · split
        · next active =>
          split
          · exact h.boundary active ..
          · exact h
        · exact h
    · next inStep =>
      unfold State.onsetInStep
      split
      · exact h
      · next active =>
        split
        · split
          · exact h.adopt ..
          · exact h.onsetFollow inStep active ..
        · exact h.onsetFollow inStep active ..

theorem judgeDrop (h : s.Guarded) (ph : Phase) (x : Time) : (s.judgeDrop ph x).Guarded := by
  unfold State.judgeDrop
  split
  · next r p inStep active =>
    split
    · exact ((h.stepped s.plans active { r with period := .clearance x } s.account).steady (.cause _)).steady (.dropOfSlot ..)
    · exact h
  · exact h

theorem takeChange (h : s.Guarded) (ph : Phase) (level : Bool) {judge : State → Time → State}
    (judged : ∀ {t : State} (x : Time), t.Guarded → (judge t x).Guarded) : (s.takeChange ph level judge).Guarded := by
  have recognised : (s.recognise ph level).Guarded := by
    obtain ⟨contained, suspends, pass, tracker, pointer, riders⟩ := h
    exact ⟨contained, suspends, pass, tracker, pointer, riders⟩
  unfold State.takeChange
  simp only []
  split
  · split
    · exact h
    · exact judged _ recognised
  · exact h

/-! ### Turns and forced grants -/

/-- A turn writes account, table, channels and engine alone. -/
theorem turn_endsOnly (s : State) : TurnKept (fun t => s.EndsOnly t) fun _ _ _ => True where
  engine := fun _ h => h.trans rfl
  ended := fun {u} c r h => h.trans (u.endChannel_frame c r)
  denied := fun _ _ _ h => h.trans rfl
  annotated := fun _ _ h => h.trans rfl
  granted := fun _ _ _ _ _ h => h.trans rfl
  toppedUp := fun {u f c l n} figures _ _ _ h => h.trans (by
    rw [u.topUp_frame f c l n (State.figures_reads figures).1])
  joined := fun {u i e c l} live _ _ h => by
    rw [State.addRider_of_live live]
    exact h.trans rfl
  endedNew := fun _ _ _ => trivial
  toppedUpNew := fun _ _ => trivial

/-- One channel's riders may change within their bounds. -/
theorem ridersBounded_replaced {c : ChannelIx} {x : Option LiveChannel} (h : s.RidersBounded)
    (others : ∀ d, d ≠ c → t.channels[d] = s.channels[d]) (same : t.channels[c].live = x)
    (bounded : ∀ m, x = some m → 1 ≤ m.riders.length ∧ m.riders.length ≤ 4) : t.RidersBounded := fun d m live => by
  by_cases found : d = c
  · subst found
    exact bounded m (same.symm.trans live)
  · rw [others d found] at live
    exact h d m live

theorem turn_ridersBounded : TurnKept State.RidersBounded fun _ _ _ => True where
  engine := fun _ h => h
  ended := fun {u} c r h => ridersBounded h (State.Steady.endChannel u c r).thins
  denied := fun _ _ _ h => h
  annotated := fun _ _ h => h
  granted := fun {u f i e c p} cause _ _ _ _ h =>
    ridersBounded_replaced (c := c) h (fun _ other => put_other _ _ other) (congrArg Channel.live (put_same ..)) fun m same => by
      cases same
      rw [Figures.record_riders]
      exact ⟨le_rfl, (by decide : 1 ≤ 4)⟩
  toppedUp := fun {u f c l n} _ live _ _ h =>
    ridersBounded_replaced (c := c) h (fun _ other => u.topUp_channels_other f c l n other)
      (congrArg Channel.live (u.topUp_channels_same f c l n)) fun m same => by
        cases same
        exact h c l live
  joined := fun {u i e c l} live room _ h => by
    rw [State.addRider_of_live live]
    refine ridersBounded_replaced (c := c) h (fun _ other => put_other _ _ other) (congrArg Channel.live (put_same ..)) fun m same => ?_
    cases same
    rw [List.length_append]
    exact ⟨Nat.succ_pos _, room⟩
  endedNew := fun _ _ _ => trivial
  toppedUpNew := fun _ _ => trivial

/-- With the running condition, what writes no guard keeps the guards as it keeps the riders. -/
theorem endsOnly (h : s.Guarded) (runs : s.RunningCondition) (frame : s.EndsOnly t) (riders : t.RidersBounded) : t.Guarded := by
  obtain ⟨_, _, _, tracker, pointer, _⟩ := h
  rw [frame] at riders ⊢
  exact of_running runs tracker pointer riders

theorem takeTurn (h : s.Guarded) : s.takeTurn.Guarded := by
  by_cases idle : s.engine.pass = none
  · rwa [State.takeTurn_of_idle idle]
  · exact h.endsOnly (h.2.2.1 idle) ((turn_endsOnly s).takeTurn (fun _ _ _ _ _ => trivial) rfl)
      (turn_ridersBounded.takeTurn (fun _ _ _ _ _ => trivial) h.2.2.2.2.2)

theorem judgeForce (h : s.Guarded) (b a : Byte) (n : Half) : (s.judgeForce b a n).1.Guarded := by
  by_cases runs : s.RunningCondition
  · exact h.endsOnly runs ((turn_endsOnly s).judgeForce b a n (fun _ _ _ _ => trivial) rfl)
      (turn_ridersBounded.judgeForce b a n (fun _ _ _ _ => trivial) h.2.2.2.2.2)
  · unfold State.judgeForce
    split
    · split
      · exact h
      · unfold State.forceEntry
        rw [if_pos (by rw [Bool.not_eq_true' .. |>.mpr (Bool.not_eq_true _ ▸ mt (s.mayRun_iff).mp runs)]; rfl)]
        exact h
    · exact h

/-! ### The first half of O58 -/

theorem kept : Kept State.Guarded fun _ => True where
  toEndures := endures
  powerOn := fun _ a b => (invariantsHoldAtReset a b).2.2.2.1
  cleared := fun {s} m h => h.faults (by
    refine pointerSound_released fun k pointer spared => ?_
    obtain ⟨stands, unmasked⟩ := pointerSound_iff.mp h.pointer k pointer
    simp [stands, unmasked, spared])
  controlled := fun {s} m v enable n h => by
    have sound : (faultsControlled s.faults m v).PointerSound := pointerSound_released fun k pointer spared =>
      ⟨(pointerSound_iff.mp h.pointer k pointer).1, spared⟩
    exact (h.faults sound).steady (.of_same rfl rfl rfl rfl rfl rfl rfl rfl)
  released := judgeRelease
  settles := settleTimeout
  unstaged := steady (.of_same rfl rfl rfl rfl rfl rfl rfl rfl)
  staged := fun _ => steady (.of_same rfl rfl rfl rfl rfl rfl rfl rfl)
  approach := fun {s} b fl ph vf vl mg => steady (.judgeApproach s b _)
  policy := fun {s} b d r a t hz u pr => steady (.judgePolicy s b d r a t hz u pr)
  formed := formOverride
  resumed := resumeVisit
  forced := fun b a n h => h.judgeForce b a n
  turned := takeTurn
  starts := fun {s} c => steady (.startExtension s c)
  onset := fun ph h => h.takeChange ph true fun x ht => ht.judgeOnset ph x
  dropped := fun ph h => h.takeChange ph false fun x ht => ht.judgeDrop ph x
  ticked := fun {s} pg chk ovr => steady (.tick s pg chk ovr)
  radioTaken := fun {s t} _ core => steady (.of_same (congrArg Core.channels core)
    (congrArg (fun c : Core => c.engine.pass) core) (congrArg (fun c : Core => c.containment.state) core)
    (congrArg Core.override_ core) (congrArg Core.tracker core) (congrArg (fun c : Core => c.plans.active) core)
    (congrArg Core.faults core) (congrArg Core.recognised core))
  radioEnds := fun {s t} core => steady (.of_same (congrArg Core.channels core)
    (congrArg (fun c : Core => c.engine.pass) core) (congrArg (fun c : Core => c.containment.state) core)
    (congrArg Core.override_ core) (congrArg Core.tracker core) (congrArg (fun c : Core => c.plans.active) core)
    (congrArg Core.faults core) (congrArg Core.recognised core))
  radioWindow := fun _ _ _ => trivial
  handoffWindow := fun _ _ => trivial
  closed := fun {s i e} r _ => steady (.closeEntry s i e r)
  created := fun {s i e} _ _ _ => steady (.created s i _)
  updated := fun {s i e r level w} _ _ _ _ => steady (.updateEntry s i e r level w)

/-- A block's reset keeps the guards: it leaves them alone, or puts what they guard to rest. -/
theorem blockReset (h : s.Guarded) (b : Block) : (s.blockReset b).Guarded := by
  have reset : (s.resetBlock b).Guarded := by
    obtain ⟨contained, suspends, pass, tracker, pointer, riders⟩ := id h
    cases b with
    | rx r => exact endures.same (State.setRx_core ..) h
    | link p => exact endures.same (State.setLink_core { s with freeIndex := s.freeIndex + 1 } p _) h
    | intake => exact h.steady (.of_same rfl rfl rfl rfl rfl rfl rfl rfl)
    | table => exact h.steady (.of_same rfl rfl rfl rfl rfl rfl rfl rfl)
    | tracker =>
      refine ⟨contained, suspends, fun passing => absurd rfl passing, ?_, pointer, riders⟩
      simp only [State.TrackerHasPlan, State.resetBlock, State.resetTracker, State.stopPass]
      cases s.plans.active <;> simp
    | engine => exact ⟨contained, suspends, fun passing => absurd rfl passing, tracker, pointer, riders⟩
    | channels =>
      exact of_idle (t := s.resetBlock .channels) (fun c => congrArg Channel.live (replicate_get channelIdle c)) pass tracker pointer
    | overrideMonitor =>
      exact ⟨contained, nofun, fun passing => ⟨(pass passing).1, rfl, (pass passing).2.2⟩, tracker, pointer, riders⟩
    | faults =>
      exact ⟨fun outside => absurd rfl outside, suspends, fun passing => ⟨rfl, (pass passing).2⟩, tracker, trivial, riders⟩
  unfold State.blockReset
  split
  · split
    · unfold State.resetProgress
      split <;> exact endures.same (s := s.resetBlock b) rfl reset
    · exact h
  · exact h

end State.Guarded
end Sys2Proof.Machine
end

section
namespace Sys2Proof.Machine

/-! ## Riders and their channels -/

/-- The rider list of a live channel; none rides an IDLE one. -/
def State.ridersOf (s : State) (c : ChannelIx) : List EntryIx := ((s.channels[c].live).map (·.riders)).getD []

/-- An entry is GRANTED on a channel. -/
def State.Rides (s : State) (i : EntryIx) (c : ChannelIx) : Prop := ∃ e, s.table[i] = some e ∧ e.state = .granted c

section Seats

variable {s t u : State}

theorem State.ridersOf_live {c : ChannelIx} {l : LiveChannel} (live : s.channels[c].live = some l) : s.ridersOf c = l.riders := by
  rw [State.ridersOf, live]
  rfl

theorem State.ridersOf_idle {c : ChannelIx} (idle : s.channels[c].live = none) : s.ridersOf c = [] := by
  rw [State.ridersOf, idle]
  rfl

/-- The rider lists and the GRANTED entries agree (R19, R103). -/
theorem State.ridersLinked_iff : s.RidersLinked ↔ ∀ c, (s.ridersOf c).Nodup ∧ ∀ i, i ∈ s.ridersOf c ↔ s.Rides i c := by
  constructor
  · rintro ⟨listed, riding⟩ c
    cases live : s.channels[c].live with
    | none =>
      rw [State.ridersOf_idle live]
      refine ⟨List.nodup_nil, fun i => ⟨nofun, fun ⟨e, found, granted⟩ => ?_⟩⟩
      obtain ⟨l, live', _⟩ := listed i c e found granted
      exact nomatch live.symm.trans live'
    | some l =>
      rw [State.ridersOf_live live]
      obtain ⟨once, granted⟩ := riding c l live
      refine ⟨once, fun i => ⟨granted i, fun ⟨e, found, granted⟩ => ?_⟩⟩
      obtain ⟨m, live', rides⟩ := listed i c e found granted
      cases live.symm.trans live'
      exact rides
  · intro h
    refine ⟨fun i c e found granted => ?_, fun c l live => ?_⟩
    · have rides := ((h c).2 i).mpr ⟨e, found, granted⟩
      cases live : s.channels[c].live with
      | none =>
        rw [State.ridersOf_idle live] at rides
        exact nomatch rides
      | some l => exact ⟨l, rfl, State.ridersOf_live live ▸ rides⟩
    · obtain ⟨once, listed⟩ := h c
      rw [State.ridersOf_live live] at once listed
      exact ⟨once, fun i rides => (listed i).mp rides⟩

theorem State.rides_unique {i : EntryIx} {c d : ChannelIx} (h : s.Rides i c) (h' : s.Rides i d) : c = d := by
  obtain ⟨e, found, granted⟩ := h
  obtain ⟨f, found', granted'⟩ := h'
  cases found.symm.trans found'
  cases granted.symm.trans granted'
  rfl

theorem State.ridersOf_congr (channels : t.channels = s.channels) (c : ChannelIx) : t.ridersOf c = s.ridersOf c := by
  rw [State.ridersOf, State.ridersOf, channels]

theorem State.rides_congr (table : t.table = s.table) (i : EntryIx) (c : ChannelIx) : t.Rides i c ↔ s.Rides i c := by
  rw [State.Rides, State.Rides, table]

/-- A channel of the same riders in place of another leaves every rider list. -/
theorem State.ridersOf_replaced {c : ChannelIx} {x : Channel} (channels : t.channels = put s.channels c x)
    (riders : (x.live.map (·.riders)).getD [] = s.ridersOf c) (d : ChannelIx) : t.ridersOf d = s.ridersOf d := by
  rw [State.ridersOf, channels]
  by_cases same : d = c
  · rw [same, put_same, riders]
  · rw [put_other _ _ same]
    rfl

/-- An entry written with its state as it was, or with none of GRANTED where it rides nothing, leaves who rides what. -/
theorem State.rides_replaced {i : EntryIx} {x : Option Entry} (table : t.table = put s.table i x)
    (seat : ∀ c, (∃ e, x = some e ∧ e.state = .granted c) ↔ s.Rides i c) (j : EntryIx) (c : ChannelIx) :
    t.Rides j c ↔ s.Rides j c := by
  rw [State.Rides, table]
  by_cases same : j = i
  · rw [same, put_same]
    exact seat c
  · rw [put_other _ _ same]
    rfl

end Seats

namespace State.RidersLinked

variable {s t : State}

theorem of_same (h : s.RidersLinked) (riders : ∀ c, t.ridersOf c = s.ridersOf c) (rides : ∀ i c, t.Rides i c ↔ s.Rides i c) :
    t.RidersLinked := by
  refine State.ridersLinked_iff.mpr fun c => ?_
  rw [riders c]
  exact ⟨(State.ridersLinked_iff.mp h c).1, fun i => ((State.ridersLinked_iff.mp h c).2 i).trans (rides i c).symm⟩

theorem congr (h : s.RidersLinked) (channels : t.channels = s.channels) (table : t.table = s.table) : t.RidersLinked :=
  h.of_same (State.ridersOf_congr channels) (State.rides_congr table)

/-- Who rides a channel is on its list alone. -/
theorem rides_iff (h : s.RidersLinked) (i : EntryIx) (c : ChannelIx) : i ∈ s.ridersOf c ↔ s.Rides i c :=
  (State.ridersLinked_iff.mp h c).2 i

theorem alone (h : s.RidersLinked) {i : EntryIx} {c d : ChannelIx} (rides : s.Rides i c) (listed : i ∈ s.ridersOf d) : d = c :=
  State.rides_unique ((h.rides_iff i d).mp listed) rides

/-- A channel of the same riders in place of another keeps them linked. -/
theorem replaced (h : s.RidersLinked) {c : ChannelIx} {x : Channel} (riders : (x.live.map (·.riders)).getD [] = s.ridersOf c) :
    State.RidersLinked (s.setChannel c x) :=
  h.of_same (State.ridersOf_replaced rfl riders) (State.rides_congr rfl)

theorem cause (h : s.RidersLinked) : s.cause.RidersLinked := by
  rw [State.cause_frame]
  exact h.congr rfl rfl

theorem causeIf (h : s.RidersLinked) (b : Bool) : (s.causeIf b).RidersLinked := by
  rw [State.causeIf_frame]
  exact h.congr rfl rfl

/-- The end of a channel returns all its riders (R113). -/
theorem endChannel (h : s.RidersLinked) (c : ChannelIx) (r : EndReason) : (s.endChannel c r).RidersLinked := by
  cases live : s.channels[c].live with
  | none => rwa [State.endChannel_of_idle live]
  | some l =>
    have rides (i : EntryIx) (d : ChannelIx) : (s.endChannel c r).Rides i d ↔ s.Rides i d ∧ i ∉ s.ridersOf c := by
      rw [State.Rides, State.endChannel_table s live, State.ridersOf_live live]
      split
      · next listed =>
        refine ⟨fun ⟨e, found, granted⟩ => ?_, fun ⟨_, unlisted⟩ => absurd listed unlisted⟩
        obtain ⟨f, _, rfl⟩ := Option.map_eq_some_iff.mp found
        exact nomatch granted
      · next unlisted => exact ⟨fun rides => ⟨rides, unlisted⟩, And.left⟩
    refine State.ridersLinked_iff.mpr fun d => ?_
    by_cases same : d = c
    · subst same
      rw [State.ridersOf_idle (s.endChannel_idle d r)]
      exact ⟨List.nodup_nil, fun i => ⟨nofun, fun rider => absurd ((h.rides_iff i d).mpr ((rides i d).mp rider).1) ((rides i d).mp rider).2⟩⟩
    · have others : (s.endChannel c r).ridersOf d = s.ridersOf d := by
        rw [State.ridersOf, State.endChannel_channels_other _ _ _ same]
        rfl
      rw [others]
      refine ⟨(State.ridersLinked_iff.mp h d).1, fun i => ⟨fun listed => (rides i d).mpr ⟨(h.rides_iff i d).mp listed, fun listed' => ?_⟩,
        fun rider => (h.rides_iff i d).mpr ((rides i d).mp rider).1⟩⟩
      exact same (h.alone ((h.rides_iff i c).mp listed') listed)

theorem counted (h : s.RidersLinked) {c : ChannelIx} {l : LiveChannel} (live : s.channels[c].live = some l) :
    State.RidersLinked (s.setChannel c { s.channels[c] with live := some (uncounted l) }) := by
  refine h.replaced ?_
  rw [State.ridersOf_live live]
  unfold uncounted
  cases l.action <;> rfl

theorem endWhere (h : s.RidersLinked) (test : ChannelIx → LiveChannel → Bool) (reason : ChannelIx → EndReason) :
    (s.endWhere test reason).RidersLinked :=
  State.endWhere_keeps (P := State.RidersLinked) (fun c r hu => hu.endChannel c r) test reason h

theorem settleCounts (h : s.RidersLinked) (test : LiveChannel → Bool) : (s.settleCounts test).RidersLinked :=
  State.settleCounts_keeps (P := State.RidersLinked) (fun c r hu => hu.endChannel c r) (fun live _ hu => hu.counted live)
    (fun _ hu => hu.congr rfl rfl) test h

/-- An entry written with its seat as it was keeps them linked. -/
theorem reseated (h : s.RidersLinked) {i : EntryIx} {x : Option Entry}
    (seat : ∀ c, (∃ e, x = some e ∧ e.state = .granted c) ↔ s.Rides i c) : State.RidersLinked (s.setEntry i x) :=
  h.of_same (State.ridersOf_congr rfl) (State.rides_replaced rfl seat)

/-- An entry that keeps its state keeps its seat. -/
theorem rewritten (h : s.RidersLinked) {i : EntryIx} {e f : Entry} (found : s.table[i] = some e) (state : f.state = e.state) :
    State.RidersLinked (s.setEntry i (some f)) :=
  h.reseated fun c => ⟨fun ⟨_, same, granted⟩ => ⟨e, found, by cases same; rwa [← state]⟩,
    fun ⟨g, found', granted⟩ => ⟨f, rfl, by cases found.symm.trans found'; rwa [state]⟩⟩

/-- An entry on no rider list may take any state but GRANTED. -/
theorem unseated (h : s.RidersLinked) {i : EntryIx} {x : Option Entry} (unlisted : ∀ c, i ∉ s.ridersOf c)
    (free : ∀ e c, x = some e → e.state ≠ .granted c) : State.RidersLinked (s.setEntry i x) :=
  h.reseated fun c => ⟨fun ⟨e, same, granted⟩ => absurd granted (free e c same),
    fun rides => absurd ((h.rides_iff i c).mpr rides) (unlisted c)⟩

/-- An entry that is not GRANTED is on no rider list. -/
theorem unlisted (h : s.RidersLinked) {i : EntryIx} (free : ∀ c, ¬ s.Rides i c) (c : ChannelIx) : i ∉ s.ridersOf c :=
  fun listed => free c ((h.rides_iff i c).mp listed)

theorem shed_table (s : State) (i : EntryIx) (e : Entry) (j : EntryIx) : (s.shed i e).1.table[j] = s.table[j] := by
  unfold State.shed State.leaveChannel
  split
  · split
    · rfl
    · split
      · rw [State.closeChannel_table]
        exact if_neg List.not_mem_nil
      · rfl
  · rfl

/-- An entry that leaves its channel is off every rider list, and no other is (R112). -/
theorem shed_ridersOf (h : s.RidersLinked) {i : EntryIx} {e : Entry} {c : ChannelIx} (found : s.table[i] = some e)
    (granted : e.state = .granted c) (d : ChannelIx) :
    (s.shed i e).1.ridersOf d = (s.ridersOf d).filter fun j => decide (j ≠ i) := by
  obtain ⟨l, live, _⟩ := h.1 i c e found granted
  have others (other : d ≠ c) : (s.ridersOf d).filter (fun j => decide (j ≠ i)) = s.ridersOf d :=
    List.filter_eq_self.mpr fun j listed => decide_eq_true fun same => other (h.alone ⟨e, found, granted⟩ (same ▸ listed))
  by_cases last : l.riders.filter (fun j => decide (j ≠ i)) = []
  · rw [State.shed_of_last granted live i last, State.ridersOf, State.closeChannel_channels]
    by_cases same : d = c
    · rw [same, put_same, State.ridersOf_live live, last]
      rfl
    · rw [put_other _ _ same, others same]
      rfl
  · rw [State.shed_of_rest granted live i last, State.ridersOf, State.setChannel_channels]
    by_cases same : d = c
    · rw [same, put_same, State.ridersOf_live live]
      rfl
    · rw [put_other _ _ same, others same]
      rfl

/-- An entry that leaves its channel, and then takes any state but GRANTED (R26, R29). -/
theorem shed (h : s.RidersLinked) {i : EntryIx} {e : Entry} (found : s.table[i] = some e) {x : Option Entry}
    (free : ∀ f c, x = some f → f.state ≠ .granted c) : State.RidersLinked ((s.shed i e).1.setEntry i x) := by
  by_cases granted : ∃ c, e.state = .granted c
  · obtain ⟨c, granted⟩ := granted
    have rides (j : EntryIx) (d : ChannelIx) : ((s.shed i e).1.setEntry i x).Rides j d ↔ j ≠ i ∧ s.Rides j d := by
      rw [State.Rides, State.setEntry_table]
      by_cases same : j = i
      · rw [same, put_same]
        exact ⟨fun ⟨f, given, state⟩ => absurd state (free f d given), fun ⟨other, _⟩ => absurd rfl other⟩
      · rw [put_other _ _ same, shed_table]
        exact (and_iff_right same).symm
    refine State.ridersLinked_iff.mpr fun d => ?_
    rw [State.ridersOf_congr (s := (s.shed i e).1) (t := (s.shed i e).1.setEntry i x) rfl d, h.shed_ridersOf found granted d]
    refine ⟨(State.ridersLinked_iff.mp h d).1.filter _, fun j => ?_⟩
    rw [rides, List.mem_filter, decide_eq_true_eq, h.rides_iff, and_comm]
  · have none : s.RidesNone e := fun c state => absurd ⟨c, state⟩ granted
    rw [State.shed_of_ridesNone none i]
    refine h.unseated (h.unlisted fun c ⟨f, found', state⟩ => granted ⟨c, ?_⟩) free
    cases found.symm.trans found'
    exact state

theorem reportLevel (h : s.RidersLinked) (e : Entry) : (s.reportLevel e).RidersLinked := by
  unfold State.reportLevel
  split
  · split
    · next live => exact h.replaced (State.ridersOf_live live).symm
    · exact h
  · exact h

/-- An entry takes the last place of a live channel, or the one place of a new one. -/
theorem boarded (h : s.RidersLinked) {i : EntryIx} {c : ChannelIx} {m : LiveChannel} {e : Entry} (new : ∀ d, i ∉ s.ridersOf d)
    (others : ∀ d, d ≠ c → t.channels[d] = s.channels[d]) (live : t.channels[c].live = some m)
    (riders : m.riders = s.ridersOf c ++ [i]) (table : t.table = put s.table i (some e)) (granted : e.state = .granted c) :
    t.RidersLinked := by
  have rides (j : EntryIx) (d : ChannelIx) : t.Rides j d ↔ if j = i then d = c else s.Rides j d := by
    rw [State.Rides, table]
    by_cases same : j = i
    · rw [same, put_same, if_pos rfl]
      refine ⟨fun ⟨f, found, state⟩ => ?_, fun same => ⟨e, rfl, same ▸ granted⟩⟩
      cases found
      cases granted.symm.trans state
      rfl
    · rw [put_other _ _ same, if_neg same]
      rfl
  refine State.ridersLinked_iff.mpr fun d => ?_
  obtain ⟨once, listed⟩ := State.ridersLinked_iff.mp h d
  by_cases same : d = c
  · subst same
    rw [State.ridersOf_live live, riders]
    refine ⟨once.append (List.nodup_singleton i) fun j mem single => new d (List.mem_singleton.mp single ▸ mem), fun j => ?_⟩
    rw [rides, List.mem_append, List.mem_singleton]
    by_cases found : j = i
    · rw [if_pos found]
      exact ⟨fun _ => rfl, fun _ => .inr found⟩
    · rw [if_neg found, or_iff_left found]
      exact listed j
  · have stays : t.ridersOf d = s.ridersOf d := by
      rw [State.ridersOf, others d same]
      rfl
    rw [stays]
    refine ⟨once, fun j => ?_⟩
    rw [rides]
    by_cases found : j = i
    · rw [if_pos found]
      exact ⟨fun mem => absurd (found ▸ mem) (new d), fun other => absurd other same⟩
    · rw [if_neg found]
      exact listed j

theorem addRider (h : s.RidersLinked) {i : EntryIx} {c : ChannelIx} {l : LiveChannel} (live : s.channels[c].live = some l) (e : Entry)
    (new : ∀ d, i ∉ s.ridersOf d) : (s.addRider c i e).RidersLinked := by
  rw [State.addRider_of_live live]
  exact h.boarded (e := riding e c (markOf l) l.amount) new (fun d other => put_other _ _ other) (congrArg Channel.live (put_same ..))
    (by rw [State.ridersOf_live live]) rfl rfl

theorem grant (h : s.RidersLinked) {i : EntryIx} {c : ChannelIx} (idle : s.channels[c].live = none) (f : Figures) (e : Entry) (p : Proposal)
    (cause : StartCause) (new : ∀ d, i ∉ s.ridersOf d) : (s.grant f c i e p cause).RidersLinked :=
  h.boarded (m := f.record p i e.level cause) (e := riding e c (markOf (f.record p i e.level cause)) (f.record p i e.level cause).amount)
    new (fun d other => put_other _ _ other) (congrArg Channel.live (put_same ..))
    (by rw [State.ridersOf_idle idle, Figures.record_riders]; rfl) rfl rfl

theorem topUp_ridersOf {c : ChannelIx} {l : LiveChannel} (live : s.channels[c].live = some l) (f : Figures) (n : Nat) (d : ChannelIx) :
    (s.topUp f c l n).ridersOf d = s.ridersOf d := by
  by_cases same : d = c
  · subst same
    rw [State.ridersOf, s.topUp_channels_same, State.ridersOf_live live]
    rfl
  · rw [State.ridersOf, s.topUp_channels_other f c l n same]
    rfl

/-- A top-up raises totals and moves nobody (R89). -/
theorem topUp (h : s.RidersLinked) {c : ChannelIx} {l : LiveChannel} (live : s.channels[c].live = some l) (f : Figures) (n : Nat) :
    (s.topUp f c l n).RidersLinked := by
  refine h.of_same (topUp_ridersOf live f n) fun i d => ?_
  have table := (s.toppedAccount f n).raisings_table n (h.2 c l live).1 i
  rw [← s.topUp_table f c l n, show (s.toppedAccount f n).table = s.table from rfl] at table
  split at table
  · constructor
    · rintro ⟨g, raised, granted⟩
      rw [table] at raised
      obtain ⟨e, found, rfl⟩ := Option.map_eq_some_iff.mp raised
      exact ⟨e, found, granted⟩
    · rintro ⟨e, found, granted⟩
      exact ⟨_, table.trans (Option.map_eq_some_iff.mpr ⟨e, found, rfl⟩), granted⟩
  · rw [State.Rides, table]
    rfl

/-- Channels of the same riders keep them linked. -/
theorem reformed (h : s.RidersLinked) (table : t.table = s.table)
    (riders : ∀ c : ChannelIx, (t.channels[c].live).map (·.riders) = (s.channels[c].live).map (·.riders)) : t.RidersLinked :=
  h.of_same (fun c => congrArg (fun x => Option.getD x []) (riders c)) (State.rides_congr table)

/-! ### Commands and events -/

theorem startExtension (h : s.RidersLinked) (c : ChannelIx) : (s.startExtension c).RidersLinked := by
  unfold State.startExtension
  split
  · next live =>
    split
    · split
      · exact h.replaced (State.ridersOf_live live).symm
      · exact h
    · exact h
  · exact h

theorem tick (h : s.RidersLinked) (pg : BitVec 6) (chk : BitVec 4) (ovr : Bool) : (s.tick pg chk ovr).RidersLinked := by
  refine h.reformed rfl fun c => ?_
  have ticked : (s.tick pg chk ovr).channels[c] = tickChannel s.channels[c] := tabulate_get _ c
  rw [ticked]
  unfold tickChannel
  split
  · next live =>
    split
    · exact (congrArg (Option.map LiveChannel.riders) live).symm
    · rfl
  · rfl

theorem activate (h : s.RidersLinked) : s.activate.RidersLinked := by
  have settled := h.settleCounts fun _ => true
  unfold State.activate
  simp only []
  generalize s.settleCounts _ = u at settled ⊢
  refine settled.reformed rfl fun c => ?_
  have replaced : (tabulate (n := 4) fun c => suspended u.channels[c])[c] = suspended u.channels[c] := tabulate_get _ c
  refine (congrArg (fun x : Channel => x.live.map (·.riders)) replaced).trans ?_
  unfold suspended
  split
  · next live =>
    split
    · exact (congrArg (Option.map LiveChannel.riders) live).symm
    · exact (congrArg (Option.map LiveChannel.riders) live).symm
    · rfl
  · rfl

theorem formOverride (h : s.RidersLinked) : s.formOverride.RidersLinked := by
  unfold State.formOverride
  split
  · split
    · exact h.activate
    · exact h
  · split
    · exact h
    · exact h.congr rfl rfl
  · split
    · exact h.activate
    · exact h

theorem visitChannel (h : s.RidersLinked) (c : ChannelIx) : (s.visitChannel c).RidersLinked := by
  unfold State.visitChannel State.resumeExtend State.resumeAdvance
  split
  · next live =>
    split
    · split
      · exact h.replaced (State.ridersOf_live live).symm
      · exact h.endChannel ..
    · split
      · exact h.endChannel ..
      · exact h.replaced (State.ridersOf_live live).symm
    · exact h
  · exact h

theorem dropOfSlot (h : s.RidersLinked) (k : SlotIx) : (s.dropOfSlot k).RidersLinked := by
  have ended := (h.settleCounts fun l => decide (l.slot = k)).endWhere (fun _ l => isExtend l && decide (l.slot = k))
    fun _ => .greenEnded
  unfold State.dropOfSlot
  simp only []
  generalize State.endWhere _ _ _ = u at ended ⊢
  refine ended.reformed rfl fun c => ?_
  rw [tabulate_get]
  split
  · next live =>
    split
    · exact (congrArg (Option.map LiveChannel.riders) live).symm
    · rfl
  · rfl

theorem closeEntry (h : s.RidersLinked) {i : EntryIx} {e : Entry} (found : s.table[i] = some e) (r : CloseReason) :
    (s.closeEntry i e r).RidersLinked :=
  (h.shed found (x := none) fun _ _ none => nomatch none).congr (s.closeEntry_channels i e r) (s.closeEntry_table i e r)

theorem updateEntry (h : s.RidersLinked) {i : EntryIx} {e : Entry} (found : s.table[i] = some e) (r : Report) (level : Nat)
    (w : Time × Time) : (s.updateEntry i e r level w).RidersLinked := by
  by_cases stays : r.approach = e.approach
  · rw [State.updateEntry_of_staying stays]
    refine State.RidersLinked.cause (State.RidersLinked.reportLevel ?_ _)
    by_cases demoted : e.state = .pending ∧ level = 0
    · rw [beforeFrame_of_demoted demoted.1 demoted.2]
      refine h.unseated (h.unlisted fun c ⟨f, found', granted⟩ => ?_) fun f c same granted => ?_
      · cases found.symm.trans found'
        exact nomatch demoted.1.symm.trans granted
      · cases same
        exact nomatch granted
    · have kept : e.state ≠ .pending ∨ 1 ≤ level :=
        (not_and_or.mp demoted).imp_right Nat.one_le_iff_ne_zero.mpr
      rw [beforeFrame_of_kept kept]
      exact h.rewritten found rfl
  · rw [State.updateEntry_of_moving stays]
    refine State.RidersLinked.cause (State.RidersLinked.causeIf (h.shed found fun f c same granted => ?_) _)
    cases same
    exact nomatch granted

end State.RidersLinked
end Sys2Proof.Machine
end

section
namespace Sys2Proof.Machine

/-! ## Charge lists and the slots they may name -/

theorem mem_mergePairs {held more : List (SlotIx × Nat)} {k : SlotIx} (h : k ∈ (mergePairs held more).map (·.1)) :
    k ∈ held.map (·.1) ∨ k ∈ more.map (·.1) := by
  have one (held : List (SlotIx × Nat)) (q : SlotIx × Nat) (h : k ∈ (mergePair held q).map (·.1)) :
      k ∈ held.map (·.1) ∨ k = q.1 := by
    induction held with
    | nil => exact .inr (List.mem_singleton.mp h)
    | cons p rest ih =>
      rw [mergePair] at h
      split at h
      · exact .inl h
      · rcases List.mem_cons.mp h with same | later
        · exact .inl (same ▸ List.mem_cons_self)
        · exact (ih later).imp_left (List.mem_cons_of_mem _)
  induction more generalizing held with
  | nil => exact .inl h
  | cons q more ih =>
    rcases ih h with merged | later
    · rcases one held q merged with before | same
      · exact .inl before
      · exact .inr (List.mem_cons.mpr (.inl same))
    · exact .inr (List.mem_cons_of_mem _ later)

namespace Figures

variable {f : Figures} {ks : List SlotIx} {n : Nat} {k : SlotIx}

/-- An allocation names no slot that a live channel targets (R72, R76). -/
theorem allocation_spares (h : k ∈ (f.allocation ks n).map (·.1)) {c : ChannelIx} {l : LiveChannel}
    (live : f.channels[c].live = some l) : l.slot ≠ k := by
  obtain ⟨q, mem, rfl⟩ := List.mem_map.mp h
  intro same
  have nothing := Figures.slack_of_protected ((f.isProtected_iff q.1).mpr ⟨c, l, live, same⟩)
  obtain ⟨gives, within⟩ := Figures.mem_allocation mem
  omega

/-- An extension charges later slots alone (R74, R76). -/
theorem allocation_later (h : k ∈ (f.allocation f.extensionSlots n).map (·.1)) : f.step.cur < k :=
  ((f.mem_extensionSlots k).mp ((f.allocation_sublist f.extensionSlots n).subset h)).2.1

/-- What the proposal of an extension finds (R85, R96). -/
theorem Proposes.extend (h : f.Proposes (.extend n)) : f.step.period = .green ∧
    (∀ (c : ChannelIx) l, f.channels[c].live = some l → isExtend l = true → l.slot ≠ f.step.cur) ∧
    ∀ (c : ChannelIx) l, f.channels[c].live = some l → isExtend l = false → f.step.cur ∉ l.charges.map (·.1) := by
  rcases h with ⟨⟨aE, aL⟩, j, judged⟩ | ⟨j, act, d, forced⟩
  · obtain ⟨rfl, green, alone, _, _, _, free, _, _⟩ := (judgeCase_eq_extend_iff n).mp judged
    exact ⟨green, fun c l live extends_ same => alone ⟨c, l, live, extends_, same⟩,
      fun c l live advance named => free ⟨c, l, live, advance, named⟩⟩
  · obtain ⟨same, _, slots, opens⟩ := (f.forcedProposal_eq_some_iff j act d _).mp forced
    cases act with
    | extend =>
      obtain ⟨rfl, green, free⟩ := opens
      refine ⟨green, fun c l live _ => slots c l live, fun c l live advance => ?_⟩
      obtain ⟨dl, action⟩ := (isExtend_eq_false_iff l).mp advance
      exact free c l dl live action
    | advance => exact nomatch same

/-- What the proposal of an advance finds (R86, R96). -/
theorem Proposes.advance (h : f.Proposes (.advance k n)) : k ≠ f.step.cur ∧
    (∀ (c : ChannelIx) l, f.channels[c].live = some l → isExtend l = false → l.slot ≠ k) ∧
    ∀ (c : ChannelIx) l, f.channels[c].live = some l → k ∉ l.charges.map (·.1) := by
  rcases h with ⟨⟨aE, aL⟩, j, judged⟩ | ⟨j, act, d, forced⟩
  · obtain ⟨rfl, ahead, alone, free, _⟩ := (judgeCase_eq_advance_iff k n).mp judged
    exact ⟨ahead.ne, fun c l live advance same => alone ⟨c, l, live, advance, same⟩,
      fun c l live named => free ⟨c, l, live, named⟩⟩
  · obtain ⟨same, _, slots, opens⟩ := (f.forcedProposal_eq_some_iff j act d _).mp forced
    cases act with
    | extend => exact nomatch same
    | advance =>
      cases same
      exact ⟨IsAhead.ne opens.1, fun c l live _ => slots c l live, opens.2⟩

end Figures

/-! ## Channels, table and tracker linked -/

/-- A channel follows the tracker: an extension is of the current green and charges later slots, an advance is of another
slot (R104). -/
def State.Follows (s : State) (m : LiveChannel) : Prop :=
  (isExtend m = true → (∃ r, s.tracker = .inStep r ∧ r.cur = m.slot ∧ r.period = .green) ∧ ∀ q ∈ m.charges, m.slot < q.1) ∧
  (isExtend m = false → ∀ r, s.tracker = .inStep r → m.slot ≠ r.cur)

/-- A channel record has its place beside the other channels. -/
structure State.Admits (s : State) (c : ChannelIx) (m : LiveChannel) : Prop where
  inStep : ∃ r, s.tracker = .inStep r
  follows : s.Follows m
  apart : ∀ (d : ChannelIx) (l : LiveChannel), d ≠ c → s.channels[d].live = some l →
    m.slot ≠ l.slot ∧ l.slot ∉ m.charges.map (·.1) ∧ m.slot ∉ l.charges.map (·.1)

theorem State.recognised_congr {s t : State} (h : t.inputs.map (·.recognised) = s.inputs.map (·.recognised)) (k : Fin 6) :
    t.inputs[k].recognised = s.inputs[k].recognised := by
  simpa using congrArg (fun v : Vector Bool 6 => v[k]) h

theorem State.TargetsApart.thins {s t : State} (h : s.TargetsApart) (g : s.Thins t) : t.TargetsApart := by
  intro c d m m' other live live'
  obtain ⟨l, was, goesOn⟩ := g c m live
  obtain ⟨l', was', goesOn'⟩ := g d m' live'
  rw [goesOn.slot, goesOn'.slot, goesOn.charges]
  exact h c d l l' other was was'

theorem LiveChannel.GoesOn.follows {l m : LiveChannel} (g : l.GoesOn m) {s t : State} (tracker : t.tracker = s.tracker)
    (h : s.Follows l) : t.Follows m := by
  unfold State.Follows
  rw [tracker, g.slot, g.extends_, g.charges]
  exact h

namespace State.Linked

variable {s t u : State}

/-- Where no live channel comes up and the tracker stands, the riders alone are to be linked. -/
theorem of_thins (h : s.Linked) (thins : s.Thins t) (tracker : t.tracker = s.tracker) (active : t.plans.active = s.plans.active)
    (recognised : t.inputs.map (·.recognised) = s.inputs.map (·.recognised)) (riders : t.RidersLinked) : t.Linked := by
  obtain ⟨_, apart, follow, green, idle⟩ := h
  refine ⟨riders, State.TargetsApart.thins apart thins, fun c m live => ?_, fun r p inStep => ?_, fun outside c => ?_⟩
  · obtain ⟨l, was, goesOn⟩ := thins c m live
    exact goesOn.follows tracker (follow c l was)
  · rw [State.recognised_congr recognised, active]
    exact green r p (tracker ▸ inStep)
  · exact thins.idle (idle (tracker ▸ outside) c)

theorem steady (g : s.Steady t) (riders : t.RidersLinked) (h : s.Linked) : t.Linked :=
  h.of_thins g.thins g.tracker g.active g.recognised riders

theorem congr (h : s.Linked) (channels : t.channels = s.channels) (table : t.table = s.table) (tracker : t.tracker = s.tracker)
    (active : t.plans.active = s.plans.active) (recognised : t.inputs.map (·.recognised) = s.inputs.map (·.recognised)) :
    t.Linked :=
  h.of_thins (.of_channels channels) tracker active recognised (State.RidersLinked.congr h.1 channels table)

theorem of_core (h : s.Linked) (same : t.core = s.core) : t.Linked :=
  h.congr (congrArg Core.channels same) (congrArg Core.table same) (congrArg Core.tracker same)
    (congrArg (fun c : Core => c.plans.active) same) (congrArg Core.recognised same)

theorem cause (h : s.Linked) : s.cause.Linked := h.steady (.cause s) (State.RidersLinked.cause h.1)

theorem trigger (h : s.Linked) (r : ContainReason) : (s.trigger r).Linked :=
  State.trigger_keeps (P := State.Linked) (fun {u} c r hu => hu.steady (.endChannel u c r) (State.RidersLinked.endChannel hu.1 c r))
    (fun {u} _ hu => of_core (s := u) hu rfl) r h (h.congr rfl rfl rfl rfl rfl)

theorem endures : Endures State.Linked where
  same := fun same h => h.of_core same
  noted := fun _ h => h.congr rfl rfl rfl rfl rfl
  recorded := fun _ _ _ _ h => h.congr rfl rfl rfl rfl rfl
  trigger := fun r h => h.trigger r
  ended := fun {u} c r h => h.steady (.endChannel u c r) (State.RidersLinked.endChannel h.1 c r)
  counted := fun live _ h => h.steady (.counted live) (State.RidersLinked.counted h.1 live)

/-! ### Turns and forced grants -/

/-- A record that has its place is written to its channel. -/
theorem admitted (h : s.Linked) {c : ChannelIx} {m : LiveChannel} (admits : s.Admits c m)
    (others : ∀ d, d ≠ c → t.channels[d] = s.channels[d]) (written : t.channels[c].live = some m) (tracker : t.tracker = s.tracker)
    (active : t.plans.active = s.plans.active) (inputs : t.inputs = s.inputs) (riders : t.RidersLinked) : t.Linked := by
  obtain ⟨_, apart, follow, green, _⟩ := h
  obtain ⟨⟨r, inStep⟩, follows, beside⟩ := admits
  refine ⟨riders, fun a b l l' other live live' => ?_, fun d l live => ?_, ?_, fun outside => absurd (tracker.trans inStep) (outside r)⟩
  · by_cases first : a = c
    · subst first
      rw [others b (Ne.symm other)] at live'
      cases written.symm.trans live
      exact ⟨(beside b l' (Ne.symm other) live').1, (beside b l' (Ne.symm other) live').2.1⟩
    · rw [others a first] at live
      by_cases second : b = c
      · subst second
        cases written.symm.trans live'
        exact ⟨(beside a l first live).1.symm, (beside a l first live).2.2⟩
      · rw [others b second] at live'
        exact apart a b l l' other live live'
  · by_cases same : d = c
    · subst same
      cases written.symm.trans live
      rw [tracker]
      exact follows
    · rw [others d same] at live
      rw [tracker]
      exact follow d l live
  · unfold State.GreenRecognised
    rw [tracker, active, inputs]
    exact green

theorem admits_of_proposes (h : s.Linked) {f : Figures} (figures : s.figures = some f) {p : Proposal} (proposes : f.Proposes p)
    (c : ChannelIx) (i : EntryIx) (level : Nat) (cause : StartCause) : s.Admits c (f.record p i level cause) := by
  obtain ⟨_, _, _, step⟩ := State.figures_eq figures
  have channels := (State.figures_reads figures).2
  obtain ⟨_, _, follow, _, _⟩ := h
  have extended {d : ChannelIx} {l : LiveChannel} (live : s.channels[d].live = some l) (extends_ : isExtend l = true) :
      l.slot = f.step.cur := by
    obtain ⟨⟨r, inStep, cur, _⟩, _⟩ := (follow d l live).1 extends_
    cases step.symm.trans inStep
    exact cur.symm
  have advanced {d : ChannelIx} {l : LiveChannel} (live : s.channels[d].live = some l) (advance : isExtend l = false) :
      l.slot ≠ f.step.cur := (follow d l live).2 advance f.step step
  refine ⟨⟨_, step⟩, ?_, fun d l _ live => ?_⟩
  · cases p with
    | extend n =>
      obtain ⟨green, _⟩ := proposes.extend
      exact ⟨fun _ => ⟨⟨_, step, rfl, green⟩, fun q mem => Figures.allocation_later (List.mem_map_of_mem mem)⟩, nofun⟩
    | advance j n =>
      refine ⟨nofun, fun _ r inStep => ?_⟩
      cases step.symm.trans inStep
      exact proposes.advance.1
  · cases p with
    | extend n =>
      obtain ⟨_, alone, free⟩ := proposes.extend
      rw [channels] at alone free
      have advance : isExtend l = false := Bool.not_eq_true _ ▸ fun extends_ => alone d l live extends_ (extended live extends_)
      exact ⟨(advanced live advance).symm, fun named => Figures.allocation_spares named (channels ▸ live) rfl, free d l live advance⟩
    | advance j n =>
      obtain ⟨elsewhere, alone, free⟩ := proposes.advance
      rw [channels] at alone free
      refine ⟨fun same => ?_, fun named => Figures.allocation_spares named (channels ▸ live) rfl, free d l live⟩
      cases extends_ : isExtend l with
      | true => exact elsewhere (same.trans (extended live extends_))
      | false => exact alone d l live extends_ same.symm

theorem admits_of_topUp (h : s.Linked) {f : Figures} (figures : s.figures = some f) {c : ChannelIx} {l : LiveChannel}
    (live : s.channels[c].live = some l) (extends_ : isExtend l = true) (n level : Nat) :
    s.Admits c { f.topped l n with level } := by
  obtain ⟨_, _, _, step⟩ := State.figures_eq figures
  have channels := (State.figures_reads figures).2
  obtain ⟨_, apart, follow, _, _⟩ := h
  obtain ⟨⟨r, inStep, cur, green⟩, later⟩ := (follow c l live).1 extends_
  cases step.symm.trans inStep
  obtain ⟨rem, rf, action⟩ : ∃ rem rf, l.action = .extend rem rf := by
    unfold isExtend at extends_
    cases action : l.action with
    | extend rem rf => exact ⟨rem, rf, rfl⟩
    | advance dl =>
      rw [action] at extends_
      exact nomatch extends_
  rw [Figures.topped_eq action]
  refine ⟨⟨_, step⟩, ⟨fun _ => ⟨⟨_, step, cur, green⟩, fun q mem => ?_⟩, nofun⟩, fun d m other live' => ⟨?_, fun named => ?_, ?_⟩⟩
  · rcases mem_mergePairs (List.mem_map_of_mem mem) with held | more
    · obtain ⟨q', mem, same⟩ := List.mem_map.mp held
      exact same ▸ later q' mem
    · exact cur ▸ Figures.allocation_later more
  · exact (apart c d l m (Ne.symm other) live live').1
  · rcases mem_mergePairs named with held | more
    · exact (apart c d l m (Ne.symm other) live live').2 held
    · exact Figures.allocation_spares more (channels ▸ live') rfl
  · exact (apart d c m l other live' live).2

theorem turnKept : TurnKept State.Linked fun u i _ => ∀ c, i ∉ u.ridersOf c where
  engine := fun _ h => h.congr rfl rfl rfl rfl rfl
  ended := fun c r h => endures.ended c r h
  denied := fun {u i e} d w new h => h.steady (.setEntry u i _) (State.RidersLinked.unseated h.1 new fun f c same granted => by
    cases same
    cases temporary : d.isTemporary <;> rw [temporary] at granted <;> exact nomatch granted)
  annotated := fun {u i e} d found h => h.steady (.setEntry u i _) (State.RidersLinked.rewritten h.1 found rfl)
  granted := fun {u f i e c p} cause figures idle proposes new h =>
    h.admitted (h.admits_of_proposes figures proposes c i e.level cause) (fun d other => put_other _ _ other)
      (congrArg Channel.live (put_same ..)) rfl rfl rfl (State.RidersLinked.grant h.1 idle f e p cause new)
  toppedUp := fun {u f c l n} figures live extends_ _ h => by
    have riders := State.RidersLinked.topUp h.1 live f n
    have frame := u.topUp_frame f c l n (State.figures_reads figures).1
    have others := fun d other => u.topUp_channels_other f c l n (b := d) other
    have written := congrArg Channel.live (u.topUp_channels_same f c l n)
    generalize u.topUp f c l n = t at *
    exact h.admitted (h.admits_of_topUp figures live extends_ n _) others written (by rw [frame]) (by rw [frame]) (by rw [frame]) riders
  joined := fun {u i e c l} live room new h => by
    have riders := State.RidersLinked.addRider h.1 live e new
    rw [State.addRider_of_live live] at riders ⊢
    refine h.of_thins (.of_put (c := c) rfl fun m same => ?_) rfl rfl rfl riders
    cases same
    refine ⟨l, live, rfl, rfl, rfl, fun _ _ => ?_⟩
    rw [List.length_append]
    exact ⟨Nat.succ_pos _, room⟩
  endedNew := fun {u i e} c r new d listed => by
    by_cases same : d = c
    · subst same
      rw [State.ridersOf_idle (u.endChannel_idle d r)] at listed
      exact nomatch listed
    · rw [State.ridersOf, State.endChannel_channels_other _ _ _ same] at listed
      exact new d listed
  toppedUpNew := fun {u f i e c l n} live new d listed => new d (State.RidersLinked.topUp_ridersOf live f n d ▸ listed)

/-- An entry that is not GRANTED is on no rider list. -/
theorem unlisted (h : s.Linked) {i : EntryIx} {e : Entry} (found : s.table[i] = some e) (free : isGranted e = false) (c : ChannelIx) :
    i ∉ s.ridersOf c := by
  refine State.RidersLinked.unlisted h.1 (fun c ⟨f, found', granted⟩ => ?_) c
  cases found.symm.trans found'
  exact Bool.false_ne_true (free.symm.trans ((isGranted_iff e).mpr ⟨c, granted⟩))

theorem takeTurn (h : s.Linked) : s.takeTurn.Linked := turnKept.takeTurn (fun _ _ _ found free => h.unlisted found free) h

theorem judgeForce (h : s.Linked) (b a : Byte) (n : Half) : (s.judgeForce b a n).1.Linked :=
  turnKept.judgeForce b a n (fun _ _ found free => h.unlisted found free) h

end State.Linked
end Sys2Proof.Machine
end

section
namespace Sys2Proof.Machine

namespace State.Linked

variable {s t u : State} {ph : Phase}

/-! ### Onsets -/

/-- No live channel is an extension. -/
def NoExtension (s : State) : Prop := ∀ (c : ChannelIx) (l : LiveChannel), s.channels[c].live = some l → isExtend l = false

theorem recognised_of_phase {q : Phase} (same : q = ph) {b : Bool} (h : s.inputs[phaseIndex ph].recognised = b) :
    s.inputs[phaseIndex q].recognised = b := same ▸ h

/-- The tracker steps to the green of a slot, whose advances end (R52, R110). -/
theorem steppedTo (h : s.Linked) (alone : NoExtension s) {p : Plan} (active : s.plans.active = some p) {r : StepRecord}
    (phase : (slotAt p r.cur).phase = ph) (shows : s.inputs[phaseIndex ph].recognised = true) {v : State}
    (channels : v.channels = s.channels) (table : v.table = s.table) (plan : v.plans.active = s.plans.active)
    (inputs : v.inputs = s.inputs) (inStep : v.tracker = .inStep r) : (v.cause.onsetOfSlot r.cur).Linked := by
  have riders := State.RidersLinked.endWhere (State.RidersLinked.cause (State.RidersLinked.congr h.1 channels table))
    (fun _ l => !isExtend l && decide (l.slot = r.cur)) fun _ => .complete
  have steady := (State.Steady.cause v).trans
    (.endWhere _ (fun _ l => !isExtend l && decide (l.slot = r.cur)) fun _ => .complete)
  have ended {c : ChannelIx} {m : LiveChannel} (live : (v.cause.onsetOfSlot r.cur).channels[c].live = some m) :=
    (State.endWhere_live live).2
  unfold State.onsetOfSlot at ended ⊢
  generalize State.endWhere _ _ _ = t at *
  obtain ⟨_, apart, _, _, _⟩ := h
  have thins : s.Thins t := (State.Thins.of_channels channels).trans steady.thins
  have inStep : t.tracker = .inStep r := steady.tracker.trans inStep
  refine ⟨riders, State.TargetsApart.thins apart thins, fun c m live => ?_, fun r' p' inStep' _ active' => ?_,
    fun outside => absurd inStep (outside r)⟩
  · obtain ⟨l, was, goesOn⟩ := thins c m live
    have advance : isExtend m = false := goesOn.extends_.trans (alone c l was)
    refine ⟨fun extends_ => (nomatch advance.symm.trans extends_), fun _ r' inStep' same => ?_⟩
    cases inStep.symm.trans inStep'
    have unmet := ended live
    rw [advance, same] at unmet
    simp at unmet
  · cases inStep.symm.trans inStep'
    cases (steady.active.trans (plan.trans active)).symm.trans active'
    exact recognised_of_phase phase ((State.recognised_congr steady.recognised _).trans (inputs ▸ shows))

theorem observeBoundary (h : s.Linked) : s.observeBoundary.Linked := by
  unfold State.observeBoundary
  split
  · exact h.congr rfl rfl rfl rfl rfl
  · exact h

theorem boundary (h : s.Linked) (alone : NoExtension s) {p : Plan} (active : s.plans.active = some p)
    (phase : (slotAt p 0).phase = ph) (shows : s.inputs[phaseIndex ph].recognised = true) (x : Time) (last : Option Time) :
    (s.boundary p x last).Linked := by
  have stepped := h.steppedTo alone active (r := { cur := 0, period := .green, onset := x, lastBoundary := x }) phase shows
    (v := s.cycled x) rfl rfl rfl rfl rfl
  have cycle : (s.newCycle x).Linked := stepped.observeBoundary
  rw [State.boundary_eq]
  split
  · split
    · exact endures.occur _ _ _ cycle
    · exact cycle
  · exact cycle

theorem moveTo (h : s.Linked) (alone : NoExtension s) {p : Plan} (active : s.plans.active = some p) (r : StepRecord) {k : SlotIx}
    (phase : (slotAt p k).phase = ph) (shows : s.inputs[phaseIndex ph].recognised = true) (x : Time) : (s.moveTo r k x).Linked := by
  rw [State.moveTo_eq]
  exact h.steppedTo alone active (r := { r with cur := k, period := .green, onset := x }) phase shows rfl rfl rfl rfl rfl

/-- With every channel IDLE the riders, and the input of a green, alone are to be linked. -/
theorem of_idle (idle : ∀ c : ChannelIx, t.channels[c].live = none) (riders : t.RidersLinked) (green : t.GreenRecognised) :
    t.Linked := by
  have nothing {P : Prop} {c : ChannelIx} {l : LiveChannel} (live : t.channels[c].live = some l) : P :=
    nomatch (idle c).symm.trans live
  exact ⟨riders, fun _ _ _ _ _ live _ => nothing live, fun _ _ live => nothing live, green, fun _ => idle⟩

/-- Where every channel ends and the tracker is not in a green, the riders alone are to be linked. -/
theorem endAll {v : State} (riders : v.RidersLinked) (green : v.GreenRecognised) (reason : ChannelIx → EndReason) :
    (v.endWhere (fun _ _ => true) reason).Linked := by
  have steady := State.Steady.endWhere v (fun _ _ => true) reason
  refine of_idle (v.endAll_idle reason) (State.RidersLinked.endWhere riders _ _) fun r p inStep shows active => ?_
  rw [steady.tracker] at inStep
  rw [steady.active] at active
  exact (State.recognised_congr steady.recognised _).trans (green r p inStep shows active)

theorem leaveInStep (h : s.Linked) (k : FaultKind) : (s.leaveInStep k).Linked := by
  have settled := State.RidersLinked.settleCounts h.1 fun _ => true
  unfold State.leaveInStep
  simp only []
  generalize s.settleCounts _ = u at settled ⊢
  generalize left : State.stopPass { u with tracker := .unsynced, freeIndex := u.freeIndex + 4 } = v
  have riders : v.RidersLinked := left ▸ State.RidersLinked.congr settled rfl rfl
  exact endures.occur _ _ _ (endAll riders (fun r p inStep => by cases left; exact nomatch inStep) _)

/-- Adoption ends every channel and begins the new plan's first green (R56). -/
theorem adopt (h : s.Linked) {p : Plan} (phase : (slotAt p 0).phase = ph) (shows : s.inputs[phaseIndex ph].recognised = true)
    (x : Time) : (s.adopt p x).Linked := by
  have settled := State.RidersLinked.settleCounts h.1 fun _ => true
  have recognised := (State.Steady.settleCounts s fun _ => true).recognised
  unfold State.adopt State.endAll
  simp only []
  generalize s.settleCounts _ = u at settled recognised ⊢
  generalize begins : ({ u with plans := { active := some p, staged := none }, tracker := .inStep {
    cur := 0, period := .green, onset := x, lastBoundary := x } } : State) = v
  have riders : v.RidersLinked := begins ▸ State.RidersLinked.congr settled rfl rfl
  have linked : (v.endWhere (fun _ _ => true) fun _ => .planChange).Linked := by
    refine endAll riders (fun r' p' inStep _ active => ?_) _
    cases begins
    cases inStep
    cases active
    exact recognised_of_phase phase ((State.recognised_congr recognised _).trans shows)
  generalize v.endWhere _ _ = w at linked ⊢
  have opened : State.Linked { w with account := accountAdoption w.account w.policy } := linked.congr rfl rfl rfl rfl rfl
  exact endures.same rfl opened.cause.observeBoundary

theorem phase_of_coordinated {p : Plan} (h : coordinatedPhase p = some ph) : (slotAt p 0).phase = ph := by
  unfold coordinatedPhase at h
  unfold slotAt
  cases slots : p.slots with
  | nil =>
    rw [slots] at h
    exact nomatch h
  | cons slot rest =>
    rw [slots] at h
    exact Option.some.inj h

theorem phase_of_staged {p : Plan} (h : s.stagedFor ph = some p) : (slotAt p 0).phase = ph := by
  unfold State.stagedFor at h
  split at h
  · split at h
    · next coordinated =>
      cases h
      exact phase_of_coordinated coordinated
    · exact nomatch h
  · exact nomatch h

theorem phase_of_slot {p : Plan} {k : SlotIx} (h : slotOf p ph = some k) : (slotAt p k).phase = ph :=
  of_decide_eq_true (List.find?_some (p := fun k => decide ((slotAt p k).phase = ph)) h)

theorem onsetFollow (h : s.Linked) (alone : NoExtension s) {p : Plan} (active : s.plans.active = some p) (r : StepRecord)
    (shows : s.inputs[phaseIndex ph].recognised = true) (x : Time) : (s.onsetFollow r p ph x).Linked := by
  unfold State.onsetFollow
  split
  · exact h.leaveInStep _
  · next k slot =>
    split
    · next first => exact h.boundary alone active (first ▸ phase_of_slot slot) shows x _
    · split
      · exact h.moveTo alone active r (phase_of_slot slot) shows x
      · exact h.leaveInStep _

/-- An onset of a phase, judged where its input shows and, unless it is a conflict, no extension is live. -/
theorem judgeOnset (h : s.Linked) (shows : s.inputs[phaseIndex ph].recognised = true)
    (alone : ¬ s.otherActive ph = true → (∀ r, s.tracker = .inStep r → s.plans.active ≠ none) → NoExtension s) (x : Time) :
    (s.judgeOnset ph x).Linked := by
  unfold State.judgeOnset
  split
  · unfold State.conflict
    split
    · exact h.leaveInStep _
    · exact endures.occur _ _ _ h
  · next peaceful =>
    split
    · unfold State.onsetNoPlan
      split
      · next staged => exact h.adopt (phase_of_staged staged) shows x
      · exact endures.occur _ _ _ h
    · next outside =>
      unfold State.onsetUnsynced
      split
      · next staged => exact h.adopt (phase_of_staged staged) shows x
      · split
        · next active =>
          split
          · next coordinated =>
            exact h.boundary (alone peaceful fun _ inStep => nomatch outside.symm.trans inStep) active
              (phase_of_coordinated coordinated) shows x _
          · exact h
        · exact h
    · next inStep =>
      unfold State.onsetInStep
      split
      · exact h
      · next active =>
        have alone := alone peaceful fun _ _ none => nomatch none.symm.trans active
        split
        · next staged =>
          split
          · exact h.adopt (phase_of_staged staged) shows x
          · exact h.onsetFollow alone active _ shows x
        · exact h.onsetFollow alone active _ shows x

/-- Without an ACTIVE input no extension is live: its green is recognised (R48, R104). -/
theorem noExtension (h : s.Linked) (dark : ∀ q, s.inputs[phaseIndex q].recognised = false)
    (plan : ∀ r, s.tracker = .inStep r → s.plans.active ≠ none) : NoExtension s := by
  obtain ⟨_, _, follow, green, _⟩ := h
  intro c l live
  refine Bool.not_eq_true _ ▸ fun extends_ => ?_
  obtain ⟨⟨r, inStep, _, shows⟩, _⟩ := (follow c l live).1 extends_
  obtain ⟨p, active⟩ := Option.ne_none_iff_exists'.mp (plan r inStep)
  exact nomatch (dark _).symm.trans (green r p inStep shows active)

/-- An input recognised ACTIVE leaves every promise standing. -/
theorem recognisedOn (h : s.Linked) (ph : Phase) : (s.recognise ph true).Linked := by
  obtain ⟨riders, apart, follow, green, idle⟩ := h
  refine ⟨State.RidersLinked.congr riders rfl rfl, apart, follow, fun r p inStep shows active => ?_, idle⟩
  by_cases same : (slotAt p r.cur).phase = ph
  · exact recognised_of_phase same (by rw [State.recognise_inputs_same])
  · rw [State.recognise_inputs_other same]
    exact green r p inStep shows active

theorem onset (h : s.Linked) (ph : Phase) : (s.takeChange ph true fun s t => s.judgeOnset ph t).Linked := by
  by_cases same : s.inputs[phaseIndex ph].recognised = true
  · rwa [State.takeChange_of_same same]
  · cases due : s.inputs[phaseIndex ph].changeAt with
    | none => rwa [State.takeChange_of_none due]
    | some x =>
      rw [State.takeChange_of_due due same]
      refine (h.recognisedOn ph).judgeOnset (by rw [State.recognise_inputs_same]) (fun peaceful plan => ?_) x
      refine h.noExtension (fun q => ?_) plan
      by_cases own : q = ph
      · exact own ▸ Bool.not_eq_true _ ▸ same
      · exact Bool.not_eq_true _ ▸ fun active => peaceful (State.otherActive_recognise.mpr ⟨q, own, active⟩)

/-! ### Drops -/

theorem started_live {x : Channel} {m : LiveChannel} (h : (started x).live = some m) :
    ∃ l, x.live = some l ∧ m.slot = l.slot ∧ isExtend m = isExtend l := by
  unfold started at h
  split at h
  · next l live =>
    split at h
    · cases h
      exact ⟨l, live, rfl, rfl⟩
    · exact ⟨m, h, rfl, rfl⟩
  · exact ⟨m, h, rfl, rfl⟩

/-- A slot's drop leaves no extension of it (R108). -/
theorem dropOfSlot_spares {k : SlotIx} {c : ChannelIx} {m : LiveChannel} (live : (s.dropOfSlot k).channels[c].live = some m)
    (slot : m.slot = k) : isExtend m = false := by
  rw [State.dropOfSlot_channels] at live
  obtain ⟨l, stands, sameSlot, sameKind⟩ := started_live live
  unfold State.greenEnded at stands
  rw [← State.endWhere_eq_endingThose] at stands
  have unmet := (State.endWhere_live stands).2
  rw [sameKind]
  exact Bool.not_eq_true _ ▸ fun extends_ =>
    Bool.false_ne_true (unmet.symm.trans ((extendsOn_iff k l).mpr ⟨extends_, sameSlot.symm.trans slot⟩))

/-- The drop of the current green ends its extension, so that its clearance finds none (R51, R108). -/
theorem clearing (h : s.Linked) {r r' : StepRecord} (inStep : s.tracker = .inStep r) (cur : r'.cur = r.cur)
    (passed : r'.period ≠ .green) {v : State} (channels : v.channels = s.channels) (table : v.table = s.table)
    (steps : v.tracker = .inStep r') : (v.cause.dropOfSlot r.cur).Linked := by
  have riders := State.RidersLinked.dropOfSlot (State.RidersLinked.cause (State.RidersLinked.congr h.1 channels table)) r.cur
  have steady := (State.Steady.cause v).trans (.dropOfSlot _ r.cur)
  have spares {c : ChannelIx} {m : LiveChannel} := dropOfSlot_spares (s := v.cause) (k := r.cur) (c := c) (m := m)
  generalize State.dropOfSlot _ _ = t at *
  obtain ⟨_, apart, follow, _, _⟩ := h
  have thins : s.Thins t := (State.Thins.of_channels channels).trans steady.thins
  have stepped : t.tracker = .inStep r' := steady.tracker.trans steps
  refine ⟨riders, State.TargetsApart.thins apart thins, fun c m live => ?_, fun x p stands shows => ?_,
    fun outside => absurd stepped (outside _)⟩
  · obtain ⟨l, was, goesOn⟩ := thins c m live
    refine ⟨fun extends_ => ?_, fun advance x stands => ?_⟩
    · obtain ⟨⟨x, stands, current, _⟩, _⟩ := (follow c l was).1 (goesOn.extends_ ▸ extends_)
      cases inStep.symm.trans stands
      exact nomatch (spares live (goesOn.slot.trans current.symm)).symm.trans extends_
    · cases stepped.symm.trans stands
      rw [goesOn.slot, cur]
      exact (follow c l was).2 (goesOn.extends_ ▸ advance) r inStep
  · cases stepped.symm.trans stands
    exact absurd shows passed

theorem dropped (h : s.Linked) (ph : Phase) : (s.takeChange ph false fun s t => s.judgeDrop ph t).Linked := by
  by_cases same : s.inputs[phaseIndex ph].recognised = false
  · rwa [State.takeChange_of_same same]
  · cases due : s.inputs[phaseIndex ph].changeAt with
    | none => rwa [State.takeChange_of_none due]
    | some x =>
      rw [State.takeChange_of_due due same]
      by_cases current : ∃ r p, s.tracker = .inStep r ∧ s.plans.active = some p ∧ r.period = .green ∧ (slotAt p r.cur).phase = ph
      · obtain ⟨r, p, inStep, active, green, phase⟩ := current
        rw [State.judgeDrop_of_current (s := s.recognise ph false) inStep active green phase]
        exact h.clearing inStep (r' := { r with period := .clearance x }) rfl nofun rfl rfl rfl
      · rw [State.judgeDrop_of_other (s := s.recognise ph false) fun r p dropped => current ⟨r, p, dropped⟩]
        obtain ⟨riders, apart, follow, green, idle⟩ := h
        refine ⟨State.RidersLinked.congr riders rfl rfl, apart, follow, fun r p inStep shows active => ?_, idle⟩
        rw [State.recognise_inputs_other fun phase => current ⟨r, p, inStep, active, shows, phase⟩]
        exact green r p inStep shows active

/-! ### Every command and event -/

theorem settleTimeout (h : s.Linked) : s.settleTimeout.Linked := by
  unfold State.settleTimeout
  split
  · split
    · exact h.congr rfl rfl rfl rfl rfl
    · exact h
  · exact h

theorem judgeRelease (h : s.Linked) : s.judgeRelease.1.Linked := by
  unfold State.judgeRelease
  split
  · exact h
  · exact h
  · split
    · exact h
    · exact State.Linked.cause (h.congr rfl rfl rfl rfl rfl)

theorem judgeApproach (h : s.Linked) (b : Byte) (cfg : Option ApproachConfig) : (s.judgeApproach b cfg).1.Linked := by
  unfold State.judgeApproach State.writeApproach
  split
  · split
    · exact h
    · simp only [okWith]
      split <;> exact h.congr rfl rfl rfl rfl rfl
  · exact h

theorem judgePolicy (h : s.Linked) (b d r a t hz u : Half) (pr : Byte) : (s.judgePolicy b d r a t hz u pr).1.Linked := by
  unfold State.judgePolicy
  split
  · exact h
  · exact State.Linked.cause (h.congr rfl rfl rfl rfl rfl)

theorem activate (h : s.Linked) : s.activate.Linked := by
  have riders := State.RidersLinked.activate h.1
  have settled := endures.settleCounts (fun _ => true) h
  unfold State.activate at riders ⊢
  simp only [] at riders ⊢
  generalize s.settleCounts _ = u at settled riders ⊢
  refine settled.of_thins (fun c m live => ?_) rfl rfl rfl riders
  have replaced : (tabulate (n := 4) fun c => suspended u.channels[c])[c] = suspended u.channels[c] := tabulate_get _ c
  exact (State.Guarded.suspended_live ((congrArg Channel.live replaced).symm.trans live)).2

theorem formOverride (h : s.Linked) : s.formOverride.Linked := by
  unfold State.formOverride
  split
  · split
    · exact h.activate
    · exact h
  · split
    · exact h
    · exact h.congr rfl rfl rfl rfl rfl
  · split
    · exact h.activate
    · exact h

theorem resumeVisit (h : s.Linked) : s.resumeVisit.Linked := by
  unfold State.resumeVisit State.finishResume
  split
  · next c resuming =>
    have visited := h.steady (.visitChannel (s := s) (by rw [resuming]; nofun) c) (State.RidersLinked.visitChannel h.1 c)
    simp only []
    generalize s.visitChannel c = u at visited ⊢
    split
    · exact endures.same (s := State.cause { u with ovr := { u.ovr with state := .inactive } }) rfl
        (State.Linked.cause (visited.congr rfl rfl rfl rfl rfl))
    · exact visited.congr rfl rfl rfl rfl rfl
  · exact h

theorem kept : Kept State.Linked fun _ => True where
  toEndures := endures
  powerOn := fun _ a b => (invariantsHoldAtReset a b).2.2.2.2.1
  cleared := fun _ h => h.congr rfl rfl rfl rfl rfl
  controlled := fun _ _ _ _ h => h.congr rfl rfl rfl rfl rfl
  released := judgeRelease
  settles := settleTimeout
  unstaged := fun h => h.congr rfl rfl rfl rfl rfl
  staged := fun _ h => h.congr rfl rfl rfl rfl rfl
  approach := fun b _ _ _ _ _ h => h.judgeApproach b _
  policy := fun b d r a t hz u pr h => h.judgePolicy b d r a t hz u pr
  formed := formOverride
  resumed := resumeVisit
  forced := fun b a n h => h.judgeForce b a n
  turned := takeTurn
  starts := fun {s} c h => h.steady (.startExtension s c) (State.RidersLinked.startExtension h.1 c)
  onset := fun ph h => h.onset ph
  dropped := fun ph h => h.dropped ph
  ticked := fun {s} pg chk ovr h => h.steady (.tick s pg chk ovr) (State.RidersLinked.tick h.1 pg chk ovr)
  radioTaken := fun _ core h => h.congr (congrArg Core.channels core) (congrArg Core.table core) (congrArg Core.tracker core)
    (congrArg (fun c : Core => c.plans.active) core) (congrArg Core.recognised core)
  radioEnds := fun core h => h.congr (congrArg Core.channels core) (congrArg Core.table core) (congrArg Core.tracker core)
    (congrArg (fun c : Core => c.plans.active) core) (congrArg Core.recognised core)
  radioWindow := fun _ _ _ => trivial
  handoffWindow := fun _ _ => trivial
  closed := fun {s i e} r found h => h.steady (.closeEntry s i e r) (State.RidersLinked.closeEntry h.1 found r)
  created := fun {s i e} free _ new h => by
    refine h.steady (.created s i _) (State.RidersLinked.cause (State.RidersLinked.unseated h.1
      (State.RidersLinked.unlisted h.1 fun c ⟨f, found, _⟩ => nomatch free.symm.trans found) fun f c same granted => ?_))
    cases same
    exact nomatch new.tracking.symm.trans granted
  updated := fun {s i e r level w} found _ _ _ h =>
    h.steady (.updateEntry s i e r level w) (State.RidersLinked.updateEntry h.1 found r level w)

/-- Outside RESET_CORE no block takes a reset. -/
theorem blockReset (h : s.Linked) (quiet : ∀ left, s.port.command ≠ .resetCore left) (b : Block) : (s.blockReset b).Linked := by
  unfold State.blockReset
  split
  · next running => exact absurd running (quiet _)
  · exact h

end State.Linked

/-- Settles O58: a guard moves only with what it guards, and a channel comes up only where it has its place. -/
theorem guardsHold : Obligations.GuardsHold :=
  ⟨fun _ _ h e => State.Guarded.kept.step (fun _ b _ hu => hu.blockReset b) h e,
    fun _ _ _ h quiet e => State.Linked.kept.step (fun _ b port hu => hu.blockReset (port ▸ quiet) b) h e⟩

end Sys2Proof.Machine
end

end
